-- ==== Sys2Proof/Word.lean ====
section
/-! DEFINITION. The plain words and names of the NB-4210: fixed-width quantities, groups, lanes,
stations, and the containers that hold one value for each of them. -/

namespace Sys2Proof

/-- A byte of a frame or of an Event Port record. -/
abbrev Byte := BitVec 8

/-- A word of an Event Port stream (R171). -/
abbrev Word32 := BitVec 32

/-- A value of the session clock (R177). -/
abbrev Tick := BitVec 32

/-- A slot number, 0 to 65,535 (R1). -/
abbrev Slot := BitVec 16

/-- A version, wrapping from 65,535 to 0 and compared for equality only (R8). -/
abbrev Version := BitVec 16

/-- A forwarding group (R7). -/
inductive Group where
  | g0
  | g1
  deriving DecidableEq, Repr

/-- A lane of the Mirror Bus (R79). -/
inductive Lane where
  | a
  | b
  deriving DecidableEq, Repr

/-- A station number: two members and the witness. -/
inductive Station where
  | s0
  | s1
  | s2
  deriving DecidableEq, Repr

/-- The lane that is not `l`. -/
def Lane.other : Lane → Lane
  | .a => .b
  | .b => .a

/-- The group that is not `g`. -/
def Group.other : Group → Group
  | .g0 => .g1
  | .g1 => .g0

/-- A station's number. -/
def Station.toNat : Station → Nat
  | .s0 => 0
  | .s1 => 1
  | .s2 => 2

/-- A group's number. -/
def Group.toNat : Group → Nat
  | .g0 => 0
  | .g1 => 1

/-- One value for each forwarding group. -/
structure PerGroup (α : Type) where
  g0 : α
  g1 : α
  deriving DecidableEq, Repr

/-- The value of group `g`. -/
def PerGroup.get {α : Type} (x : PerGroup α) : Group → α
  | .g0 => x.g0
  | .g1 => x.g1

/-- `x` with group `g`'s value replaced. -/
def PerGroup.set {α : Type} (x : PerGroup α) (g : Group) (v : α) : PerGroup α :=
  match g with
  | .g0 => { x with g0 := v }
  | .g1 => { x with g1 := v }

/-- The same value for both groups. -/
def PerGroup.both {α : Type} (v : α) : PerGroup α := { g0 := v, g1 := v }

/-- One value for each lane. -/
structure PerLane (α : Type) where
  a : α
  b : α
  deriving DecidableEq, Repr

/-- The value of lane `l`. -/
def PerLane.get {α : Type} (x : PerLane α) : Lane → α
  | .a => x.a
  | .b => x.b

/-- `x` with lane `l`'s value replaced. -/
def PerLane.set {α : Type} (x : PerLane α) (l : Lane) (v : α) : PerLane α :=
  match l with
  | .a => { x with a := v }
  | .b => { x with b := v }

/-- The same value for both lanes. -/
def PerLane.both {α : Type} (v : α) : PerLane α := { a := v, b := v }

/-- One value for each station number. -/
structure PerStation (α : Type) where
  s0 : α
  s1 : α
  s2 : α
  deriving DecidableEq, Repr

/-- The value of station `y`. -/
def PerStation.get {α : Type} (x : PerStation α) : Station → α
  | .s0 => x.s0
  | .s1 => x.s1
  | .s2 => x.s2

/-- `x` with station `y`'s value replaced. -/
def PerStation.set {α : Type} (x : PerStation α) (y : Station) (v : α) : PerStation α :=
  match y with
  | .s0 => { x with s0 := v }
  | .s1 => { x with s1 := v }
  | .s2 => { x with s2 := v }

/-- The same value for every station. -/
def PerStation.all {α : Type} (v : α) : PerStation α := { s0 := v, s1 := v, s2 := v }

end Sys2Proof
end

