-- ==== Sys2Proof/Syntax.lean ====
section
/-! DEFINITION. The commands of the NB-4210: one constructor for each row of spec/opcode_table.json.

A record that the engine sends reaches the part by INGRESS_RECORD_ARRIVAL, which carries its words; the rows PROFILE to
MALFORMED_RECORD of the ingress stream then take the record in hand, so they carry no operand of their own (log 3). A frame
of the bus reaches the part as a reception on a lane (log 4). -/

namespace Sys2Proof

/-- What a lane's line monitor reports (R81). -/
inductive LineReport where
  | noFault
  | openCircuit
  | shortCircuit
  deriving DecidableEq, Repr

/-- What a receiver hears on a lane from a start delimiter until the lane falls idle (R89): its whole bytes from the first
header byte on, the bits after the last whole byte, and whether it began while this station was sending on the lane (R79). -/
structure Reception where
  bytes : List Byte
  oddBits : Fin 8
  duringOwn : Bool
  deriving DecidableEq, Repr

/-- The length of a reception in bit times: 8 for each byte (R79). -/
def Reception.bitTimes (r : Reception) : Nat := 8 * r.bytes.length + r.oddBits.val

/-- A command: one row of spec/opcode_table.json, with its operands. -/
inductive Instr where
  /-- RESET (R176): the reset input is asserted, or power comes on. -/
  | reset
  /-- CLEAR_WALK_VISIT (R17). -/
  | clearWalkVisit
  /-- CLEAR_WALK_END (R17). -/
  | clearWalkEnd
  /-- PROFILE (R174): the record in hand, a PROFILE, is taken. -/
  | profileRecord
  /-- OPEN (R23 to R25): the record in hand, an OPEN, is taken. -/
  | openRecord
  /-- UPDATE (R26, R27). -/
  | updateRecord
  /-- CLOSE (R28, R29). -/
  | closeRecord
  /-- ALIVE (R35). -/
  | aliveRecord
  /-- RELEASE (R164, R165). -/
  | releaseRecord
  /-- HANDOVER (R133). -/
  | handoverRecord
  /-- STATUS (R181). -/
  | statusRecord
  /-- MALFORMED_RECORD (R173): the record in hand is of an unknown kind. -/
  | malformedRecord
  /-- EGRESS_RECORD_TAKEN (R179). -/
  | egressRecordTaken
  /-- REVOKED (R76): a REVOKED record is placed. -/
  | revokedRecord
  /-- BATCH (R163): a BATCH record is placed. -/
  | batchRecord
  /-- ALIGN (R82). -/
  | alignFrame (lane : Lane) (rx : Reception)
  /-- PULSE (R113). -/
  | pulseFrame (lane : Lane) (rx : Reception)
  /-- DELTA (R62). -/
  | deltaFrame (lane : Lane) (rx : Reception)
  /-- DROP (R68). -/
  | dropFrame (lane : Lane) (rx : Reception)
  /-- RECEIPT (R48). -/
  | receiptFrame (lane : Lane) (rx : Reception)
  /-- CLAIM (R131, R147). -/
  | claimFrame (lane : Lane) (rx : Reception)
  /-- ANSWER (R123). -/
  | answerFrame (lane : Lane) (rx : Reception)
  /-- YIELD (R120). -/
  | yieldFrame (lane : Lane) (rx : Reception)
  /-- BAD_FRAME (R92). -/
  | badFrame (lane : Lane) (rx : Reception)
  /-- FRAGMENT (R89). -/
  | fragment (lane : Lane) (rx : Reception)
  /-- TRANSMITTER_TAKE (R97). -/
  | transmitterTake
  /-- FRAME_START (R98): the lane of the frame in hand has been idle for 48 bit times. -/
  | frameStart
  /-- COLLISION (R99). -/
  | collision
  /-- BACKOFF_END (R99). -/
  | backoffEnd
  /-- FRAME_COMPLETE (R98). -/
  | frameComplete
  /-- RECEIPT_TIMER_EXPIRY (R52): of the oldest In-Flight record. -/
  | receiptTimerExpiry
  /-- PAUSE_TIMER_EXPIRY (R54). -/
  | pauseTimerExpiry
  /-- RECEIPT_DELAY (R72). -/
  | receiptDelay
  /-- LIVENESS_TIMER_EXPIRY (R111), of one station's Peer Record. -/
  | livenessTimerExpiry (station : Station)
  /-- PULSE_EPOCH (R103). -/
  | pulseEpoch
  /-- ENGINE_SILENCE_TIMER_EXPIRY (R36). -/
  | engineSilenceTimerExpiry
  /-- LISTEN_TIMER_EXPIRY (R119), of one group. -/
  | listenTimerExpiry (group : Group)
  /-- VACANCY_TIMER_EXPIRY (R120), of one group. -/
  | vacancyTimerExpiry (group : Group)
  /-- DEAD_TIME_EXPIRY (R124 to R126), of one group. -/
  | deadTimeExpiry (group : Group)
  /-- HOLD_OFF_EXPIRY (R128), of one group. -/
  | holdOffExpiry (group : Group)
  /-- HANDOVER_TIMER_EXPIRY (R134), of one group. -/
  | handoverTimerExpiry (group : Group)
  /-- HEALTH_WINDOW_END (R83), of one lane. -/
  | healthWindowEnd (lane : Lane)
  /-- QUIET_EXPIRY (R84), of one lane. -/
  | quietExpiry (lane : Lane)
  /-- RETRAIN_TIMER_EXPIRY (R85), of one lane, with what its line monitor reports at that moment. -/
  | retrainTimerExpiry (lane : Lane) (report : LineReport)
  /-- LINE_FAULT (R81): an open or a short of one lane has been reported without a break for 1 ms. -/
  | lineFault (lane : Lane) (report : LineReport)
  /-- LINE_FAULT_CLEAR (R85): the monitor's report of one lane returns to no fault. -/
  | lineFaultClear (lane : Lane)
  /-- ALIGN_DUE (R82), of one lane. -/
  | alignDue (lane : Lane)
  /-- GRANT_LAPSE (R146), of one group's Vote Record. -/
  | grantLapse (group : Group)
  /-- REFRESH_WALK_VISIT (R20). -/
  | refreshWalkVisit
  /-- REFRESH_WALK_END (R19). -/
  | refreshWalkEnd
  /-- TAKEOVER_WALK_VISIT (R154), of one group's walk. -/
  | takeoverWalkVisit (group : Group)
  /-- TAKEOVER_WALK_END (R163), of one group's walk. -/
  | takeoverWalkEnd (group : Group)
  /-- FORGET_WALK_VISIT (R168), of one group's walk. -/
  | forgetWalkVisit (group : Group)
  /-- FORGET_WALK_END (R168), of one group's walk. -/
  | forgetWalkEnd (group : Group)
  /-- INGRESS_RECORD_ARRIVAL (R171): words that the engine holds valid, in order. -/
  | ingressRecordArrival (words : List Word32)
  /-- RESET_END (R176): the reset input is released, or power-on completes. -/
  | resetEnd
  deriving DecidableEq, Repr

end Sys2Proof
end

