-- ==== Sys2Proof/Decode.lean ====
section
/-! DEFINITION. Reading a command from a word of spec/opcode_table.json. No row of the table gives bits ("fields" is empty in each,
and no row has a mask or a pattern), so no word spells a command. -/

namespace Sys2Proof

/-- The command that the bits of a table word spell: none, since no row has bits. -/
def decodeTableWord (_nbits _w : Nat) : Option Instr := none

end Sys2Proof
end

