-- ==== Sys2Proof/Config.lean ====
section
/-! DEFINITION. What the manual leaves open: opaque constants with no body. A statement that holds of the model holds whatever
they are. -/

namespace Sys2Proof

/-- The `n`-th choice of an order that the manual leaves to either side ("either may be first", R162; "take no order among
themselves", R110 with R135 and R138). Logs 8 and 10. -/
opaque Config.freeChoice : Nat → Bool

/-- The ingress zone stored for an OPEN whose zone byte is above 15: R25 says the field cannot exceed 15, R185 gives it a byte,
and no rule says what is stored. Log 9. -/
opaque Config.zoneAbove15 : BitVec 8 → BitVec 4

end Sys2Proof
end

