-- ==== Sys2Proof/Machine/State.lean ====
section
/-! DEFINITION. The state of the NB-4210, block by block (00_scope.md, "Block overview"), as plain data; its value after reset;
and the reasons a step can stop, of which the manual gives none. -/

namespace Sys2Proof.Machine

/-! ### The session entry (R1 to R13) -/

/-- An address of either family. -/
inductive Address where
  | v4 (addr : BitVec 32)
  | v6 (addr : BitVec 128)
  deriving DecidableEq, Repr

/-- A source and a destination address of one family (R3). -/
inductive AddressPair where
  | v4 (src dst : BitVec 32)
  | v6 (src dst : BitVec 128)
  deriving DecidableEq, Repr

/-- A source port and a destination port; for protocol 1 the ICMP identifier and 0 (R3). -/
structure Ports where
  src : BitVec 16
  dst : BitVec 16
  deriving DecidableEq, Repr

/-- The key of an entry. Key equality (R3) is equality of this structure. -/
structure Key where
  addrs : AddressPair
  protocol : BitVec 8
  ports : Option Ports
  zone : BitVec 4
  deriving DecidableEq, Repr

/-- The NAT kind (R4). -/
inductive NatKind where
  | source
  | destination
  deriving DecidableEq, Repr

/-- A NAT part (R4). -/
structure NatPart where
  kind : NatKind
  addr : Address
  port : Option (BitVec 16)
  deriving DecidableEq, Repr

/-- A TCP tracking state (R5). -/
inductive TrackingState where
  | opening
  | established
  | closing
  deriving DecidableEq, Repr

/-- The four fields of one direction of a TCP part (R5). -/
structure TcpDir where
  seqHi : BitVec 32
  ackHi : BitVec 32
  window : BitVec 32
  rate : BitVec 16
  deriving DecidableEq, Repr

/-- A TCP part (R5). -/
structure TcpPart where
  tracking : TrackingState
  fwd : TcpDir
  rev : TcpDir
  deriving DecidableEq, Repr

/-- The states of an entry that is not FREE (R13). FREE is the absence of an entry: a FREE slot holds only its state (R12). -/
inductive EntryState where
  | dirty
  | sent
  | changed
  | clean
  | dropDue
  | dropSent
  | dropWait
  | shadow
  deriving DecidableEq, Repr

/-- An entry that is not FREE. Its owner follows from its state (R2). `noted` is the refresh walk's note (R20). -/
structure Entry where
  state : EntryState
  group : Group
  key : Key
  nat : Option NatPart
  tcp : Option TcpPart
  lifetime : BitVec 16
  refTick : Tick
  ageOffset : BitVec 32
  version : Version
  peerMayHold : Bool
  attempts : Nat
  installed : Bool
  noted : Bool
  deriving DecidableEq, Repr

/-- What a takeover walk waits for: nothing, a FREE buffer that its visit or its final batch needs (R154, R163), or the release of
the buffer that holds the slot at its cursor (R162). -/
inductive WalkWait where
  | none
  | buffer
  | release
  deriving DecidableEq, Repr

/-- A takeover walk under way (R153): its cursor, the next slot to visit, and what it waits for (R154, R162, R163).
A cursor of 65,536 has passed the last slot. -/
structure TakeoverWalk where
  cursor : Nat
  wait : WalkWait
  deriving DecidableEq, Repr

/-- The walk waits where its cursor stands. -/
def TakeoverWalk.waiting (w : TakeoverWalk) : Bool := decide (w.wait ≠ .none)

/-- The Session Mirror: the session table, slots strictly rising, an unlisted slot being FREE, and the walks (R16). -/
structure Smt where
  table : List (Slot × Entry)
  clearWalk : Option Nat
  refreshWalk : Option Nat
  takeover : PerGroup (Option TakeoverWalk)
  forget : PerGroup (Option Nat)
  deriving DecidableEq, Repr

/-! ### The Replication Unit -/

/-- An In-Flight record (R44). -/
structure InFlight where
  slot : Slot
  version : Version
  completion : Option Tick
  transmitting : Bool
  deriving DecidableEq, Repr

/-- A pair of the Receipt Queue (R71); `waited` says that it has been seen to have waited 2 ms, which stays so (R72). -/
structure Receipt where
  slot : Slot
  version : Version
  join : Tick
  transmitting : Bool
  waited : Bool
  deriving DecidableEq, Repr

/-- The Replication Unit: Send List (R37), In-Flight List (R44), recall mark (R47), pause (R53), Receipt Queue (R71), Revoke
List (R75). -/
structure Rpu where
  sendList : List Slot
  inFlight : List InFlight
  recallMark : Bool
  pauseFlag : Bool
  pauseTimer : Option Tick
  receipts : List Receipt
  revoke : List Slot
  deriving DecidableEq, Repr

/-! ### Roles, claims and frames of the roles -/

/-- A role (R116). -/
inductive Role where
  | dormant
  | listen
  | standby
  | claiming
  | active
  | yielding
  | fenced
  deriving DecidableEq, Repr

/-- A claim kind (R121). -/
inductive ClaimKind where
  | vacant
  | preempt
  | handed
  deriving DecidableEq, Repr

/-- A verdict (R123). -/
inductive Verdict where
  | concede
  | contest
  | vote
  | deny
  deriving DecidableEq, Repr

/-- The content of a CLAIM frame (R121); its claim number travels in the header's claim byte (R183). -/
structure ClaimFrame where
  group : Group
  kind : ClaimKind
  number : BitVec 8
  merit : BitVec 8
  deriving DecidableEq, Repr

/-- The content of an ANSWER frame (R123). -/
structure AnswerFrame where
  group : Group
  claimer : Station
  verdict : Verdict
  number : BitVec 8
  incomplete : Bool
  deriving DecidableEq, Repr

/-- The active verdict of a Claim Record: the verdict, when it was taken, and a CONCEDE's incomplete flag (R123). -/
structure ActiveVerdict where
  verdict : Verdict
  tick : Tick
  incomplete : Bool
  deriving DecidableEq, Repr

/-- A Claim Record (R121). `held` says that the claim has met its deadline and waits for the forget walk (R129). -/
structure ClaimRecord where
  kind : ClaimKind
  number : BitVec 8
  txTick : Option Tick
  witnessVerdict : Option Verdict
  activeVerdict : Option ActiveVerdict
  deadline : Option Tick
  held : Bool
  deriving DecidableEq, Repr

/-- The vacancy timer of a group (R120): once run out it stays so until one of its conditions ceases. -/
inductive Vacancy where
  | stopped
  | running (deadline : Tick)
  | runOut
  deriving DecidableEq, Repr

/-- The frame a YIELDING group holds back until its flush completes (R134). -/
inductive PendingFrame where
  | concede (claimer : Station) (number : BitVec 8)
  | yield
  deriving DecidableEq, Repr

/-- What the Role Controller holds for one group (R116), its FP line among it (R117). -/
structure GroupRec where
  role : Role
  fp : Bool
  listen : Option Tick
  vacancy : Vacancy
  claim : Option ClaimRecord
  deadTimer : Option Tick
  handover : Option Tick
  pendingFrame : Option PendingFrame
  holdOff : Option Tick
  claimNumber : BitVec 8
  sentMerit : BitVec 8
  rebirthMark : Bool
  peerClaiming : Bool
  contested : Option (BitVec 8)
  deriving DecidableEq, Repr

/-- The set of fence causes (R137). -/
structure FenceCauses where
  engineSilent : Bool
  engineUnfit : Bool
  noQuorum : Bool
  duplicateStation : Bool
  deriving DecidableEq, Repr

/-- The Role Controller. -/
structure Rcu where
  groups : PerGroup GroupRec
  fence : FenceCauses
  latch : Bool
  silence : Option Tick
  pulseSent : Bool
  deriving DecidableEq, Repr

/-! ### The Mirror Bus Interface -/

/-- A lane state (R80). -/
inductive LaneState where
  | off
  | training
  | up
  | degraded
  | down
  deriving DecidableEq, Repr

/-- What the MBI holds for one lane (R80 to R85). -/
structure LaneRec where
  state : LaneState
  monitor : LineReport
  windowEnd : Option Tick
  badCount : Nat
  lastValid : Option Tick
  quietElapsed : Bool
  retrain : Option Tick
  alignMark : Option Tick
  alignDue : Bool
  deriving DecidableEq, Repr

/-- A frame the transmitter has in hand, by what its owner needs to hear of its outcome (R100). The pairs of a RECEIPT and the
records of a DELTA or DROP are those whose transmitting flag is set (R43, R72). -/
inductive TxFrame where
  | align (lane : Lane)
  | pulse (merits : PerGroup (BitVec 8))
  | delta
  | drop
  | receipt
  | claim (frame : ClaimFrame)
  | answer (frame : AnswerFrame)
  | yield (group : Group)
  deriving DecidableEq, Repr

/-- Where the frame in hand stands (R98, R99): waiting for an idle lane, being sent, or in the backoff of `r` times 40 µs. -/
inductive TxPhase where
  | waitIdle
  | sending
  | backoff (r : Nat)
  deriving DecidableEq, Repr

/-- The frame in hand (R97): its bytes from header to check, the lane of its present copy, whether a copy on the other lane is
still to be considered (R96), whether a copy has completed, its collision count, its phase, and whether the role it was queued
under has changed since (R132). -/
structure InHand where
  frame : TxFrame
  bytes : List Byte
  lane : Lane
  secondCopy : Bool
  completedAny : Bool
  collisions : Nat
  phase : TxPhase
  stale : Bool
  deriving DecidableEq, Repr

/-- The Mirror Bus Interface: lanes, working lane (R95), copy expectations (R94), waiting lists and the due PULSE (R97), frame
in hand, backoff register (R99). -/
structure Mbi where
  lanes : PerLane LaneRec
  workingLane : Option Lane
  expect : PerStation (Option (Lane × List Byte))
  answers : List AnswerFrame
  claims : List ClaimFrame
  yields : List Group
  pulseDue : Bool
  inHand : Option InHand
  lfsr : BitVec 16
  deriving DecidableEq, Repr

/-! ### The Pulse and Peer Unit and the Witness Unit -/

/-- The state of a Peer Record (R109). -/
inductive PeerState where
  | absent
  | live
  | lost
  deriving DecidableEq, Repr

/-- A Peer Record (R109). `heardLanes` is the heard-lanes byte as last reported (R183). -/
structure PeerRec where
  state : PeerState
  incarnation : Option (BitVec 16)
  lastHeard : Option Tick
  heardOn : PerLane (Option Tick)
  roles : PerGroup (Option Role)
  merits : PerGroup (Option (BitVec 8))
  heardLanes : Option (BitVec 8)
  witnessConfigured : Option Bool
  deriving DecidableEq, Repr

/-- The Pulse and Peer Unit. -/
structure Ppu where
  epoch : Option Tick
  pendingHealth : BitVec 8
  currentHealth : BitVec 8
  merits : PerGroup (BitVec 8)
  peers : PerStation PeerRec
  deriving DecidableEq, Repr

/-- The grant of a Vote Record that is GRANTED (R146). -/
structure Grant where
  grantee : Station
  tick : Tick
  number : BitVec 8
  deriving DecidableEq, Repr

/-- What a Vote Record remembers of its last answer to one member (R146): VOTE when `vote` is set, DENY otherwise. -/
structure AnswerMemory where
  number : BitVec 8
  vote : Bool
  deriving DecidableEq, Repr

/-- A Vote Record (R146): OPEN when `grant` is absent. -/
structure VoteRecord where
  grant : Option Grant
  memory0 : Option AnswerMemory
  memory1 : Option AnswerMemory
  deriving DecidableEq, Repr

/-- The Witness Unit. -/
structure Wtu where
  votes : PerGroup VoteRecord
  deriving DecidableEq, Repr

/-! ### The Takeover Unit -/

/-- One direction of an install record's TCP fields (R158): ack_hi and the takeover window. -/
structure InstallDir where
  ackHi : BitVec 32
  low : BitVec 32
  high : BitVec 32
  deriving DecidableEq, Repr

/-- The TCP fields of an install record (R158). -/
structure InstallTcp where
  tracking : TrackingState
  fwd : InstallDir
  rev : InstallDir
  deriving DecidableEq, Repr

/-- An install record (R158); `remaining` is the remaining lifetime in seconds. -/
structure InstallRecord where
  slot : Slot
  group : Group
  key : Key
  nat : Option NatPart
  tcp : Option InstallTcp
  remaining : BitVec 16
  deriving DecidableEq, Repr

/-- An install record in a buffer, with its taken note (R161, R165). -/
structure BufferRec where
  record : InstallRecord
  taken : Bool
  deriving DecidableEq, Repr

/-- An install buffer (R161). -/
inductive Buffer where
  | free
  | filling (group : Group) (recs : List BufferRec)
  | posted (group : Group) (recs : List BufferRec) (final emitted void : Bool)
  deriving DecidableEq, Repr

/-- The Takeover Unit: eight install buffers, and the POSTED ones not yet emitted in the order they were posted (R163). -/
structure Tku where
  buffers : Vector Buffer 8
  postOrder : List (Fin 8)
  deriving DecidableEq, Repr

/-! ### The Event Port and the PROFILE -/

/-- The configuration an accepted PROFILE fixes, after the clamps of R175. Times are in milliseconds, the grace in seconds. -/
structure Profile where
  station : Station
  incarnation : BitVec 16
  witnessConfigured : Bool
  base : PerGroup (BitVec 8)
  preempt : PerGroup Bool
  margin : BitVec 8
  pulseInterval : Nat
  missLimit : Nat
  deadTime : Nat
  handoverTimeout : Nat
  silenceLimit : Nat
  transit : Nat
  grace : Nat
  laneEnabled : PerLane Bool
  deriving DecidableEq, Repr

/-- A cause of refusal (R182). -/
inductive RefusalCause where
  | notReady
  | profileLocked
  | malformed
  | badSlot
  | slotBusy
  | notActive
  | noSession
  | badBuffer
  | noPeer
  deriving DecidableEq, Repr

/-- The cause of a role change, as a ROLE notice carries it (R142, R182). -/
inductive RoleCause where
  | profile
  | peerServing
  | listenEnd
  | vacant
  | preempt
  | handed
  | claimWon
  | takenUnflushed
  | claimFailed
  | preempted
  | handover
  | splitBrain
  | handedAway
  | flushed
  | handoverTimeout
  | peerLost
  | fence
  | unfenced
  deriving DecidableEq, Repr

/-- One peer's part of a STATUS answer (R181). -/
structure PeerReport where
  station : Station
  state : PeerState
  incarnation : Option (BitVec 16)
  witnessConfigured : Bool
  deriving DecidableEq, Repr

/-- The content of a STATUS answer (R181). -/
structure StatusReport where
  profileTaken : Bool
  station : Station
  roles : PerGroup Role
  fence : FenceCauses
  latch : Bool
  lanes : PerLane LaneState
  workingLane : Option Lane
  pauseFlag : Bool
  refresh : Bool
  takeover : PerGroup Bool
  forget : PerGroup Bool
  lowPeer : PeerReport
  highPeer : PeerReport
  owned : Nat
  shadow : Nat
  sendLength : Nat
  inFlightLength : Nat
  deriving DecidableEq, Repr

/-- An egress record (R178). A REFUSED record carries the refused kind as the record gave it. -/
inductive EgressRecord where
  | role (group : Group) (role : Role) (cause : RoleCause) (skipped : Bool)
  | peer (station : Station) (state : PeerState) (incarnation : Option (BitVec 16))
  | lane (lane : Lane) (state : LaneState)
  | refused (kind : Byte) (slot : Slot) (cause : RefusalCause)
  | status (report : StatusReport)
  | revoked (slots : List Slot)
  | batch (buffer : Fin 8) (group : Group) (grace : Nat) (final : Bool) (recs : List InstallRecord)
  deriving DecidableEq, Repr

/-- The mark of a group with a coalesced ROLE notice (R180). -/
structure RoleMark where
  cause : RoleCause
  leftActive : Bool
  skipped : Bool
  deriving DecidableEq, Repr

/-- The Event Port: the held reset (R176), the two FIFOs and the notice marks. A record of the ingress FIFO is the list of its
words that have passed (R171). -/
structure Evp where
  resetHeld : Bool
  ingress : List (List Word32)
  egress : List EgressRecord
  roleMarks : PerGroup (Option RoleMark)
  peerMarks : PerStation Bool
  laneMarks : PerLane Bool
  deriving DecidableEq, Repr

/-! ### The part, the queue, reset -/

/-- The part: its eight blocks, the PROFILE lock with the configuration (R174), and the session clock (R177). `draws` is the
model's own counter of free choices. -/
structure Part where
  evp : Evp
  profile : Option Profile
  clock : Tick
  smt : Smt
  rpu : Rpu
  mbi : Mbi
  ppu : Ppu
  rcu : Rcu
  wtu : Wtu
  tku : Tku
  draws : Nat
  deriving DecidableEq, Repr

/-- The machine: the part, and the commands that wait, first in, first out. -/
structure State extends Part where
  pending : List Instr
  deriving DecidableEq, Repr

/-- The reasons a step can stop with a fault. There is none: the manual describes no condition that stops the part. Safe: no
meaning raises a fault. -/
inductive Fault where
  deriving DecidableEq, Repr

/-- The reasons a step can be refused. -/
inductive Refusal where
  /-- Raised only by an arm of `exec` whose command has no meaning yet; no arm raises it. Safe: a run stops there. -/
  | notModelled (mnemonic : String)
  deriving DecidableEq, Repr

/-- A group after reset (R116, R117). -/
def GroupRec.reset : GroupRec :=
  { role := .dormant, fp := false, listen := none, vacancy := .stopped, claim := none, deadTimer := none, handover := none,
    pendingFrame := none, holdOff := none, claimNumber := 0, sentMerit := 0, rebirthMark := false, peerClaiming := false,
    contested := none }

/-- A lane after reset (R80 to R85). -/
def LaneRec.reset : LaneRec :=
  { state := .off, monitor := .noFault, windowEnd := none, badCount := 0, lastValid := none, quietElapsed := false,
    retrain := none, alignMark := none, alignDue := false }

/-- A Peer Record after reset (R109). -/
def PeerRec.reset : PeerRec :=
  { state := .absent, incarnation := none, lastHeard := none, heardOn := .both none, roles := .both none, merits := .both none,
    heardLanes := none, witnessConfigured := none }

/-- No fence cause applies. -/
def FenceCauses.none : FenceCauses :=
  { engineSilent := false, engineUnfit := false, noQuorum := false, duplicateStation := false }

/-- The part at the moment its reset ends (R176, R177): every block at the reset value its rules give, the clear walk under way
at slot 0 (R17), the clock at 0. The session table lists nothing, the backoff register is 0 and the line monitors report no
fault: DESIGN CHOICE, logs 5, 6 and 14. -/
def Part.reset : Part :=
  { evp := { resetHeld := false, ingress := [], egress := [], roleMarks := .both none, peerMarks := .all false,
             laneMarks := .both false }
    profile := none
    clock := 0
    smt := { table := [], clearWalk := some 0, refreshWalk := none, takeover := .both none, forget := .both none }
    rpu := { sendList := [], inFlight := [], recallMark := false, pauseFlag := false, pauseTimer := none, receipts := [],
             revoke := [] }
    mbi := { lanes := .both .reset, workingLane := none, expect := .all none, answers := [], claims := [], yields := [],
             pulseDue := false, inHand := none, lfsr := 0 }
    ppu := { epoch := none, pendingHealth := 0, currentHealth := 0, merits := .both 0, peers := .all .reset }
    rcu := { groups := .both .reset, fence := .none, latch := false, silence := none, pulseSent := false }
    wtu := { votes := .both { grant := none, memory0 := none, memory1 := none } }
    tku := { buffers := Vector.replicate 8 .free, postOrder := [] }
    draws := 0 }

/-- The machine right after reset: the part as above, and no command waiting. -/
def State.reset : State := { toPart := Part.reset, pending := [] }

end Sys2Proof.Machine
end

