-- ==== Sys2Proof/Machine/Ops.lean ====
section
/-! DEFINITION. The named operations that every block shares: the configuration and what follows from it, the clock and its
timers, the entry of a slot with its place in the lists (R14), the records of groups, lanes and peers, free choices. -/

namespace Sys2Proof.Machine

/-! ### Configuration -/

/-- The pulse interval in force, in milliseconds; 0 before the PROFILE. -/
def Part.pulseInterval (p : Part) : Nat := (p.profile.map (·.pulseInterval)).getD 0

/-- The hold-down: the pulse interval multiplied by the miss limit (R175); 0 before the PROFILE. -/
def Part.holdDown (p : Part) : Nat := (p.profile.map fun c => c.pulseInterval * c.missLimit).getD 0

/-- The receipt timeout: twice the pulse interval, held within 20 to 500 ms (R51). -/
def Part.receiptTimeout (p : Part) : Nat := min 500 (max 20 (2 * p.pulseInterval))

/-- The dead time in force (R122). -/
def Part.deadTime (p : Part) : Nat := (p.profile.map (·.deadTime)).getD 0

/-- The handover timeout in force (R122, R134). -/
def Part.handoverTimeout (p : Part) : Nat := (p.profile.map (·.handoverTimeout)).getD 0

/-- Whether the PROFILE says that a witness is configured. -/
def Part.witnessConfigured (p : Part) : Bool := (p.profile.map (·.witnessConfigured)).getD false

/-- The station number in force; it reads 0 before the PROFILE (R181). -/
def Part.self (p : Part) : Station := (p.profile.map (·.station)).getD .s0

/-- The incarnation in force (R87). -/
def Part.incarnation (p : Part) : BitVec 16 := (p.profile.map (·.incarnation)).getD 0

/-- The PROFILE has been taken and the station is a member: station 0 or 1. -/
def Part.isMember (p : Part) : Bool := p.profile.isSome && decide (p.self ≠ .s2)

/-- The PROFILE has been taken and the station is a witness (R143). -/
def Part.isWitness (p : Part) : Bool := p.profile.isSome && decide (p.self = .s2)

/-- The member that is not `x`: station 1 for station 0, and station 0 otherwise. -/
def otherMemberOf : Station → Station
  | .s0 => .s1
  | _ => .s0

/-- The other member, of a member (00_scope.md, Terms). -/
def Part.otherMember (p : Part) : Station := otherMemberOf p.self

/-- The preempt margin in force (R120, R131). -/
def Part.margin (p : Part) : Nat := (p.profile.map fun c => c.margin.toNat).getD 0

/-! ### Clock and timers (R177) -/

/-- The tick `ms` milliseconds after now. -/
def Part.after (p : Part) (ms : Nat) : Tick := p.clock + BitVec.ofNat 32 ms

/-- The milliseconds from `t` to now, modulo 2^32 (R6, R177). -/
def Part.since (p : Part) (t : Tick) : Nat := (p.clock - t).toNat

/-- The session clock has reached `deadline`: now is at it, or less than 2^31 ms past it (log 12). -/
def Part.reached (p : Part) (deadline : Tick) : Bool := decide ((p.clock - deadline).toNat < 2147483648)

/-- A timer that may be stopped has run out. -/
def Part.ranOut (p : Part) : Option Tick → Bool
  | some d => p.reached d
  | none => false

/-! ### Free choices -/

/-- The next free choice. -/
def Part.choice (p : Part) : Bool := Config.freeChoice p.draws

/-- The part with one more free choice drawn. -/
def Part.drawn (p : Part) : Part := { p with draws := p.draws + 1 }

/-! ### The session table (R1, R12, R13) -/

/-- The entry listed for `slot`; none is FREE. -/
def tableGet : List (Slot × Entry) → Slot → Option Entry
  | [], _ => none
  | (k, e) :: rest, slot => if k = slot then some e else tableGet rest slot

/-- `table` with `slot` FREE. -/
def tableErase (table : List (Slot × Entry)) (slot : Slot) : List (Slot × Entry) :=
  table.filter fun x => decide (x.1 ≠ slot)

/-- `table` with `e` in `slot`, slots kept rising. -/
def tableInsert : List (Slot × Entry) → Slot → Entry → List (Slot × Entry)
  | [], slot, e => [(slot, e)]
  | (k, x) :: rest, slot, e =>
    if slot.toNat < k.toNat then (slot, e) :: (k, x) :: rest
    else if k = slot then (slot, e) :: rest
    else (k, x) :: tableInsert rest slot e

/-- `table` with the contents of `slot` replaced. -/
def tableSet (table : List (Slot × Entry)) (slot : Slot) : Option Entry → List (Slot × Entry)
  | some e => tableInsert table slot e
  | none => tableErase table slot

/-- The one canonical form of the session table: slots strictly rising. -/
def tableWf : List (Slot × Entry) → Bool
  | [] => true
  | [_] => true
  | (k, _) :: (l, y) :: rest => decide (k.toNat < l.toNat) && tableWf ((l, y) :: rest)

/-- The entry of `slot`; none is FREE. -/
def Part.entry (p : Part) (slot : Slot) : Option Entry := tableGet p.smt.table slot

/-- The live owned states (R13). -/
def EntryState.live : EntryState → Bool
  | .dirty | .sent | .changed | .clean => true
  | _ => false

/-- The closing states (R13). -/
def EntryState.closing : EntryState → Bool
  | .dropDue | .dropSent | .dropWait => true
  | _ => false

/-- Every state but SHADOW is owned by this station (R2). -/
def EntryState.owned : EntryState → Bool
  | .shadow => false
  | _ => true

/-- The states whose slots are on the Send List (R37). -/
def EntryState.awaitsSend : EntryState → Bool
  | .dirty | .dropDue => true
  | _ => false

/-- The states whose slots have an In-Flight record (R44). -/
def EntryState.inFlight : EntryState → Bool
  | .sent | .changed | .dropSent | .dropWait => true
  | _ => false

/-- The states that count as outstanding for the flush of a group (R134). -/
def EntryState.outstanding : EntryState → Bool
  | .clean | .shadow => false
  | _ => true

/-- The owner of an entry follows from its state (R2). -/
def Part.ownerOf (p : Part) (e : Entry) : Station := if e.state.owned then p.self else p.otherMember

/-- The member whose region `slot` lies in (R1). -/
def regionOf (slot : Slot) : Station := if slot.toNat < 32768 then .s0 else .s1

/-- The part with the contents of `slot` replaced, and nothing else. -/
def Part.setTable (p : Part) (slot : Slot) (e : Option Entry) : Part :=
  { p with smt := { p.smt with table := tableSet p.smt.table slot e } }

/-- The Send List after the entry of `slot` becomes `e` (R37): an awaiting slot not yet listed joins at the tail, an awaiting
one keeps its place, any other is taken out. -/
def sendPlace (list : List Slot) (slot : Slot) (e : Option Entry) : List Slot :=
  if (e.map (·.state.awaitsSend)).getD false then (if slot ∈ list then list else list ++ [slot])
  else list.filter fun x => decide (x ≠ slot)

/-- The In-Flight List after the entry of `slot` becomes `e` (R44): the slot's record leaves unless the state keeps one. -/
def flightPlace (list : List InFlight) (slot : Slot) (e : Option Entry) : List InFlight :=
  if (e.map (·.state.inFlight)).getD false then list else list.filter fun r => decide (r.slot ≠ slot)

/-- Changes the entry of `slot` whole, together with its place in the Send List and the In-Flight List, as one act (R14). -/
def Part.putEntry (p : Part) (slot : Slot) (e : Option Entry) : Part :=
  { p with smt := { p.smt with table := tableSet p.smt.table slot e }
           rpu := { p.rpu with sendList := sendPlace p.rpu.sendList slot e
                               inFlight := flightPlace p.rpu.inFlight slot e } }

/-- The In-Flight record of `slot`. -/
def Part.flightOf (p : Part) (slot : Slot) : Option InFlight := p.rpu.inFlight.find? fun r => decide (r.slot = slot)

/-- The entry's age now: the difference of the clock and the reference tick modulo 2^32 plus the offset, held at 2^32 - 1 (R6). -/
def Part.ageNow (p : Part) (e : Entry) : Nat := min (p.since e.refTick + e.ageOffset.toNat) 4294967295

/-- Every slot listed, in rising order, with its entry passed through `f`. -/
def Part.mapEntries (p : Part) (f : Entry → Entry) : Part :=
  { p with smt := { p.smt with table := p.smt.table.map fun x => (x.1, f x.2) } }

/-- How many listed entries satisfy `f`; 0 while the clear walk is under way, since no entry is then read (R15, R17). -/
def Part.countEntries (p : Part) (f : Entry → Bool) : Nat :=
  if p.smt.clearWalk.isSome then 0 else (p.smt.table.filter fun x => f x.2).length

/-- The owned count (R15). -/
def Part.ownedCount (p : Part) : Nat := p.countEntries fun e => e.state.owned

/-- The shadow count (R15). -/
def Part.shadowCount (p : Part) : Nat := p.countEntries fun e => !e.state.owned

/-- The outstanding count of group `g` (R134). -/
def Part.outstanding (p : Part) (g : Group) : Nat :=
  p.countEntries fun e => e.state.outstanding && decide (e.group = g)

/-- The clamps of R25 and R63 on a lifetime: 0 is stored as 1. -/
def clampLifetime (l : BitVec 16) : BitVec 16 := if l = 0 then 1 else l

/-- The clamp of R25 and R63 on an advertised window: at most 536,870,912. -/
def clampWindow (w : BitVec 32) : BitVec 32 := if 536870912 < w.toNat then 536870912 else w

/-- A TCP part with its windows clamped. -/
def clampTcp (t : TcpPart) : TcpPart :=
  { t with fwd := { t.fwd with window := clampWindow t.fwd.window }
           rev := { t.rev with window := clampWindow t.rev.window } }

/-- The slot a walk's cursor stands at. -/
def slotAt (cursor : Nat) : Slot := BitVec.ofNat 16 cursor

/-! ### Groups, lanes, peers, buffers -/

/-- The Role Controller's record of group `g`. -/
def Part.group (p : Part) (g : Group) : GroupRec := p.rcu.groups.get g

/-- The part with group `g`'s record replaced. -/
def Part.setGroup (p : Part) (g : Group) (r : GroupRec) : Part :=
  { p with rcu := { p.rcu with groups := p.rcu.groups.set g r } }

/-- This station's role for group `g`. -/
def Part.role (p : Part) (g : Group) : Role := (p.group g).role

/-- ACTIVE or YIELDING: the roles of a holder (R64), and of a group served (R118). -/
def Role.serving : Role → Bool
  | .active | .yielding => true
  | _ => false

/-- None of ACTIVE, YIELDING and CLAIMING (R120, R121). -/
def Role.idle : Role → Bool
  | .active | .yielding | .claiming => false
  | _ => true

/-- The record of lane `l`. -/
def Part.lane (p : Part) (l : Lane) : LaneRec := p.mbi.lanes.get l

/-- The part with lane `l`'s record replaced. -/
def Part.setLane (p : Part) (l : Lane) (r : LaneRec) : Part :=
  { p with mbi := { p.mbi with lanes := p.mbi.lanes.set l r } }

/-- UP or DEGRADED: the lane states in which role frames and session frames go out (R80). -/
def LaneState.usable : LaneState → Bool
  | .up | .degraded => true
  | _ => false

/-- The lane states in which a lane takes frames (R80). -/
def LaneState.listening : LaneState → Bool
  | .training | .up | .degraded => true
  | _ => false

/-- Lane `l` is UP or DEGRADED. -/
def Part.laneUsable (p : Part) (l : Lane) : Bool := (p.lane l).state.usable

/-- Some lane is UP or DEGRADED (R96, R97). -/
def Part.someLaneUsable (p : Part) : Bool := p.laneUsable .a || p.laneUsable .b

/-- The Peer Record of station `y`. -/
def Part.peer (p : Part) (y : Station) : PeerRec := p.ppu.peers.get y

/-- The part with station `y`'s Peer Record replaced. -/
def Part.setPeer (p : Part) (y : Station) (r : PeerRec) : Part :=
  { p with ppu := { p.ppu with peers := p.ppu.peers.set y r } }

/-- Station `y`'s Peer Record is LIVE. -/
def Part.peerLive (p : Part) (y : Station) : Bool := decide ((p.peer y).state = .live)

/-- The other member's Peer Record is LIVE. -/
def Part.otherLive (p : Part) : Bool := p.peerLive p.otherMember

/-- The two stations that are not this one, the lower number first. Before the PROFILE the station number reads 0, so these are
stations 1 and 2, DEDUCED (log 39). -/
def Part.otherStations (p : Part) : Station × Station :=
  match p.self with
  | .s0 => (.s1, .s2)
  | .s1 => (.s0, .s2)
  | .s2 => (.s0, .s1)

/-- Install buffer `i`. -/
def Part.buffer (p : Part) (i : Fin 8) : Buffer := p.tku.buffers[i]

/-- The part with install buffer `i` replaced. -/
def Part.setBuffer (p : Part) (i : Fin 8) (b : Buffer) : Part :=
  { p with tku := { p.tku with buffers := p.tku.buffers.set i b } }

/-- The buffer numbers, lowest first. -/
def bufferNumbers : List (Fin 8) := [0, 1, 2, 3, 4, 5, 6, 7]

/-- The records a buffer holds; a FREE buffer holds none (R161). -/
def Buffer.recs : Buffer → List BufferRec
  | .free => []
  | .filling _ rs => rs
  | .posted _ rs _ _ _ => rs

/-- A buffer holds `slot` (R162). -/
def Buffer.holds (b : Buffer) (slot : Slot) : Bool := b.recs.any fun r => decide (r.record.slot = slot)

/-- A buffer is FREE. -/
def Buffer.isFree : Buffer → Bool
  | .free => true
  | _ => false

/-- A buffer is FILLING for group `g`. -/
def Buffer.fillingFor (g : Group) : Buffer → Bool
  | .filling g' _ => decide (g' = g)
  | _ => false

/-- The lowest-numbered FREE buffer (R162, R163). -/
def Part.freeBuffer (p : Part) : Option (Fin 8) := bufferNumbers.find? fun i => (p.buffer i).isFree

/-- The FILLING buffer of group `g`'s walk (R161). -/
def Part.fillingBuffer (p : Part) (g : Group) : Option (Fin 8) := bufferNumbers.find? fun i => (p.buffer i).fillingFor g

/-- Some non-FREE buffer holds `slot` (R162). -/
def Part.slotBuffered (p : Part) (slot : Slot) : Bool := bufferNumbers.any fun i => (p.buffer i).holds slot

/-- Appends `slot` to the Revoke List; a slot already there keeps its place (R75). -/
def Part.revokeAppend (p : Part) (slot : Slot) : Part :=
  { p with rpu := { p.rpu with revoke := if slot ∈ p.rpu.revoke then p.rpu.revoke else p.rpu.revoke ++ [slot] } }

/-- The Revoke List has room for `slot` (R67). -/
def Part.revokeRoom (p : Part) (slot : Slot) : Bool :=
  decide (p.rpu.revoke.length < 1024) || decide (slot ∈ p.rpu.revoke)

/-! ### The frame of every command -/

/-- A command that arrives while the reset input is held finds the part in its reset state and leaves it there (R176). -/
def State.whileRunning (s : State) (f : Part → Part) : Host.Outcome State Fault Refusal :=
  .next (if s.evp.resetHeld then s else { s with toPart := f s.toPart })

end Sys2Proof.Machine
end

