-- ==== Sys2Proof/Machine/Layouts.lean ====
section
/-! DEFINITION. Bytes, words, codes and the layouts the part sends: the check of R88, the frames of R183 and R184, the egress
records of R186, all most significant byte first (R182). -/

namespace Sys2Proof.Machine

/-! ### Bytes and words -/

/-- A 16-bit value as two bytes. -/
def bytes16 (w : BitVec 16) : List Byte := [w.extractLsb' 8 8, w.extractLsb' 0 8]

/-- A 32-bit value as four bytes. -/
def bytes32 (w : BitVec 32) : List Byte :=
  [w.extractLsb' 24 8, w.extractLsb' 16 8, w.extractLsb' 8 8, w.extractLsb' 0 8]

/-- A 128-bit value as sixteen bytes. -/
def bytes128 (w : BitVec 128) : List Byte :=
  bytes32 (w.extractLsb' 96 32) ++ bytes32 (w.extractLsb' 64 32) ++ bytes32 (w.extractLsb' 32 32)
    ++ bytes32 (w.extractLsb' 0 32)

/-- The bytes of Event Port words, byte 0 in bits 31 to 24 of the first word (R182). -/
def wordBytes (ws : List Word32) : List Byte := ws.flatMap bytes32

/-- Byte `i` of a record or payload; 0 past its end. -/
def byteAt (bs : List Byte) (i : Nat) : Byte := bs.getD i 0

/-- The 16-bit value at byte `i`. -/
def at16 (bs : List Byte) (i : Nat) : BitVec 16 := byteAt bs i ++ byteAt bs (i + 1)

/-- The 32-bit value at byte `i`. -/
def at32 (bs : List Byte) (i : Nat) : BitVec 32 := at16 bs i ++ at16 bs (i + 2)

/-- The 128-bit value at byte `i`. -/
def at128 (bs : List Byte) (i : Nat) : BitVec 128 :=
  at32 bs i ++ at32 bs (i + 4) ++ at32 bs (i + 8) ++ at32 bs (i + 12)

/-- The word of four bytes, the first most significant. -/
def packWord (a b c d : Byte) : Word32 := a ++ b ++ c ++ d

/-- Bytes packed into words in order; a last part of a word is filled with 0. -/
def packWords : List Byte → List Word32
  | a :: b :: c :: d :: rest => packWord a b c d :: packWords rest
  | [] => []
  | [a] => [packWord a 0 0 0]
  | [a, b] => [packWord a b 0 0]
  | [a, b, c] => [packWord a b c 0]

/-- A flag as a byte, 0 or 1. -/
def flagByte (b : Bool) : Byte := if b then 1 else 0

/-- A byte with bit `i` set when `b` is. -/
def bitByte (b : Bool) (i : Nat) : Byte := if b then BitVec.ofNat 8 (2 ^ i) else 0

/-! ### Codes (R182) -/

/-- The code of a role. -/
def roleCode : Role → Byte
  | .dormant => 0 | .listen => 1 | .standby => 2 | .claiming => 3 | .active => 4 | .yielding => 5 | .fenced => 6

/-- The role of a code; none for a code outside the list. -/
def roleOfCode (b : Byte) : Option Role :=
  match b.toNat with
  | 0 => some .dormant | 1 => some .listen | 2 => some .standby | 3 => some .claiming
  | 4 => some .active | 5 => some .yielding | 6 => some .fenced
  | _ => none

/-- The code of a lane state. -/
def laneStateCode : LaneState → Byte
  | .off => 0 | .training => 1 | .up => 2 | .degraded => 3 | .down => 4

/-- The code of a peer state. -/
def peerStateCode : PeerState → Byte
  | .absent => 0 | .live => 1 | .lost => 2

/-- The code of a tracking state; 0 where there is no TCP part. -/
def trackingCode : Option TrackingState → Byte
  | none => 0 | some .opening => 1 | some .established => 2 | some .closing => 3

/-- The tracking state of a code; none for 0 and for an unknown code. -/
def trackingOfCode (b : Byte) : Option TrackingState :=
  match b.toNat with
  | 1 => some .opening | 2 => some .established | 3 => some .closing
  | _ => none

/-- The code of a NAT kind. -/
def natKindCode : NatKind → Byte
  | .source => 1 | .destination => 2

/-- The NAT kind of a code. -/
def natKindOfCode (b : Byte) : Option NatKind :=
  match b.toNat with
  | 1 => some .source | 2 => some .destination
  | _ => none

/-- The code of a claim kind. -/
def claimKindCode : ClaimKind → Byte
  | .vacant => 1 | .preempt => 2 | .handed => 3

/-- The claim kind of a code. -/
def claimKindOfCode (b : Byte) : Option ClaimKind :=
  match b.toNat with
  | 1 => some .vacant | 2 => some .preempt | 3 => some .handed
  | _ => none

/-- The code of a verdict. -/
def verdictCode : Verdict → Byte
  | .concede => 1 | .contest => 2 | .vote => 3 | .deny => 4

/-- The verdict of a code. -/
def verdictOfCode (b : Byte) : Option Verdict :=
  match b.toNat with
  | 1 => some .concede | 2 => some .contest | 3 => some .vote | 4 => some .deny
  | _ => none

/-- The code of a refusal cause. -/
def refusalCode : RefusalCause → Byte
  | .notReady => 1 | .profileLocked => 2 | .malformed => 3 | .badSlot => 4 | .slotBusy => 5
  | .notActive => 6 | .noSession => 7 | .badBuffer => 8 | .noPeer => 9

/-- The code of a ROLE cause. -/
def roleCauseCode : RoleCause → Byte
  | .profile => 1 | .peerServing => 2 | .listenEnd => 3 | .vacant => 4 | .preempt => 5 | .handed => 6
  | .claimWon => 7 | .takenUnflushed => 8 | .claimFailed => 9 | .preempted => 10 | .handover => 11 | .splitBrain => 12
  | .handedAway => 13 | .flushed => 14 | .handoverTimeout => 15 | .peerLost => 16 | .fence => 17 | .unfenced => 18

/-- The code of a lane; 0 for no lane. -/
def laneCode : Option Lane → Byte
  | none => 0 | some .a => 1 | some .b => 2

/-- A station number as a byte. -/
def stationByte (y : Station) : Byte := BitVec.ofNat 8 y.toNat

/-- The station of a byte; none above 2. -/
def stationOfByte (b : Byte) : Option Station :=
  match b.toNat with
  | 0 => some .s0 | 1 => some .s1 | 2 => some .s2
  | _ => none

/-- A group number as a byte. -/
def groupByte (g : Group) : Byte := BitVec.ofNat 8 g.toNat

/-- The group of a number; none above 1. -/
def groupOfNat : Nat → Option Group
  | 0 => some .g0
  | 1 => some .g1
  | _ => none

/-- The group a flag bit 0 names. -/
def groupOfBit (b : Bool) : Group := if b then .g1 else .g0

/-! ### The check (R88) -/

/-- One bit of the CRC-32 of polynomial 0x04C11DB7, most significant bit first. -/
def crcBit (r : BitVec 32) : BitVec 32 := if r.msb then (r <<< 1) ^^^ 0x04C11DB7#32 else r <<< 1

/-- One byte of the CRC, taken into the top of the register. -/
def crcByte (r : BitVec 32) (b : Byte) : BitVec 32 :=
  crcBit (crcBit (crcBit (crcBit (crcBit (crcBit (crcBit (crcBit (r ^^^ (b ++ (0 : BitVec 24))))))))))

/-- The check of a header and payload: register of all ones, complemented at the end (R88). -/
def frameCheck (bs : List Byte) : BitVec 32 := ~~~ (bs.foldl crcByte 0xFFFFFFFF#32)

/-! ### Session parts -/

/-- The key has an IPv6 family. -/
def AddressPair.isV6 : AddressPair → Bool
  | .v4 _ _ => false
  | .v6 _ _ => true

/-- The address is of the IPv6 family. -/
def Address.isV6 : Address → Bool
  | .v4 _ => false
  | .v6 _ => true

/-- The bytes of a pair of addresses, source first (R184). -/
def addressPairBytes : AddressPair → List Byte
  | .v4 s d => bytes32 s ++ bytes32 d
  | .v6 s d => bytes128 s ++ bytes128 d

/-- The bytes of one address. -/
def addressBytes : Address → List Byte
  | .v4 x => bytes32 x
  | .v6 x => bytes128 x

/-- The bytes of the ports, none when the key has none. -/
def portsBytes : Option Ports → List Byte
  | none => []
  | some q => bytes16 q.src ++ bytes16 q.dst

/-- The bytes of a NAT part (R184): kind, port-present, translated port, translated address. -/
def natBytes : Option NatPart → List Byte
  | none => []
  | some n => [natKindCode n.kind, flagByte n.port.isSome] ++ bytes16 (n.port.getD 0) ++ addressBytes n.addr

/-- The bytes of one direction of a TCP part. -/
def tcpDirBytes (d : TcpDir) : List Byte := bytes32 d.seqHi ++ bytes32 d.ackHi ++ bytes32 d.window ++ bytes16 d.rate

/-- The bytes of a TCP part, the forward direction first. -/
def tcpBytes : Option TcpPart → List Byte
  | none => []
  | some t => tcpDirBytes t.fwd ++ tcpDirBytes t.rev

/-- Ports are present for protocols 1, 6 and 17 (R3). -/
def protocolHasPorts (protocol : Byte) : Bool :=
  decide (protocol.toNat = 1) || decide (protocol.toNat = 6) || decide (protocol.toNat = 17)

/-- The size of a session wire record by its parts (R41). -/
def wireSize (v6 hasPorts hasNat hasTcp : Bool) : Nat :=
  16 + (if v6 then 32 else 8) + (if hasPorts then 4 else 0) + (if hasNat then (if v6 then 20 else 8) else 0)
    + (if hasTcp then 28 else 0)

/-- The size of the wire record of an entry (R41). -/
def Entry.wireSize (e : Entry) : Nat :=
  Machine.wireSize e.key.addrs.isV6 e.key.ports.isSome e.nat.isSome e.tcp.isSome

/-- The session wire record of an entry in `slot`, with the age it carries (R42, R184). -/
def wireBytes (slot : Slot) (age : Nat) (e : Entry) : List Byte :=
  bytes16 slot ++ bytes16 e.version
    ++ [bitByte e.key.addrs.isV6 7 ||| bitByte e.nat.isSome 6 ||| bitByte e.tcp.isSome 5 ||| bitByte (e.group = .g1) 0,
        e.key.protocol, e.key.zone.setWidth 8, trackingCode (e.tcp.map (·.tracking))]
    ++ bytes32 (BitVec.ofNat 32 age) ++ bytes16 e.lifetime ++ bytes16 (BitVec.ofNat 16 e.wireSize)
    ++ addressPairBytes e.key.addrs ++ portsBytes e.key.ports ++ natBytes e.nat ++ tcpBytes e.tcp

/-- The bytes of a (slot, version) pair (R183). -/
def pairBytes (x : Slot × Version) : List Byte := bytes16 x.1 ++ bytes16 x.2

/-! ### Frames (R87, R183) -/

/-- A frame kind. -/
inductive FrameKind where
  | align
  | pulse
  | delta
  | drop
  | receipt
  | claim
  | answer
  | yield
  deriving DecidableEq, Repr

/-- The code of a frame kind (R182). -/
def frameKindCode : FrameKind → Byte
  | .align => 1 | .pulse => 2 | .delta => 3 | .drop => 4 | .receipt => 5 | .claim => 6 | .answer => 7 | .yield => 8

/-- The frame kind of a code. -/
def frameKindOfCode (b : Byte) : Option FrameKind :=
  match b.toNat with
  | 1 => some .align | 2 => some .pulse | 3 => some .delta | 4 => some .drop
  | 5 => some .receipt | 6 => some .claim | 7 => some .answer | 8 => some .yield
  | _ => none

/-- The fixed 16-byte pattern of an ALIGN (R183). -/
def alignPattern : List Byte :=
  [0x55, 0x55, 0xAA, 0xAA, 0x33, 0x33, 0xCC, 0xCC, 0x0F, 0x0F, 0xF0, 0xF0, 0x00, 0xFF, 0x69, 0x96]

/-- A whole frame: header, payload and check (R183). -/
def encodeFrame (kind : FrameKind) (sender : Station) (incarnation : BitVec 16) (claimByte : Byte) (payload : List Byte) :
    List Byte :=
  let body := [frameKindCode kind, stationByte sender] ++ bytes16 incarnation ++ [claimByte, 0]
    ++ bytes16 (BitVec.ofNat 16 payload.length) ++ payload
  body ++ bytes32 (frameCheck body)

/-- A frame of this station (R87). -/
def Part.ownFrame (p : Part) (kind : FrameKind) (claimByte : Byte) (payload : List Byte) : List Byte :=
  encodeFrame kind p.self p.incarnation claimByte payload

/-- The payload of a CLAIM (R183). -/
def claimPayload (c : ClaimFrame) : List Byte := [groupByte c.group, claimKindCode c.kind, c.merit]

/-- The payload of an ANSWER (R183). Bits 7 to 1 of its flags, which no row names, are sent as 0 (DESIGN CHOICE, log 46). -/
def answerPayload (a : AnswerFrame) : List Byte :=
  [groupByte a.group, stationByte a.claimer, verdictCode a.verdict, flagByte a.incomplete]

/-! ### Egress records (R186) -/

/-- The bytes of one direction of an install record's TCP part. -/
def installDirBytes (d : InstallDir) : List Byte := bytes32 d.ackHi ++ bytes32 d.low ++ bytes32 d.high

/-- The bytes of an install record (R186). Bits 3 to 1 of its flags, which no row names, are sent as 0 (DESIGN CHOICE, log 46). -/
def installBytes (r : InstallRecord) : List Byte :=
  bytes16 r.slot
    ++ [bitByte r.key.addrs.isV6 7 ||| bitByte r.nat.isSome 6 ||| bitByte r.tcp.isSome 5 ||| bitByte r.key.ports.isSome 4
          ||| bitByte (r.group = .g1) 0,
        r.key.protocol, r.key.zone.setWidth 8, trackingCode (r.tcp.map (·.tracking))]
    ++ bytes16 r.remaining ++ addressPairBytes r.key.addrs ++ portsBytes r.key.ports ++ natBytes r.nat
    ++ (match r.tcp with
        | none => []
        | some t => installDirBytes t.fwd ++ installDirBytes t.rev)

/-- The word of a STATUS answer that reports one peer (R186). Bits 7 to 2 of its flags are sent as 0 (DESIGN CHOICE, log 46). -/
def peerReportWord (r : PeerReport) : Word32 :=
  packWord (stationByte r.station) (peerStateCode r.state)
    (bitByte r.incarnation.isSome 1 ||| bitByte r.witnessConfigured 0) 0

/-- The first word of an egress record: kind, parameter, length in words. -/
def egressHead (kind : Nat) (parameter : Byte) (length : Nat) : Word32 :=
  BitVec.ofNat 8 kind ++ parameter ++ BitVec.ofNat 16 length

/-- The words of an egress record (R186). The bits that no row names, of the flags of a ROLE and of a BATCH and of the fence causes and
the walks of a STATUS answer, are sent as 0 (DESIGN CHOICE, log 46). -/
def egressWords : EgressRecord → List Word32
  | .role g r c skipped =>
    [egressHead 17 (groupByte g) 2, packWord (roleCode r) (roleCauseCode c) (flagByte skipped) 0]
  | .peer y st inc =>
    [egressHead 18 (stationByte y) 2, peerStateCode st ++ (0 : Byte) ++ inc.getD 0]
  | .lane l st => [packWord 19 0 (laneCode (some l)) (laneStateCode st)]
  | .refused kind slot cause => [egressHead 20 (refusalCode cause) 2, kind ++ (0 : Byte) ++ slot]
  | .status r =>
    [egressHead 21 0 11,
     packWord (flagByte r.profileTaken) (stationByte r.station) (roleCode r.roles.g0) (roleCode r.roles.g1),
     packWord (bitByte r.fence.engineSilent 3 ||| bitByte r.fence.engineUnfit 2 ||| bitByte r.fence.noQuorum 1
        ||| bitByte r.fence.duplicateStation 0) (flagByte r.latch) (laneStateCode r.lanes.a) (laneStateCode r.lanes.b),
     packWord (laneCode r.workingLane) (flagByte r.pauseFlag)
       (bitByte r.refresh 4 ||| bitByte r.takeover.g0 3 ||| bitByte r.takeover.g1 2 ||| bitByte r.forget.g0 1
        ||| bitByte r.forget.g1 0) 0,
     peerReportWord r.lowPeer,
     peerReportWord r.highPeer,
     r.lowPeer.incarnation.getD 0 ++ r.highPeer.incarnation.getD 0,
     BitVec.ofNat 32 r.owned,
     BitVec.ofNat 32 r.shadow,
     BitVec.ofNat 32 r.sendLength,
     BitVec.ofNat 16 r.inFlightLength ++ (0 : BitVec 16)]
  | .revoked slots =>
    egressHead 22 (BitVec.ofNat 8 slots.length) (1 + (slots.length + 1) / 2) :: packWords (slots.flatMap bytes16)
  | .batch i g grace final recs =>
    let body := packWords (recs.flatMap installBytes)
    egressHead 23 (BitVec.ofNat 8 i.val) (2 + body.length)
      :: packWord (groupByte g) (BitVec.ofNat 8 recs.length) (BitVec.ofNat 8 grace) (flagByte final) :: body

end Sys2Proof.Machine
end

