-- ==== Sys2Proof/Machine/Operands.lean ====
section
/-! DEFINITION. What a record of the ingress stream and a reception of the bus carry: the framing test (R173, R185), the form
tests of OPEN and UPDATE (R22), the PROFILE with its clamps (R175), and the frame tests (R89 to R91, R183, R184). -/

namespace Sys2Proof.Machine

/-! ### Session content, shared by OPEN, UPDATE and DELTA -/

/-- The content of a session as an OPEN or a DELTA record carries it (R22, R42). -/
structure Session where
  group : Group
  key : Key
  nat : Option NatPart
  tcp : Option TcpPart
  lifetime : BitVec 16
  deriving DecidableEq, Repr

/-- The pair of addresses at byte `i`. -/
def readAddressPair (bs : List Byte) (i : Nat) (v6 : Bool) : AddressPair :=
  if v6 then .v6 (at128 bs i) (at128 bs (i + 16)) else .v4 (at32 bs i) (at32 bs (i + 4))

/-- The address at byte `i`. -/
def readAddress (bs : List Byte) (i : Nat) (v6 : Bool) : Address :=
  if v6 then .v6 (at128 bs i) else .v4 (at32 bs i)

/-- One direction of a TCP part at byte `i` (R184). -/
def readTcpDir (bs : List Byte) (i : Nat) : TcpDir :=
  { seqHi := at32 bs i, ackHi := at32 bs (i + 4), window := at32 bs (i + 8), rate := at16 bs (i + 12) }

/-- The TCP part at byte `i` (R184), with the tracking state its record's core carries. -/
def readTcp (bs : List Byte) (i : Nat) (tracking : TrackingState) : TcpPart :=
  { tracking := tracking, fwd := readTcpDir bs i, rev := readTcpDir bs (i + 14) }

/-- The NAT part at byte `i` (R184); none when its kind is unknown. -/
def readNat (bs : List Byte) (i : Nat) (v6 hasPort : Bool) : Option NatPart :=
  (natKindOfCode (byteAt bs i)).map fun k =>
    { kind := k, addr := readAddress bs (i + 4) v6, port := if hasPort then some (at16 bs (i + 2)) else none }

/-- The bytes of a pair of addresses. -/
def addressPairSize (v6 : Bool) : Nat := if v6 then 32 else 8

/-- The bytes of a NAT part. -/
def natSize (v6 : Bool) : Nat := if v6 then 20 else 8

/-- Bit `i` of a byte. -/
def bitOf (b : Byte) (i : Nat) : Bool := b.getLsbD i

/-- The zone of a zone byte. A byte above 15 is an open value (R25, R185; log 9). -/
def zoneOfByte (b : Byte) : BitVec 4 := if b.toNat ≤ 15 then b.setWidth 4 else Config.zoneAbove15 b

/-! ### Ingress records (R185) -/

/-- What an UPDATE says of the NAT part (R22). -/
inductive NatItem where
  | keep
  | replace (nat : NatPart)
  | remove
  deriving DecidableEq, Repr

/-- The fields of an UPDATE (R22). -/
structure UpdateRecord where
  slot : Slot
  lifetime : Option (BitVec 16)
  nat : NatItem
  tcp : Option TcpPart
  deriving DecidableEq, Repr

/-- The kinds of ingress record (R182). -/
inductive IngressKind where
  | profile
  | open
  | update
  | close
  | alive
  | release
  | handover
  | status
  deriving DecidableEq, Repr

/-- The kind of a code. -/
def ingressKindOfCode (b : Byte) : Option IngressKind :=
  match b.toNat with
  | 1 => some .profile | 2 => some .open | 3 => some .update | 4 => some .close
  | 5 => some .alive | 6 => some .release | 7 => some .handover | 8 => some .status
  | _ => none

/-- The kind byte of a record, as the record gives it. -/
def recordKindByte (ws : List Word32) : Byte := byteAt (wordBytes ws) 0

/-- The kind of a record; none when it is unknown (R173). -/
def recordKind (ws : List Word32) : Option IngressKind := ingressKindOfCode (recordKindByte ws)

/-- The 16-bit parameter of a record's first word. -/
def recordParameter (ws : List Word32) : BitVec 16 := at16 (wordBytes ws) 2

/-- The length in words that a first word declares; 0 is read as 1 (R171). -/
def declaredLength (w : Word32) : Nat :=
  if (w.extractLsb' 16 8) = 0 then 1 else (w.extractLsb' 16 8).toNat

/-- A record is complete once its last word has passed (R171). -/
def recordComplete : List Word32 → Bool
  | [] => false
  | w :: rest => decide (declaredLength w ≤ (w :: rest).length)

/-- The NAT part of an OPEN or UPDATE record, where the port-present byte is read (R185). -/
def readNatDeclared (bs : List Byte) (i : Nat) (v6 : Bool) : Option NatPart :=
  readNat bs i v6 (decide (byteAt bs (i + 1) ≠ 0))

/-- The NAT part suits a key: its address is of the key's family and its port is present exactly when the key has ports
(R22, R26). -/
def natSuits (key : Key) (n : NatPart) : Bool :=
  decide (n.addr.isV6 = key.addrs.isV6) && decide (n.port.isSome = key.ports.isSome)

/-- The words an OPEN's flags and family require (R185). -/
def openLength (v6 hasPorts hasNat hasTcp : Bool) : Nat :=
  3 + (if v6 then 8 else 2) + (if hasPorts then 1 else 0) + (if hasNat then (if v6 then 5 else 2) else 0)
    + (if hasTcp then 7 else 0)

/-- An OPEN record's session, or none when a framing or form test fails (R22, R173). A key of protocol 1 whose destination-port field is
not 0 meets no form test: its value is kept and counts in key equality (DESIGN CHOICE, log 42). Bits 3 to 1 of the flags, which no row
names, are not read (DESIGN CHOICE, log 46). -/
def readOpen (ws : List Word32) : Option Session :=
  let bs := wordBytes ws
  let flags := byteAt bs 4
  let v6 := bitOf flags 7
  let hasNat := bitOf flags 6
  let hasTcp := bitOf flags 5
  let hasPorts := bitOf flags 4
  let protocol := byteAt bs 5
  let portsAt := 12 + addressPairSize v6
  let natAt := portsAt + (if hasPorts then 4 else 0)
  let tcpAt := natAt + (if hasNat then natSize v6 else 0)
  let key : Key :=
    { addrs := readAddressPair bs 12 v6, protocol := protocol,
      ports := if hasPorts then some { src := at16 bs portsAt, dst := at16 bs (portsAt + 2) } else none,
      zone := zoneOfByte (byteAt bs 6) }
  let nat := if hasNat then readNatDeclared bs natAt v6 else none
  let tracking := trackingOfCode (byteAt bs 7)
  if ws.length < 3 then none
  else if ws.length ≠ openLength v6 hasPorts hasNat hasTcp then none
  else if hasPorts ≠ protocolHasPorts protocol then none
  else if hasTcp ≠ decide (protocol.toNat = 6) then none
  else if hasNat && !((nat.map (natSuits key)).getD false) then none
  else if hasTcp && !tracking.isSome then none
  else some
    { group := groupOfBit (bitOf flags 0), key := key, nat := nat,
      tcp := if hasTcp then tracking.map (readTcp bs tcpAt) else none, lifetime := at16 bs 8 }

/-- An UPDATE record, or none when a framing or form test fails (R22, R173). Bits 4 to 2 of its flags, which no row names, are not
read (DESIGN CHOICE, log 46). -/
def readUpdate (ws : List Word32) : Option UpdateRecord :=
  let bs := wordBytes ws
  let flags := byteAt bs 4
  let v6 := bitOf flags 7
  let hasTcp := bitOf flags 5
  let item := (flags &&& 3).toNat
  let hasNat := decide (item = 1)
  let tcpAt := 8 + (if hasNat then natSize v6 else 0)
  let nat := if hasNat then readNatDeclared bs 8 v6 else none
  let tracking := trackingOfCode (byteAt bs 5)
  if ws.length < 2 then none
  else if ws.length ≠ 2 + (if hasNat then (if v6 then 5 else 2) else 0) + (if hasTcp then 7 else 0) then none
  else if hasNat && !nat.isSome then none
  else if hasTcp && !tracking.isSome then none
  else some
    { slot := recordParameter ws
      lifetime := if bitOf flags 6 then some (at16 bs 6) else none
      nat := match item, nat with
        | 0, _ => .keep
        | 1, some n => .replace n
        | _, _ => .remove
      tcp := if hasTcp then tracking.map (readTcp bs tcpAt) else none }

/-- `n` held within `lo` to `hi`. -/
def clampNat (lo hi n : Nat) : Nat := min hi (max lo n)

/-- The handover timeout of a code; any code not among the four selects 2,000 ms (R175, R185). -/
def handoverTimeoutOfCode (b : Byte) : Nat :=
  match b.toNat with
  | 1 => 250 | 2 => 500 | 3 => 1000
  | _ => 2000

/-- A value whose 0 is taken as 1 (R175). -/
def atLeastOne (b : Byte) : Byte := if b = 0 then 1 else b

/-- The configuration of a PROFILE record, with the clamps of R175. Bits 4 to 2 of its flags, which no row names, are not read
(DESIGN CHOICE, log 46). -/
def readProfile (ws : List Word32) : Profile :=
  let bs := wordBytes ws
  let flags := byteAt bs 3
  { station := (stationOfByte (byteAt bs 2)).getD .s2
    incarnation := at16 bs 4
    witnessConfigured := bitOf flags 7
    base := { g0 := atLeastOne (byteAt bs 6), g1 := atLeastOne (byteAt bs 7) }
    preempt := { g0 := bitOf flags 6, g1 := bitOf flags 5 }
    margin := atLeastOne (byteAt bs 8)
    pulseInterval := clampNat 10 1000 (at16 bs 10).toNat
    missLimit := clampNat 3 15 (byteAt bs 9).toNat
    deadTime := clampNat 2 200 (byteAt bs 12).toNat
    handoverTimeout := handoverTimeoutOfCode (byteAt bs 13)
    silenceLimit := clampNat 50 2000 (at16 bs 14).toNat
    transit := (byteAt bs 16).toNat
    grace := clampNat 1 60 (byteAt bs 17).toNat
    laneEnabled := { a := bitOf flags 1 || !bitOf flags 0, b := bitOf flags 0 } }

/-! ### Frames (R87 to R91, R183, R184) -/

/-- A session record of a DELTA (R184). -/
structure WireRecord where
  slot : Slot
  version : Version
  age : BitVec 32
  session : Session
  deriving DecidableEq, Repr

/-- The content of a PULSE (R106); a witness announces no role and no merit (R113). -/
structure PulseContent where
  roles : PerGroup (Option Role)
  merits : PerGroup (Option (BitVec 8))
  heardLanes : BitVec 8
  witnessConfigured : Bool
  deriving DecidableEq, Repr

/-- The content of a frame. -/
inductive Content where
  | align
  | pulse (content : PulseContent)
  | delta (records : List WireRecord)
  | drop (pairs : List (Slot × Version))
  | receipt (pairs : List (Slot × Version))
  | claim (frame : ClaimFrame)
  | answer (frame : AnswerFrame)
  | yield (group : Group)
  deriving DecidableEq, Repr

/-- A frame that has passed the frame tests. -/
structure Frame where
  sender : Station
  incarnation : BitVec 16
  content : Content
  deriving DecidableEq, Repr

/-- What the frame tests make of a reception (R89). -/
inductive Judgement where
  | fragment
  | bad
  | valid (frame : Frame)
  deriving DecidableEq, Repr

/-- The first record of the records of a DELTA and its length, or none when a record test fails (R91). The destination-port field of
protocol 1 is kept as it comes (DESIGN CHOICE, log 42). -/
def readWire (bs : List Byte) : Option (WireRecord × Nat) :=
  let flags := byteAt bs 4
  let v6 := bitOf flags 7
  let hasNat := bitOf flags 6
  let hasTcp := bitOf flags 5
  let protocol := byteAt bs 5
  let hasPorts := protocolHasPorts protocol
  let size := wireSize v6 hasPorts hasNat hasTcp
  let portsAt := 16 + addressPairSize v6
  let natAt := portsAt + (if hasPorts then 4 else 0)
  let tcpAt := natAt + (if hasNat then natSize v6 else 0)
  let nat := if hasNat then readNat bs natAt v6 hasPorts else none
  let tracking := trackingOfCode (byteAt bs 7)
  if bs.length < 16 then none
  else if (at16 bs 14).toNat ≠ size then none
  else if bs.length < size then none
  else if hasTcp ≠ decide (protocol.toNat = 6) then none
  else if 15 < (byteAt bs 6).toNat then none
  else if hasTcp && !tracking.isSome then none
  else if hasNat && !nat.isSome then none
  else some
    ({ slot := at16 bs 0, version := at16 bs 2, age := at32 bs 8,
       session :=
        { group := groupOfBit (bitOf flags 0)
          key := { addrs := readAddressPair bs 16 v6, protocol := protocol,
                   ports := if hasPorts then some { src := at16 bs portsAt, dst := at16 bs (portsAt + 2) } else none,
                   zone := (byteAt bs 6).setWidth 4 }
          nat := nat
          tcp := if hasTcp then tracking.map (readTcp bs tcpAt) else none
          lifetime := at16 bs 12 } }, size)

/-- At most `n` session records that fill `bs` exactly (R91). -/
def readWires : Nat → List Byte → Option (List WireRecord)
  | _, [] => some []
  | 0, _ :: _ => none
  | n + 1, b :: bs =>
    match readWire (b :: bs) with
    | none => none
    | some (w, size) => (readWires n ((b :: bs).drop size)).map fun ws => w :: ws

/-- The pairs of a DROP or RECEIPT (R183). -/
def readPairs : List Byte → List (Slot × Version)
  | a :: b :: c :: d :: rest => (a ++ b, c ++ d) :: readPairs rest
  | _ => []

/-- A kind allowed from its sender (R90). -/
def kindAllowed (kind : FrameKind) (sender : Station) : Bool :=
  match kind with
  | .align | .pulse | .answer => true
  | .delta | .drop | .receipt | .claim | .yield => decide (sender ≠ .s2)

/-- The role a PULSE announces in a code: from a member a role other than DORMANT, from station 2 no role (R91). -/
def announcedRole (sender : Station) (b : Byte) : Option (Option Role) :=
  match sender with
  | .s2 => if b = 0 then some none else none
  | _ => match roleOfCode b with
    | some .dormant => none
    | some r => some (some r)
    | none => none

/-- The content of a payload of a kind, or none when its form test fails (R91). Bits 7 to 1 of an ANSWER's flags, which no row names,
are not read (DESIGN CHOICE, log 46). -/
def readPayload (kind : FrameKind) (sender : Station) (claimByte : Byte) (pl : List Byte) : Option Content :=
  match kind with
  | .align => if pl = alignPattern then some .align else none
  | .pulse =>
    if pl.length ≠ 6 then none
    else match announcedRole sender (byteAt pl 0), announcedRole sender (byteAt pl 1) with
      | some r0, some r1 =>
        let merit (b : Byte) : Option (BitVec 8) := if sender = .s2 then none else some b
        some (.pulse
          { roles := { g0 := r0, g1 := r1 }, merits := { g0 := merit (byteAt pl 2), g1 := merit (byteAt pl 3) },
            heardLanes := byteAt pl 4, witnessConfigured := decide (byteAt pl 5 ≠ 0) })
      | _, _ => none
  | .delta =>
    if 492 < pl.length then none
    else match readWires 8 pl with
      | some (w :: ws) => some (.delta (w :: ws))
      | _ => none
  | .drop => if pl.length % 4 = 0 ∧ 4 ≤ pl.length ∧ pl.length ≤ 128 then some (.drop (readPairs pl)) else none
  | .receipt => if pl.length % 4 = 0 ∧ 4 ≤ pl.length ∧ pl.length ≤ 128 then some (.receipt (readPairs pl)) else none
  | .claim =>
    if pl.length ≠ 3 then none
    else match groupOfNat (byteAt pl 0).toNat, claimKindOfCode (byteAt pl 1) with
      | some g, some k => some (.claim { group := g, kind := k, number := claimByte, merit := byteAt pl 2 })
      | _, _ => none
  | .answer =>
    if pl.length ≠ 4 then none
    else match groupOfNat (byteAt pl 0).toNat, stationOfByte (byteAt pl 1), verdictOfCode (byteAt pl 2) with
      | some g, some c, some v =>
        let fromWitness := decide (v = .vote) || decide (v = .deny)
        if c ≠ .s2 ∧ fromWitness = decide (sender = .s2) then
          some (.answer { group := g, claimer := c, verdict := v, number := claimByte, incomplete := bitOf (byteAt pl 3) 0 })
        else none
      | _, _, _ => none
  | .yield =>
    if pl.length ≠ 1 then none
    else (groupOfNat (byteAt pl 0).toNat).map .yield

/-- The frame of a whole number of bytes, or none when a frame test of R89 fails. -/
def readFrame (bs : List Byte) : Option Frame :=
  let payloadLength := (at16 bs 6).toNat
  if bs.length < 12 then none
  else if 508 < bs.length then none
  else if bs.length ≠ 12 + payloadLength then none
  else if at32 bs (8 + payloadLength) ≠ frameCheck (bs.take (8 + payloadLength)) then none
  else match frameKindOfCode (byteAt bs 0), stationOfByte (byteAt bs 1) with
    | some kind, some sender =>
      if kindAllowed kind sender then
        (readPayload kind sender (byteAt bs 4) ((bs.drop 8).take payloadLength)).map fun c =>
          { sender := sender, incarnation := at16 bs 2, content := c }
      else none
    | _, _ => none

/-- What a receiver makes of a reception (R89). -/
def judge (rx : Reception) : Judgement :=
  if rx.bitTimes < 96 then .fragment
  else if rx.oddBits ≠ 0 then .bad
  else match readFrame rx.bytes with
    | some f => .valid f
    | none => .bad

end Sys2Proof.Machine
end

