-- ==== Sys2Proof/Machine/Flags.lean ====
section
/-! DEFINITION. The flags and outputs that follow from the state: the handshake lines of the Event Port (R171, R178), the fence
(R137), and the STATUS report (R181). -/

namespace Sys2Proof.Machine

/-- The last record of the ingress FIFO is still in progress (R171). -/
def Part.recordInProgress (p : Part) : Bool :=
  match p.evp.ingress.getLast? with
  | some ws => !recordComplete ws
  | none => false

/-- Ingress ready (R171). -/
def Part.ingressReady (p : Part) : Bool :=
  !p.evp.resetHeld && !p.smt.clearWalk.isSome && (p.recordInProgress || decide (p.evp.ingress.length < 64))

/-- Egress valid (R176, R178). -/
def Part.egressValid (p : Part) : Bool := !p.evp.resetHeld && !p.evp.egress.isEmpty

/-- A place is open to general records (R178). -/
def Part.generalOpen (p : Part) : Bool := decide (p.evp.egress.length < 56)

/-- A place is open to notices (R178). -/
def Part.noticeOpen (p : Part) : Bool := decide (p.evp.egress.length < 64)

/-- Some fence cause applies (R137). -/
def FenceCauses.any (f : FenceCauses) : Bool := f.engineSilent || f.engineUnfit || f.noQuorum || f.duplicateStation

/-- The part of a STATUS report on station `y` (R181, R186): the witness-configured flag is reported for stations 0 and 1.
The flag of such a station that no PULSE has reported since its first contact or rebirth is given as 0 (DESIGN CHOICE, log 41). -/
def Part.peerReport (p : Part) (y : Station) : PeerReport :=
  { station := y, state := (p.peer y).state, incarnation := (p.peer y).incarnation,
    witnessConfigured := decide (y ≠ .s2) && (p.peer y).witnessConfigured.getD false }

/-- The STATUS report: the part as it stands (R181). -/
def Part.statusReport (p : Part) : StatusReport :=
  { profileTaken := p.profile.isSome
    station := p.self
    roles := { g0 := p.role .g0, g1 := p.role .g1 }
    fence := p.rcu.fence
    latch := p.rcu.latch
    lanes := { a := (p.lane .a).state, b := (p.lane .b).state }
    workingLane := p.mbi.workingLane
    pauseFlag := p.rpu.pauseFlag
    refresh := p.smt.refreshWalk.isSome
    takeover := { g0 := (p.smt.takeover.get .g0).isSome, g1 := (p.smt.takeover.get .g1).isSome }
    forget := { g0 := (p.smt.forget.get .g0).isSome, g1 := (p.smt.forget.get .g1).isSome }
    lowPeer := p.peerReport p.otherStations.1
    highPeer := p.peerReport p.otherStations.2
    owned := p.ownedCount
    shadow := p.shadowCount
    sendLength := p.rpu.sendList.length
    inFlightLength := p.rpu.inFlight.length }

end Sys2Proof.Machine
end

