-- ==== Sys2Proof/Machine/Port.lean ====
section
/-! DEFINITION. The egress FIFO: placing records and notices, coalescing notices into marks, and giving a freed place to a mark
(R178 to R180). -/

namespace Sys2Proof.Machine

/-- Places a record at the tail of the egress FIFO. -/
def Part.place (p : Part) (r : EgressRecord) : Part := { p with evp := { p.evp with egress := p.evp.egress ++ [r] } }

/-- A notice of group `g`'s change from `old` to `new` (R142): placed, or coalesced into the group's mark (R180). -/
def Part.roleNotice (p : Part) (g : Group) (old new : Role) (cause : RoleCause) : Part :=
  match p.evp.roleMarks.get g with
  | some m =>
    let m' : RoleMark :=
      { cause := cause, leftActive := m.leftActive || decide (old = .active),
        skipped := m.skipped || (m.leftActive && decide (new = .active)) }
    { p with evp := { p.evp with roleMarks := p.evp.roleMarks.set g (some m') } }
  | none =>
    if p.noticeOpen then p.place (.role g new cause false)
    else
      let m' : RoleMark := { cause := cause, leftActive := decide (old = .active), skipped := false }
      { p with evp := { p.evp with roleMarks := p.evp.roleMarks.set g (some m') } }

/-- The PEER notice of station `y` as its record stands (R115, R180). -/
def Part.peerRecordNow (p : Part) (y : Station) : EgressRecord := .peer y (p.peer y).state (p.peer y).incarnation

/-- A notice of a change of station `y`'s Peer Record (R115): placed or coalesced (R180). -/
def Part.peerNotice (p : Part) (y : Station) : Part :=
  if p.evp.peerMarks.get y || !p.noticeOpen then
    { p with evp := { p.evp with peerMarks := p.evp.peerMarks.set y true } }
  else p.place (p.peerRecordNow y)

/-- The LANE notice of lane `l` as it stands (R86, R180). -/
def Part.laneRecordNow (p : Part) (l : Lane) : EgressRecord := .lane l (p.lane l).state

/-- A notice of a change of lane `l`'s state (R86): placed or coalesced (R180). -/
def Part.laneNotice (p : Part) (l : Lane) : Part :=
  if p.evp.laneMarks.get l || !p.noticeOpen then
    { p with evp := { p.evp with laneMarks := p.evp.laneMarks.set l true } }
  else p.place (p.laneRecordNow l)

/-- Gives a freed place to the mark of group `g`, if it holds one: the notice is built from the state in force and the mark is
cleared (R180). -/
def Part.emitRoleMark (p : Part) (g : Group) : Option Part :=
  (p.evp.roleMarks.get g).map fun m =>
    { p.place (.role g (p.role g) m.cause m.skipped) with
      evp := { (p.place (.role g (p.role g) m.cause m.skipped)).evp with roleMarks := p.evp.roleMarks.set g none } }

/-- The same for the mark of station `y`. -/
def Part.emitPeerMark (p : Part) (y : Station) : Option Part :=
  if p.evp.peerMarks.get y then
    some { p.place (p.peerRecordNow y) with
           evp := { (p.place (p.peerRecordNow y)).evp with peerMarks := p.evp.peerMarks.set y false } }
  else none

/-- The same for the mark of lane `l`. -/
def Part.emitLaneMark (p : Part) (l : Lane) : Option Part :=
  if p.evp.laneMarks.get l then
    some { p.place (p.laneRecordNow l) with
           evp := { (p.place (p.laneRecordNow l)).evp with laneMarks := p.evp.laneMarks.set l false } }
  else none

/-- The first waiting mark in the order of R179: ROLE 0, 1; PEER, the lower station first; LANE A, B. -/
def Part.emitMark (p : Part) : Option Part :=
  p.emitRoleMark .g0 <|> p.emitRoleMark .g1 <|> p.emitPeerMark .s0 <|> p.emitPeerMark .s1 <|> p.emitPeerMark .s2
    <|> p.emitLaneMark .a <|> p.emitLaneMark .b

/-- The REVOKED record of the oldest slots, up to 32, with the part they have left; none while the list is empty (R76). -/
def Part.takeRevoked (p : Part) : Option (EgressRecord × Part) :=
  if p.rpu.revoke.isEmpty then none
  else some (.revoked (p.rpu.revoke.take 32), { p with rpu := { p.rpu with revoke := p.rpu.revoke.drop 32 } })

/-- The BATCH record of the oldest POSTED buffer not yet emitted, with its emitted flag set (R163). -/
def Part.takeBatch (p : Part) : Option (EgressRecord × Part) :=
  match p.tku.postOrder with
  | [] => none
  | i :: rest =>
    match p.buffer i with
    | .posted g recs final _ void =>
      let q := p.setBuffer i (.posted g recs final true void)
      some (.batch i g ((p.profile.map (·.grace)).getD 0) final (recs.map (·.record)),
        { q with tku := { q.tku with postOrder := rest } })
    | _ => none

/-- What the producers REVOKED and BATCH, in that order, have for a place (R76, R179). -/
def Part.takeRevokedOrBatch (p : Part) : Option (EgressRecord × Part) := p.takeRevoked <|> p.takeBatch

end Sys2Proof.Machine
end

