-- ==== Sys2Proof/Machine/Takeover.lean ====
section
/-! DEFINITION. The Takeover Unit: closing an entry, the takeover walk with its arithmetic and its install buffers, stopping it,
and the forget walk (R153 to R169). -/

namespace Sys2Proof.Machine

/-- Ends an owned live entry, as an accepted CLOSE (R29) and the expiry of an owned entry (R156) do; the installed mark is
cleared (R11). An entry that becomes FREE drops its incremented version with its other fields. -/
def Part.closeEntry (p : Part) (slot : Slot) (e : Entry) : Part :=
  match e.state with
  | .clean => p.putEntry slot (some { e with state := .dropDue, version := e.version + 1, installed := false })
  | .dirty =>
    if e.peerMayHold then
      p.putEntry slot (some { e with state := .dropDue, version := e.version + 1, installed := false })
    else p.putEntry slot none
  | .sent | .changed =>
    p.putEntry slot (some { e with state := .dropWait, version := e.version + 1, installed := false })
  | _ => p

/-- The entry is expired: its idle time is at least its lifetime multiplied by 1,000 (R155). -/
def Part.expired (p : Part) (e : Entry) : Bool := decide (e.lifetime.toNat * 1000 ≤ p.ageNow e)

/-- The walk of group `g` visits an entry of the group that is not closing and whose installed mark is clear (R153). -/
def walkConcerns (g : Group) (e : Entry) : Bool :=
  decide (e.group = g) && !e.installed && !e.state.closing

/-- Disposes of an expired entry by its state (R156). -/
def Part.disposeExpired (p : Part) (slot : Slot) (e : Entry) : Part :=
  match e.state with
  | .shadow =>
    p.putEntry slot
      (some { e with state := .dropDue, version := e.version + 1, peerMayHold := true, attempts := 0, installed := false })
  | _ => p.closeEntry slot e

/-- Adopts a SHADOW (R157); an owned entry is left in its state. -/
def Part.adopt (p : Part) (slot : Slot) (e : Entry) : Part :=
  match e.state with
  | .shadow =>
    p.putEntry slot
      (some { e with state := .dirty, version := e.version + 1, peerMayHold := true, attempts := 0, installed := false })
  | _ => p

/-- The window figure W of a direction, from the window the other direction advertises (R159). -/
def windowFigure (advertised : BitVec 32) : Nat := min 536870912 (max 8192 advertised.toNat)

/-- The exposure E in milliseconds (R159). -/
def exposure (idle transit : Nat) : Nat := min 65535 (idle + transit)

/-- The slack of a direction (R159). -/
def slackOf (rate : BitVec 16) (idle transit w : Nat) : Nat := min w (rate.toNat * exposure idle transit)

/-- The install fields of direction `d`, whose other direction is `r` (R158 to R160). -/
def installDir (d r : TcpDir) (idle transit : Nat) : InstallDir :=
  let w := windowFigure r.window
  { ackHi := d.ackHi
    low := d.seqHi - BitVec.ofNat 32 w
    high := d.seqHi + BitVec.ofNat 32 (slackOf d.rate idle transit w) + BitVec.ofNat 32 w }

/-- The remaining lifetime in seconds: what is left of the lifetime, rounded up (R158). -/
def remainingLifetime (lifetime : BitVec 16) (idle : Nat) : BitVec 16 :=
  BitVec.ofNat 16 (max 1 ((lifetime.toNat * 1000 - idle + 999) / 1000))

/-- The install record of an entry at the moment of its visit (R158). -/
def Part.installRecord (p : Part) (slot : Slot) (e : Entry) : InstallRecord :=
  let idle := p.ageNow e
  let transit := (p.profile.map (·.transit)).getD 0
  { slot := slot, group := e.group, key := e.key, nat := e.nat
    tcp := e.tcp.map fun t =>
      { tracking := t.tracking, fwd := installDir t.fwd t.rev idle transit, rev := installDir t.rev t.fwd idle transit }
    remaining := remainingLifetime e.lifetime idle }

/-- The buffer a record of group `g`'s walk goes to, with what it already holds: the walk's FILLING buffer, else the
lowest-numbered FREE one (R162). -/
def Part.bufferFor (p : Part) (g : Group) : Option (Fin 8 × List BufferRec) :=
  match p.fillingBuffer g with
  | some i => some (i, (p.buffer i).recs)
  | none => p.freeBuffer.map fun i => (i, [])

/-- Makes buffer `i` POSTED for group `g`; it joins the buffers waiting to be emitted (R163). -/
def Part.post (p : Part) (i : Fin 8) (g : Group) (recs : List BufferRec) (final : Bool) : Part :=
  let q := p.setBuffer i (.posted g recs final false false)
  { q with tku := { q.tku with postOrder := q.tku.postOrder ++ [i] } }

/-- Writes a record into buffer `i`, which held `recs`; the sixteenth record posts it (R161, R163). -/
def Part.writeRecord (p : Part) (g : Group) (i : Fin 8) (recs : List BufferRec) (r : InstallRecord) : Part :=
  let recs' := recs ++ [{ record := r, taken := false }]
  if 16 ≤ recs'.length then p.post i g recs' false else p.setBuffer i (.filling g recs')

/-- The part with group `g`'s takeover walk replaced. -/
def Part.setWalk (p : Part) (g : Group) (w : Option TakeoverWalk) : Part :=
  { p with smt := { p.smt with takeover := p.smt.takeover.set g w } }

/-- The walk of group `g` stands at `cursor` and does not wait. -/
def Part.walkTo (p : Part) (g : Group) (cursor : Nat) : Part := p.setWalk g (some { cursor := cursor, wait := .none })

/-- The walk of group `g` has passed the slot at `cursor`. -/
def Part.walkPast (p : Part) (g : Group) (cursor : Nat) : Part := p.walkTo g (cursor + 1)

/-- The walk of group `g` waits where its cursor stands (R154, R162, R163). -/
def Part.walkWaits (p : Part) (g : Group) (cursor : Nat) (wait : WalkWait) : Part :=
  p.setWalk g (some { cursor := cursor, wait := wait })

/-- The visit of group `g`'s walk to the slot at `cursor`, where it finds `e` and the entry concerns it (R154): age and expiry,
then disposal, then the install record; it waits for a buffer it lacks or for one that holds the slot. -/
def Part.visitEntry (p : Part) (g : Group) (cursor : Nat) (e : Entry) : Part :=
  let slot := slotAt cursor
  if p.slotBuffered slot then p.walkWaits g cursor .release
  else if p.expired e then (p.disposeExpired slot e).walkPast g cursor
  else match p.bufferFor g with
    | none => p.walkWaits g cursor .buffer
    | some (i, recs) => ((p.adopt slot e).writeRecord g i recs (p.installRecord slot e)).walkPast g cursor

/-- One step of group `g`'s takeover walk: it visits the entry at its cursor or passes the slot (R153). The cursor of a walk that waits
does not move until the waiting visit is taken (R162), so the walk passes no slot then, whatever has become of the entry. A visit that
waits for a FREE buffer is taken where its entry has expired by then (DEDUCED, log 43). -/
def Part.takeoverVisit (p : Part) (g : Group) : Part :=
  match p.smt.takeover.get g with
  | none => p
  | some w =>
    if 65536 ≤ w.cursor then p
    else match (p.entry (slotAt w.cursor)).filter (walkConcerns g) with
      | some e => p.visitEntry g w.cursor e
      | none => if w.waiting then p else p.walkPast g w.cursor

/-- The walk of group `g`, past slot 65,535, posts its final batch and ends, or waits for a FREE buffer (R163). -/
def Part.takeoverEnd (p : Part) (g : Group) : Part :=
  match p.smt.takeover.get g with
  | none => p
  | some w =>
    if w.cursor < 65536 then p
    else match p.bufferFor g with
      | none => p.walkWaits g w.cursor .buffer
      | some (i, recs) => (p.post i g recs true).setWalk g none

/-- The walk waits for the release of the buffer that holds its slot, and that buffer is not FREE yet (R162). -/
def Part.heldBack (p : Part) (w : TakeoverWalk) : Bool :=
  decide (w.wait = .release) && p.slotBuffered (slotAt w.cursor)

/-- A waiting walk takes its waiting visit on the entry as it now stands, or posts its waiting final batch, if it now can: one that
waits for the release of its slot's buffer waits for that buffer alone (R162, R163). -/
def Part.retryWalk (p : Part) (g : Group) : Part :=
  match p.smt.takeover.get g with
  | some w =>
    if !w.waiting || p.heldBack w then p
    else if w.cursor < 65536 then (p.walkTo g w.cursor).takeoverVisit g
    else (p.walkTo g w.cursor).takeoverEnd g
  | none => p

/-- Group `g`'s walk is waiting. -/
def Part.walkIsWaiting (p : Part) (g : Group) : Bool := ((p.smt.takeover.get g).map (·.waiting)).getD false

/-- The waiting walks take what they wait for at the moment a buffer has become FREE (R162). Where both wait, either may be
first: a free choice (log 8). -/
def Part.serveWaiting (p : Part) : Part :=
  if p.walkIsWaiting .g0 && p.walkIsWaiting .g1 then
    if p.choice then (p.drawn.retryWalk .g0).retryWalk .g1 else (p.drawn.retryWalk .g1).retryWalk .g0
  else (p.retryWalk .g0).retryWalk .g1

/-- How many buffers are FREE. -/
def Part.freeBuffers (p : Part) : Nat := (bufferNumbers.filter fun i => (p.buffer i).isFree).length

/-- Serves the waiting walks if a buffer has become FREE since `before`. -/
def Part.serveFreed (p before : Part) : Part := if before.freeBuffers < p.freeBuffers then p.serveWaiting else p

/-- What leaving ACTIVE for group `g` makes of a buffer (R166): its FILLING buffer becomes FREE, its POSTED ones void. -/
def Buffer.leave (g : Group) : Buffer → Buffer
  | .filling g' recs => if g' = g then .free else .filling g' recs
  | .posted g' recs final emitted void => .posted g' recs final emitted (void || decide (g' = g))
  | .free => .free

/-- Stops the takeover walk of group `g` and makes its buffers FREE or void (R166). -/
def Part.stopTakeover (p : Part) (g : Group) : Part :=
  let q := p.setWalk g none
  { q with tku := { q.tku with buffers := q.tku.buffers.map (Buffer.leave g) } }

/-- The part with group `g`'s forget walk replaced. -/
def Part.setForget (p : Part) (g : Group) (c : Option Nat) : Part :=
  { p with smt := { p.smt with forget := p.smt.forget.set g c } }

/-- One visit of group `g`'s forget walk: it clears the installed mark of an entry of the group (R168). -/
def Part.forgetVisit (p : Part) (g : Group) : Part :=
  match p.smt.forget.get g with
  | none => p
  | some c =>
    if 65536 ≤ c then p
    else
      let q := match p.entry (slotAt c) with
        | some e =>
          if e.group = g ∧ e.installed then p.setTable (slotAt c) (some { e with installed := false }) else p
        | none => p
      q.setForget g (some (c + 1))

/-- Notes `slot` as taken in the buffer that holds it (R63, R165). -/
def Buffer.noteTaken (slot : Slot) : Buffer → Buffer
  | .free => .free
  | .filling g recs => .filling g (recs.map fun r => if r.record.slot = slot then { r with taken := true } else r)
  | .posted g recs final emitted void =>
    .posted g (recs.map fun r => if r.record.slot = slot then { r with taken := true } else r) final emitted void

/-- Notes `slot` as taken in every buffer that holds it; at most one does (R161). -/
def Part.noteTaken (p : Part) (slot : Slot) : Part :=
  { p with tku := { p.tku with buffers := p.tku.buffers.map (Buffer.noteTaken slot) } }

end Sys2Proof.Machine
end

