-- ==== Sys2Proof/Machine/Roles.lean ====
section
/-! DEFINITION. The Role Controller of a member: what it knows of the other member (R118), the role machine with its claims
(R119 to R129), leaving ACTIVE (R130), yielding (R134, R135), fences (R137 to R141), and the frames it queues (R97, R132). -/

namespace Sys2Proof.Machine

/-! ### The transmitter's waiting lists (R97) -/

/-- `list` with `x` queued: it replaces, in its place, the frame of the same subject, else joins at the tail. -/
def queueReplace {α : Type} (same : α → Bool) (list : List α) (x : α) : List α :=
  if list.any same then list.map fun y => if same y then x else y else list ++ [x]

/-- Queues an ANSWER; one list place for each group and claimer (R97). -/
def Part.queueAnswer (p : Part) (a : AnswerFrame) : Part :=
  { p with mbi := { p.mbi with
      answers := queueReplace (fun x => decide (x.group = a.group) && decide (x.claimer = a.claimer)) p.mbi.answers a } }

/-- Queues a CLAIM; one list place for each group (R97). -/
def Part.queueClaim (p : Part) (c : ClaimFrame) : Part :=
  { p with mbi := { p.mbi with claims := queueReplace (fun x => decide (x.group = c.group)) p.mbi.claims c } }

/-- Queues a YIELD; one list place for each group (R97). -/
def Part.queueYield (p : Part) (g : Group) : Part :=
  { p with mbi := { p.mbi with yields := queueReplace (fun x => decide (x = g)) p.mbi.yields g } }

/-- The frame in hand is an ANSWER or YIELD of group `g`. -/
def TxFrame.ofRole (g : Group) : TxFrame → Bool
  | .answer a => decide (a.group = g)
  | .yield g' => decide (g' = g)
  | _ => false

/-- The role of group `g` has changed: its waiting ANSWER, CLAIM and YIELD frames are withdrawn (R122, R132), and one in hand
is marked as queued under a role that is no longer in force (R132). -/
def Part.withdrawRoleFrames (p : Part) (g : Group) : Part :=
  { p with mbi := { p.mbi with
      answers := p.mbi.answers.filter fun a => decide (a.group ≠ g)
      claims := p.mbi.claims.filter fun c => decide (c.group ≠ g)
      yields := p.mbi.yields.filter fun x => decide (x ≠ g)
      inHand := p.mbi.inHand.map fun h => { h with stale := h.stale || h.frame.ofRole g } } }

/-! ### Changing a role -/

/-- A group's record as its role becomes `new`: FPg follows the role (R117), the state of the role it leaves is discarded
(R116, R140), and entering STANDBY clears the rebirth mark (R116). -/
def GroupRec.enter (r : GroupRec) (new : Role) : GroupRec :=
  { r with role := new, fp := decide (new = .active), listen := none, vacancy := .stopped, claim := none, deadTimer := none,
           handover := none, pendingFrame := none, rebirthMark := r.rebirthMark && decide (new ≠ .standby), contested := none }

/-- Group `g`'s role becomes `new`, with its ROLE notice (R142). -/
def Part.setRole (p : Part) (g : Group) (new : Role) (cause : RoleCause) : Part :=
  ((p.setGroup g ((p.group g).enter new)).withdrawRoleFrames g).roleNotice g (p.role g) new cause

/-! ### What a member knows of the other (R118) -/

/-- The other member's standing for group `g`. -/
def Part.standing (p : Part) (g : Group) : Option Role :=
  if (p.group g).peerClaiming then some .claiming else (p.peer p.otherMember).roles.get g

/-- The other member serves group `g`: it is LIVE and its standing is ACTIVE or YIELDING. -/
def Part.serves (p : Part) (g : Group) : Bool := p.otherLive && ((p.standing g).map Role.serving).getD false

/-- The other member's standing for `g` is none of ACTIVE, YIELDING and CLAIMING; an absent standing is none of them. -/
def Part.standingIdle (p : Part) (g : Group) : Bool := ((p.standing g).map Role.idle).getD true

/-- The hold-off of group `g` is running. -/
def Part.heldOff (p : Part) (g : Group) : Bool := (p.group g).holdOff.isSome

/-- This station's latched merit for group `g`. -/
def Part.merit (p : Part) (g : Group) : Nat := (p.ppu.merits.get g).toNat

/-- The vacancy timer's three conditions (R120). -/
def Part.vacancyHolds (p : Part) (g : Group) : Bool :=
  decide (p.role g = .standby) && p.otherLive && p.standingIdle g

/-- Starts or stops the vacancy timer as its conditions come to hold or cease (R120). -/
def Part.updateVacancy (p : Part) (g : Group) : Part :=
  let r := p.group g
  if p.vacancyHolds g then
    match r.vacancy with
    | .stopped => p.setGroup g { r with vacancy := .running (p.after p.pulseInterval) }
    | _ => p
  else p.setGroup g { r with vacancy := .stopped }

/-- Bit of a heard-lanes byte: station `y` heard on lane `l` (R183). -/
def heardBit (heard : BitVec 8) (y : Station) (l : Lane) : Bool :=
  heard.getLsbD (2 * y.toNat + (match l with | .a => 0 | .b => 1))

/-- The witness's last PULSE reports hearing the other member on neither lane; one that has sent none reports nothing heard
(R121). -/
def Part.witnessHearsNeither (p : Part) : Bool :=
  match (p.peer .s2).heardLanes with
  | none => true
  | some h => !heardBit h p.otherMember .a && !heardBit h p.otherMember .b

/-- The vacancy timer of group `g` has run out and stays so. -/
def Part.vacancyRunOut (p : Part) (g : Group) : Bool := decide ((p.group g).vacancy = .runOut)

/-- The VACANT conditions of R121. -/
def Part.vacantConditions (p : Part) (g : Group) : Bool :=
  decide (0 < p.merit g) && !p.heldOff g
    && (!p.witnessConfigured
        || (p.peerLive .s2
            && (p.witnessHearsNeither || (p.otherLive && p.standingIdle g && p.vacancyRunOut g))))

/-- Group `g` is vacant, as STANDBY sees it (R120). -/
def Part.groupVacant (p : Part) (g : Group) : Bool :=
  !p.otherLive || (p.group g).rebirthMark || p.vacancyRunOut g

/-- The conditions of a PREEMPT claim (R120, R121). A member that is not LIVE serves no group (R118). -/
def Part.preemptConditions (p : Part) (g : Group) : Bool :=
  p.otherLive && decide (p.standing g = some .active) && (p.profile.map fun c => c.preempt.get g).getD false
    && decide (((p.peer p.otherMember).merits.get g).elim 0 BitVec.toNat + p.margin ≤ p.merit g) && !p.heldOff g

/-! ### Claims -/

/-- The cause of the ROLE notice of a claim (R142). -/
def causeOfClaim : ClaimKind → RoleCause
  | .vacant => .vacant
  | .preempt => .preempt
  | .handed => .handed

/-- Claims group `g`: a Claim Record under the next claim number, CLAIMING, and a CLAIM in the transmitter's list (R121). -/
def Part.makeClaim (p : Part) (g : Group) (kind : ClaimKind) : Part :=
  let number := (p.group g).claimNumber + 1
  let q := p.setRole g .claiming (causeOfClaim kind)
  let record : ClaimRecord :=
    { kind := kind, number := number, txTick := none, witnessVerdict := none, activeVerdict := none, deadline := none,
      held := false }
  (q.setGroup g { q.group g with claim := some record, claimNumber := number }).queueClaim
    { group := g, kind := kind, number := number, merit := p.ppu.merits.get g }

/-- The evaluation of a group in STANDBY (R120). -/
def Part.evalStandby (p : Part) (g : Group) : Part :=
  if p.role g ≠ .standby then p
  else
    let q := p.updateVacancy g
    if q.groupVacant g && q.vacantConditions g then q.makeClaim g .vacant
    else if q.preemptConditions g then q.makeClaim g .preempt
    else q

/-- Group `g` enters STANDBY, which evaluates at once. -/
def Part.enterStandby (p : Part) (g : Group) (cause : RoleCause) : Part := (p.setRole g .standby cause).evalStandby g

/-- The evaluation of a group (R118 to R120). -/
def Part.evaluate (p : Part) (g : Group) : Part :=
  match p.role g with
  | .listen =>
    if p.serves g || (p.otherLive && decide (p.standing g = some .claiming)) then p.enterStandby g .peerServing else p
  | .standby => p.evalStandby g
  | _ => p

/-- Every group is evaluated afresh (R118). -/
def Part.evaluateAll (p : Part) : Part := (p.evaluate .g0).evaluate .g1

/-- An open claim of group `g` fails: the record and its CLAIM are discarded, the hold-off starts where the failure names it,
and the group goes to STANDBY (R124, R125, R128). -/
def Part.failClaim (p : Part) (g : Group) (holdOff : Bool) : Part :=
  let q := if holdOff then p.setGroup g { p.group g with holdOff := some (p.after (8 * p.pulseInterval)) } else p
  q.enterStandby g .claimFailed

/-! ### Leaving and entering ACTIVE -/

/-- Every exit from ACTIVE (R130): the role and FPg, the forget walk from slot 0, and the takeover walk with its buffers. -/
def Part.exitActive (p : Part) (g : Group) (new : Role) (cause : RoleCause) : Part :=
  ((p.setRole g new cause).setForget g (some 0)).stopTakeover g

/-- Group `g` leaves its role for FENCED (R140). -/
def Part.fenceGroup (p : Part) (g : Group) : Part :=
  match p.role g with
  | .dormant | .fenced => p
  | .active => p.exitActive g .fenced .fence
  | _ => p.setRole g .fenced .fence

/-- The first fence cause fences every group in one act (R140). -/
def Part.fenceAll (p : Part) : Part := ((p.fenceGroup .g0).fenceGroup .g1).serveFreed p

/-- The part with its fence causes replaced. -/
def Part.setFence (p : Part) (f : FenceCauses) : Part := { p with rcu := { p.rcu with fence := f } }

/-- A fence cause applies: `f` is the set with the cause in it (R137). -/
def Part.applyFence (p : Part) (f : FenceCauses) : Part :=
  if p.rcu.fence.any then p.setFence f else (p.setFence f).fenceAll

/-- Group `g` enters LISTEN with a fresh listen timer (R119). -/
def Part.startListen (p : Part) (g : Group) (cause : RoleCause) : Part :=
  let q := p.setRole g .listen cause
  q.setGroup g { q.group g with listen := some (q.after q.holdDown) }

/-- A FENCED group goes to LISTEN (R141). -/
def Part.unfenceGroup (p : Part) (g : Group) : Part :=
  match p.role g with
  | .fenced => p.startListen g .unfenced
  | _ => p

/-- The last fence cause has cleared: every group goes to LISTEN in one act, and each LISTEN makes its test at entry
(R119, R141). -/
def Part.unfence (p : Part) : Part := ((p.unfenceGroup .g0).unfenceGroup .g1).evaluateAll

/-- A fence cause clears: `f` is the set without it (R137). -/
def Part.clearFence (p : Part) (f : FenceCauses) : Part :=
  if p.rcu.fence.any && !f.any then (p.setFence f).unfence else p.setFence f

/-- NO_QUORUM's condition (R138). -/
def Part.quorumLost (p : Part) : Bool :=
  p.isMember && p.witnessConfigured && ((p.role .g0).serving || (p.role .g1).serving) && !p.otherLive && !p.peerLive .s2

/-- The test for NO_QUORUM at one of its events (R138). -/
def Part.testQuorum (p : Part) : Part :=
  if p.quorumLost then p.applyFence { p.rcu.fence with noQuorum := true } else p

/-- The cause of the ROLE notice of an entry to ACTIVE (R125, R142). -/
def claimWonCause (c : ClaimRecord) : RoleCause :=
  match c.kind, c.activeVerdict with
  | .preempt, some v => if v.incomplete then .takenUnflushed else .claimWon
  | _, _ => .claimWon

/-- Group `g` enters ACTIVE (R129): the takeover walk starts at slot 0. -/
def Part.enterActive (p : Part) (g : Group) (cause : RoleCause) : Part :=
  ((p.setRole g .active cause).setWalk g (some { cursor := 0, wait := .none })).testQuorum

/-- A claim's success conditions at its deadline (R124 to R126). -/
def Part.claimWins (p : Part) (c : ClaimRecord) : Bool :=
  match c.kind with
  | .vacant => !p.witnessConfigured || decide (c.witnessVerdict = some .vote)
  | .preempt => (c.activeVerdict.map fun v => decide (v.verdict = .concede)).getD false
  | .handed => true

/-- The claim of group `g` meets its deadline (R124 to R126, R129). -/
def Part.resolveDeadline (p : Part) (g : Group) (c : ClaimRecord) : Part :=
  if p.claimWins c then
    if (p.smt.forget.get g).isSome then p.setGroup g { p.group g with claim := some { c with held := true } }
    else p.enterActive g (claimWonCause c)
  else p.failClaim g true

/-! ### Yielding (R134) -/

/-- The pending frame of a YIELDING group is queued (R134). -/
def Part.queuePending (p : Part) (g : Group) (timedOut : Bool) : PendingFrame → Part
  | .concede claimer number =>
    p.queueAnswer { group := g, claimer := claimer, verdict := .concede, number := number, incomplete := timedOut }
  | .yield => p.queueYield g

/-- The flush of group `g` completes, or its handover timer runs out (R134). -/
def Part.completeYield (p : Part) (g : Group) (timedOut : Bool) : Part :=
  let q := p.setRole g .standby (if timedOut then .handoverTimeout else .flushed)
  let q' := match (p.group g).pendingFrame with
    | some f => q.queuePending g timedOut f
    | none => q
  q'.evalStandby g

/-- The flush test of group `g` (R134). -/
def Part.flushTest (p : Part) (g : Group) : Part :=
  if p.role g = .yielding ∧ p.outstanding g = 0 then p.completeYield g false else p

/-- The flush tests of both groups, made wherever an event may bring an outstanding count to 0 (R134). -/
def Part.flushTests (p : Part) : Part := (p.flushTest .g0).flushTest .g1

/-- Group `g` leaves ACTIVE for YIELDING with a frame pending (R134). -/
def Part.enterYielding (p : Part) (g : Group) (cause : RoleCause) (pending : PendingFrame) : Part :=
  let q := p.exitActive g .yielding cause
  let q' := q.setGroup g { q.group g with handover := some (q.after q.handoverTimeout), pendingFrame := some pending }
  ((q'.testQuorum).flushTest g).serveFreed p

/-! ### Frames of the other stations -/

/-- The CLAIM's merit wins over this station's for the group: the higher merit, or the lower station number (R127). -/
def Part.claimBetter (p : Part) (g : Group) (merit : BitVec 8) : Bool :=
  decide (p.merit g < merit.toNat)
    || (decide (p.merit g = merit.toNat) && decide (p.otherMember.toNat < p.self.toNat))

/-- A CONTEST for a claim of the other member is queued, and its number remembered (R131). -/
def Part.contest (p : Part) (c : ClaimFrame) : Part :=
  (p.setGroup c.group { p.group c.group with contested := some c.number }).queueAnswer
    { group := c.group, claimer := p.otherMember, verdict := .contest, number := c.number, incomplete := false }

/-- What a CLAIM does to a group that is ACTIVE (R131). -/
def Part.claimMeetsActive (p : Part) (c : ClaimFrame) : Part :=
  match c.kind with
  | .vacant => p.contest c
  | .preempt =>
    if decide ((p.group c.group).contested ≠ some c.number) && decide (p.merit c.group + p.margin ≤ c.merit.toNat) then
      p.enterYielding c.group .preempted (.concede p.otherMember c.number)
    else p.contest c
  | .handed => ((p.exitActive c.group .standby .handedAway).evalStandby c.group).serveFreed p

/-- A CLAIM of the other member acts by the role of its group (R127, R131, R135). -/
def Part.claimByRole (p : Part) (c : ClaimFrame) : Part :=
  match p.role c.group with
  | .active => p.claimMeetsActive c
  | .yielding => if c.kind = .handed then p.enterStandby c.group .handedAway else p
  | .claiming =>
    match (p.group c.group).claim with
    | some own =>
      if decide (own.kind = .vacant) && p.claimBetter c.group c.merit then p.failClaim c.group false else p
    | none => p
  | _ => p

/-- A member takes a CLAIM of the other member: its standing becomes CLAIMING, the group acts by its role, and every group is
evaluated (R118, R131). -/
def Part.takeClaim (p : Part) (c : ClaimFrame) : Part :=
  ((p.setGroup c.group { p.group c.group with peerClaiming := true }).claimByRole c).evaluateAll

/-- A member takes an ANSWER from `sender` (R123 to R125). -/
def Part.takeAnswer (p : Part) (sender : Station) (a : AnswerFrame) : Part :=
  match (p.group a.group).claim with
  | none => p
  | some c =>
    if a.claimer ≠ p.self ∨ a.number ≠ c.number then p
    else match a.verdict with
      | .vote =>
        if sender = .s2 ∧ c.kind = .vacant then
          p.setGroup a.group { p.group a.group with claim := some { c with witnessVerdict := some .vote } }
        else p
      | .deny => if sender = .s2 ∧ c.kind = .vacant then p.failClaim a.group true else p
      | .contest =>
        if sender = p.otherMember then
          match c.kind with
          | .handed =>
            let v : ActiveVerdict := { verdict := .contest, tick := p.clock, incomplete := false }
            p.setGroup a.group { p.group a.group with claim := some { c with activeVerdict := some v } }
          | _ => p.failClaim a.group true
        else p
      | .concede =>
        if sender = p.otherMember ∧ c.kind = .preempt ∧ ((p.standing a.group).map Role.serving).getD false = true then
          let v : ActiveVerdict := { verdict := .concede, tick := p.clock, incomplete := a.incomplete }
          p.setGroup a.group { p.group a.group with
            claim := some { c with activeVerdict := some v, deadline := some (p.after p.deadTime), held := false }
            deadTimer := some (p.after p.deadTime) }
        else p

/-- A member takes a YIELD of the other member (R120). -/
def Part.takeYield (p : Part) (g : Group) : Part :=
  match p.role g with
  | .standby | .listen => if 0 < p.merit g then p.makeClaim g .handed else p
  | _ => p

/-- This station's merit for `g` in a split brain: the sent merit, or the latched one while no PULSE has completed
(R116, R136). -/
def Part.splitMerit (p : Part) (g : Group) : Nat :=
  if p.rcu.pulseSent then (p.group g).sentMerit.toNat else p.merit g

/-- This station loses a split brain over `g` against the announced merit (R136). -/
def Part.losesSplit (p : Part) (g : Group) (announced : Nat) : Bool :=
  decide (p.splitMerit g < announced)
    || (decide (p.splitMerit g = announced) && decide (p.otherMember.toNat < p.self.toNat))

/-- What a PULSE of the other member that announces `r` for `g` does to the group itself: it fails a VACANT claim (R124) or a
HANDED one (R126), or is a split brain (R136). -/
def Part.pulseMeetsGroup (p : Part) (g : Group) (r : Role) (announced : Nat) : Part :=
  match p.role g with
  | .claiming =>
    match (p.group g).claim with
    | some c =>
      match c.kind with
      | .vacant => if r.serving then p.failClaim g false else p
      | .handed => if r = .active then p.failClaim g false else p
      | .preempt => p
    | none => p
  | .active =>
    if decide (r = .active) && p.losesSplit g announced then
      ((p.exitActive g .standby .splitBrain).evalStandby g).serveFreed p
    else p
  | _ => p

/-- The standing of `g` is the announced role again, and a standing of ACTIVE, YIELDING or CLAIMING clears the rebirth mark
(R116, R118). -/
def Part.pulseStanding (p : Part) (g : Group) (r : Option Role) : Part :=
  let x := p.group g
  p.setGroup g { x with peerClaiming := false, rebirthMark := x.rebirthMark && (r.map Role.idle).getD true }

/-- The Role Controller takes a PULSE of the other member whose roles and merits the Peer Record now holds (R113, R118). -/
def Part.pulseOfOther (p : Part) (roles : PerGroup (Option Role)) (merits : PerGroup (Option (BitVec 8))) : Part :=
  let meets (q : Part) (g : Group) : Part :=
    match roles.get g with
    | some r => q.pulseMeetsGroup g r ((merits.get g).elim 0 BitVec.toNat)
    | none => q
  let q := (p.pulseStanding .g0 roles.g0).pulseStanding .g1 roles.g1
  (meets (meets q .g0) .g1).evaluateAll

/-! ### Changes of a Peer Record -/

/-- The other member has become LIVE, or is reborn: an open VACANT claim of `g` fails (R124). -/
def Part.failVacantClaim (p : Part) (g : Group) : Part :=
  match (p.group g).claim with
  | some c => if c.kind = .vacant then p.failClaim g false else p
  | none => p

/-- The other member is LOST: a PREEMPT claim not yet conceded fails (R125), and a YIELDING group ends its yielding (R135). -/
def Part.lossMeetsGroup (p : Part) (g : Group) : Part :=
  match p.role g with
  | .claiming =>
    match (p.group g).claim with
    | some c => if c.kind = .preempt ∧ p.claimWins c = false then p.failClaim g false else p
    | none => p
  | .yielding => p.enterStandby g .peerLost
  | _ => p

/-- The Role Controller hears that the other member is LOST. Whether NO_QUORUM is tested before or after the groups meet the
loss, no rule says: a free choice (log 10). -/
def Part.otherLost (p : Part) : Part :=
  let q := p.drawn
  let groups (x : Part) : Part := (x.lossMeetsGroup .g0).lossMeetsGroup .g1
  (if p.choice then groups q.testQuorum else (groups q).testQuorum).evaluateAll

/-- NO_QUORUM clears as the other member or the witness becomes LIVE (R137). -/
def Part.clearNoQuorum (p : Part) : Part := p.clearFence { p.rcu.fence with noQuorum := false }

/-- The duplicate-station latch is set (R114); on a member it holds its fence cause (R139), on a witness the waiting ANSWER
frames are withdrawn (R151). -/
def Part.setLatch (p : Part) : Part :=
  let q := { p with rcu := { p.rcu with latch := true } }
  if p.isMember then q.applyFence { q.rcu.fence with duplicateStation := true }
  else { q with mbi := { q.mbi with answers := [] } }

/-! ### Outcomes of the frames the Role Controller queued -/

/-- A CLAIM has succeeded (R122). A PREEMPT that already holds a concession keeps to the dead time from now (R129; log 11). -/
def Part.claimSucceeded (p : Part) (f : ClaimFrame) : Part :=
  match (p.group f.group).claim with
  | some c =>
    if c.number = f.number then
      let wait := match c.kind, c.activeVerdict with
        | .preempt, none => p.handoverTimeout + p.deadTime
        | _, _ => p.deadTime
      p.setGroup f.group { p.group f.group with
        claim := some { c with txTick := some p.clock, deadline := some (p.after wait) }
        deadTimer := some (p.after p.deadTime) }
    else p
  | none => p

/-- A CLAIM has been abandoned: it is queued again with the merit now latched (R122). -/
def Part.claimAbandoned (p : Part) (f : ClaimFrame) : Part :=
  match (p.group f.group).claim with
  | some c => if c.number = f.number then p.queueClaim { f with merit := p.ppu.merits.get f.group } else p
  | none => p

end Sys2Proof.Machine
end

