-- ==== Sys2Proof/Machine/Replication.lean ====
section
/-! DEFINITION. The Replication Unit: frame building and the In-Flight List (R37 to R59), inbound records (R60 to R70), the Receipt
Queue (R71 to R74), and the refresh walk of the Session Mirror, which the other member's restarts drive (R19, R20). -/

namespace Sys2Proof.Machine

/-! ### Returning In-Flight records (R46, R47, R52, R53, R55) -/

/-- The state an in-flight entry takes when its record leaves without a receipt (R46, R52). -/
def EntryState.returned : EntryState → EntryState
  | .sent | .changed => .dirty
  | .dropSent | .dropWait => .dropDue
  | st => st

/-- Returns the entry of an In-Flight record to the Send List at the tail, with its attempts count set to `attempts e`. -/
def Part.returnTail (p : Part) (attempts : Entry → Nat) (slot : Slot) : Part :=
  match p.entry slot with
  | some e =>
    if e.state.inFlight then p.putEntry slot (some { e with state := e.state.returned, attempts := attempts e }) else p
  | none => p

/-- Returns the entry of an In-Flight record to the head of the Send List; its attempts count stands (R46). -/
def Part.returnHead (p : Part) (slot : Slot) : Part :=
  match p.entry slot with
  | some e =>
    if e.state.inFlight then
      { p with smt := { p.smt with table := tableSet p.smt.table slot (some { e with state := e.state.returned }) }
               rpu := { p.rpu with sendList := slot :: p.rpu.sendList.filter fun x => decide (x ≠ slot)
                                   inFlight := p.rpu.inFlight.filter fun r => decide (r.slot ≠ slot) } }
    else p
  | none => p

/-- The slots of the records whose frame is in transmission, in frame order. -/
def Part.frameSlots (p : Part) : List Slot := (p.rpu.inFlight.filter (·.transmitting)).map (·.slot)

/-- The slots of the records whose transmission has completed, oldest first. -/
def Part.completedSlots (p : Part) : List Slot := (p.rpu.inFlight.filter fun r => !r.transmitting).map (·.slot)

/-- A DELTA or DROP. -/
def TxFrame.session : TxFrame → Bool
  | .delta | .drop => true
  | _ => false

/-- The frame in transmission, if there is one, takes a recall mark (R47). -/
def Part.markRecall (p : Part) : Part :=
  match p.mbi.inHand with
  | some h => if h.frame.session then { p with rpu := { p.rpu with recallMark := true } } else p
  | none => p

/-- An owned entry with its attempts count at 0. -/
def Entry.attemptsCleared (e : Entry) : Entry := if e.state.owned then { e with attempts := 0 } else e

/-- Returns every In-Flight record, as the pause and the other member's loss or rebirth do (R47, R53, R55): the completed ones at
once, those in transmission by a recall mark, and every owned entry's attempts count to 0. -/
def Part.returnAll (p : Part) : Part :=
  (p.completedSlots.foldl (fun q slot => q.returnTail (fun e => e.attempts) slot) p).markRecall.mapEntries
    Entry.attemptsCleared

/-- The receipt timer of `r` has run out (R51). -/
def Part.receiptRanOut (p : Part) (r : InFlight) : Bool :=
  match r.completion with
  | some t => !r.transmitting && decide (p.receiptTimeout ≤ p.since t)
  | none => false

/-- The pause begins (R53): its flag and its timer. -/
def Part.startPause (p : Part) : Part :=
  { p with rpu := { p.rpu with pauseFlag := true, pauseTimer := some (p.after p.holdDown) } }

/-- The receipt timer of the slot's record has run out (R52, R53). -/
def Part.timeOut (p : Part) (slot : Slot) : Part :=
  match p.entry slot with
  | some e =>
    let q := p.returnTail (fun e => e.attempts + 1) slot
    if e.attempts + 1 < 8 then q else q.returnAll.startPause
  | none => p

/-! ### Receipts (R48, R49) -/

/-- The state a matched entry takes; none is FREE (R49). -/
def EntryState.received : EntryState → Option EntryState
  | .sent => some .clean
  | .changed => some .dirty
  | .dropWait => some .dropDue
  | _ => none

/-- A pair matches the record of its slot (R48). -/
def InFlight.matchesPair (r : InFlight) (version : Version) : Bool := decide (r.version = version) && !r.transmitting

/-- Takes one pair of a RECEIPT frame (R48, R49). -/
def Part.takePair (p : Part) (x : Slot × Version) : Part :=
  match p.flightOf x.1, p.entry x.1 with
  | some r, some e =>
    if r.matchesPair x.2 && e.state.inFlight then
      p.putEntry x.1 (e.state.received.map fun st => { e with state := st, attempts := 0 })
    else p
  | _, _ => p

/-- Takes the pairs of a RECEIPT frame in order, each as one event (R48), with the flush test it may meet (R134). -/
def Part.takePairs (p : Part) (pairs : List (Slot × Version)) : Part :=
  pairs.foldl (fun q x => (q.takePair x).flushTests) p

/-! ### Building DELTA and DROP frames (R39 to R43) -/

/-- The conditions of R39. -/
def Part.mayBuild (p : Part) : Bool :=
  p.isMember && p.otherLive && !p.rpu.pauseFlag && decide (p.rpu.inFlight.length < 2048) && p.mbi.workingLane.isSome
    && !p.rpu.sendList.isEmpty

/-- The free places of the In-Flight List (R44). -/
def Part.flightRoom (p : Part) : Nat := 2048 - p.rpu.inFlight.length

/-- The slots of the Send List that a DROP frame takes (R40). -/
def Part.dropRun (p : Part) : List Slot :=
  (p.rpu.sendList.takeWhile fun s => decide ((p.entry s).map (·.state) = some .dropDue)).take (min 32 p.flightRoom)

/-- The first slots of a list that a DELTA frame takes, with room for `n` records and `left` bytes (R41). -/
def Part.deltaTake (p : Part) : Nat → Nat → List Slot → List Slot
  | _, _, [] => []
  | 0, _, _ => []
  | n + 1, left, s :: rest =>
    match p.entry s with
    | some e => if e.state = .dirty ∧ e.wireSize ≤ left then s :: p.deltaTake n (left - e.wireSize) rest else []
    | none => []

/-- The slots of the Send List that a DELTA frame takes (R41). -/
def Part.deltaRun (p : Part) : List Slot := p.deltaTake (min 8 p.flightRoom) 492 p.rpu.sendList

/-- The state of an entry whose slot a frame takes (R43). -/
def EntryState.framed : EntryState → EntryState
  | .dirty => .sent
  | .dropDue => .dropSent
  | st => st

/-- A frame takes a slot: off the Send List, an In-Flight record at the tail, SENT or DROP_SENT, as one act (R43). -/
def Part.frameSlot (p : Part) (slot : Slot) : Part :=
  match p.entry slot with
  | some e =>
    let q := p.putEntry slot (some { e with state := e.state.framed })
    { q with rpu := { q.rpu with inFlight :=
        q.rpu.inFlight ++ [{ slot := slot, version := e.version, completion := none, transmitting := true }] } }
  | none => p

/-- The wire record of the entry in `slot` as it stands, with its age now (R42). -/
def Part.wireOf (p : Part) (slot : Slot) : List Byte :=
  match p.entry slot with
  | some e => wireBytes slot (p.ageNow e) e
  | none => []

/-- The (slot, current version) pair of a DROP (R40). -/
def Part.dropPairOf (p : Part) (slot : Slot) : List Byte :=
  match p.entry slot with
  | some e => pairBytes (slot, e.version)
  | none => []

/-- Builds the DROP or DELTA frame that the head of the Send List calls for (R39 to R43). -/
def Part.buildSession (p : Part) : Option (TxFrame × List Byte × Part) :=
  if p.mayBuild then
    match p.dropRun with
    | s :: rest =>
      some (.drop, p.ownFrame .drop 0 ((s :: rest).flatMap p.dropPairOf), (s :: rest).foldl Part.frameSlot p)
    | [] =>
      match p.deltaRun with
      | s :: rest =>
        some (.delta, p.ownFrame .delta 0 ((s :: rest).flatMap p.wireOf), (s :: rest).foldl Part.frameSlot p)
      | [] => none
  else none

/-! ### The end of a DELTA or DROP (R45 to R47) -/

/-- The refresh walk is under way and has not yet passed `slot` (R20). -/
def Part.refreshAhead (p : Part) (slot : Slot) : Bool :=
  match p.smt.refreshWalk with
  | some c => decide (c ≤ slot.toNat)
  | none => false

/-- A DELTA that carried `slot` has completed: peer-may-hold, and the note of a refresh walk still ahead (R20, R45). -/
def Part.heldByPeer (p : Part) (slot : Slot) : Part :=
  match p.entry slot with
  | some e => p.setTable slot (some { e with peerMayHold := true, noted := e.noted || p.refreshAhead slot })
  | none => p

/-- The records in transmission take their completion tick (R45). -/
def Part.stampCompletion (p : Part) : Part :=
  { p with rpu := { p.rpu with inFlight := p.rpu.inFlight.map fun r =>
      if r.transmitting then { r with transmitting := false, completion := some p.clock } else r } }

/-- The recall mark cleared. -/
def Part.recallCleared (p : Part) : Part := { p with rpu := { p.rpu with recallMark := false } }

/-- A DELTA (`isDelta`) or DROP has completed (R45), and is then recalled if it is marked (R47). -/
def Part.sessionCompleted (p : Part) (isDelta : Bool) : Part :=
  let slots := p.frameSlots
  let q := p.stampCompletion
  let q := if isDelta then slots.foldl Part.heldByPeer q else q
  (if p.rpu.recallMark then slots.foldl (fun q slot => q.returnTail (fun _ => 0) slot) q else q).recallCleared

/-- A DELTA or DROP has been abandoned: its slots go back to the head in frame order (R46). -/
def Part.sessionAbandoned (p : Part) : Part :=
  (p.frameSlots.foldr (fun slot q => q.returnHead slot) p).recallCleared

/-! ### The Receipt Queue (R71 to R74) -/

/-- The queue has room for a receipt of `slot` (R61). -/
def Part.receiptRoom (p : Part) (slot : Slot) : Bool :=
  decide (p.rpu.receipts.length < 256) || p.rpu.receipts.any fun r => decide (r.slot = slot)

/-- Makes a receipt: it replaces the version of the slot's pair in place, or joins at the tail (R71). -/
def Part.makeReceipt (p : Part) (slot : Slot) (version : Version) : Part :=
  let receipts :=
    if p.rpu.receipts.any fun r => decide (r.slot = slot) then
      p.rpu.receipts.map fun r => if r.slot = slot then { r with version := version, transmitting := false } else r
    else p.rpu.receipts ++ [{ slot := slot, version := version, join := p.clock, transmitting := false, waited := false }]
  { p with rpu := { p.rpu with receipts := receipts } }

/-- The pairs whose transmitting flag is clear, oldest first. -/
def Part.waitingReceipts (p : Part) : List Receipt := p.rpu.receipts.filter fun r => !r.transmitting

/-- The clock has reached the pair's join tick plus 2 (R72). -/
def Part.receiptReached (p : Part) (r : Receipt) : Bool := p.reached (r.join + 2)

/-- The oldest unflagged pair has waited 2 ms; once met, the condition stays met (R72). -/
def Part.receiptWaited (p : Part) : Bool :=
  match p.waitingReceipts with
  | r :: _ => r.waited || p.receiptReached r
  | [] => false

/-- Every pair that has waited 2 ms by now is noted so (R72; log 24). -/
def Part.noteWaited (p : Part) : Part :=
  let note (r : Receipt) : Receipt := { r with waited := r.waited || p.receiptReached r }
  { p with rpu := { p.rpu with receipts := p.rpu.receipts.map note } }

/-- The conditions of R72. -/
def Part.mayReceipt (p : Part) : Bool :=
  p.isMember && p.otherLive && p.mbi.workingLane.isSome && !p.waitingReceipts.isEmpty
    && (decide (32 ≤ p.waitingReceipts.length) || p.receiptWaited)

/-- Sets the transmitting flag of the first `n` pairs whose flag is clear (R72). -/
def flagReceipts : Nat → List Receipt → List Receipt
  | _, [] => []
  | 0, rs => rs
  | n + 1, r :: rs => if r.transmitting then r :: flagReceipts (n + 1) rs else { r with transmitting := true } :: flagReceipts n rs

/-- Builds a RECEIPT frame (R72). -/
def Part.buildReceipt (p : Part) : Option (List Byte × Part) :=
  if p.mayReceipt then
    some (p.ownFrame .receipt 0 ((p.waitingReceipts.take 32).flatMap fun r => pairBytes (r.slot, r.version)),
      { p with rpu := { p.rpu with receipts := flagReceipts 32 p.rpu.receipts } })
  else none

/-- A RECEIPT frame has ended (R73). -/
def Part.receiptEnded (p : Part) (completed : Bool) : Part :=
  let receipts :=
    if completed then p.rpu.receipts.filter fun r => !r.transmitting
    else p.rpu.receipts.map fun r => { r with transmitting := false }
  { p with rpu := { p.rpu with receipts := receipts } }

/-- The Receipt Queue emptied, as the other member's rebirth does (R74). -/
def Part.emptyReceipts (p : Part) : Part := { p with rpu := { p.rpu with receipts := [] } }

/-! ### Inbound records (R61 to R68) -/

/-- The SHADOW entry that an applied record makes (R63). -/
def Part.shadowOf (p : Part) (w : WireRecord) : Entry :=
  { state := .shadow, group := w.session.group, key := w.session.key, nat := w.session.nat, tcp := w.session.tcp.map clampTcp,
    lifetime := clampLifetime w.session.lifetime, refTick := p.clock, ageOffset := w.age, version := w.version,
    peerMayHold := true, attempts := 0, installed := false, noted := false }

/-- Applies a record (R63); where the entry was owned and live, the install buffer that holds its slot notes it as taken. -/
def Part.applyWire (p : Part) (w : WireRecord) : Part :=
  let live := ((p.entry w.slot).map (·.state.live)).getD false
  (if live then p.noteTaken w.slot else p).putEntry w.slot (some (p.shadowOf w))

/-- Reassertion (R65); an entry in any other state stands. -/
def Part.reassert (p : Part) (slot : Slot) (e : Entry) : Part :=
  match e.state with
  | .clean => p.putEntry slot (some { e with state := .dirty, version := e.version + 1 })
  | .sent => p.putEntry slot (some { e with state := .changed, version := e.version + 1 })
  | _ => p

/-- A record meets an owned entry whose key is unequal, or which is closing (R66, R67); none when the Revoke List has no room. -/
def Part.meetCollision (p : Part) (w : WireRecord) (e : Entry) : Option Part :=
  if regionOf w.slot = p.self then some ((p.reassert w.slot e).makeReceipt w.slot w.version)
  else if e.installed then
    if p.revokeRoom w.slot then some (((p.revokeAppend w.slot).applyWire w).makeReceipt w.slot w.version) else none
  else some ((p.applyWire w).makeReceipt w.slot w.version)

/-- Takes one record of a DELTA (R61, R62); none when the rest of the frame is left unapplied. -/
def Part.takeWire (p : Part) (w : WireRecord) : Option Part :=
  if p.receiptRoom w.slot then
    match p.entry w.slot with
    | none => some ((p.applyWire w).makeReceipt w.slot w.version)
    | some e =>
      if e.state.owned then
        if e.state.live && decide (e.key = w.session.key) then
          if (p.role e.group).serving then some (p.reassert w.slot e)
          else some ((p.applyWire w).makeReceipt w.slot w.version)
        else p.meetCollision w e
      else some ((p.applyWire w).makeReceipt w.slot w.version)
  else none

/-- Takes the records of a DELTA in order, until one stops the frame (R61), with the flush tests they may meet (R134). -/
def Part.takeDelta (p : Part) : List WireRecord → Part
  | [] => p
  | w :: ws =>
    match p.takeWire w with
    | some q => (q.flushTests).takeDelta ws
    | none => p

/-- What a DROP record does to the entry of its slot (R68). -/
def Part.removeShadow (p : Part) (slot : Slot) : Part :=
  match p.entry slot with
  | some e => if e.state = .shadow then p.putEntry slot none else p
  | none => p

/-- Takes the records of a DROP in order, until the Receipt Queue has no room (R61, R68). -/
def Part.takeDrop (p : Part) : List (Slot × Version) → Part
  | [] => p
  | (slot, version) :: rest =>
    if p.receiptRoom slot then ((p.removeShadow slot).makeReceipt slot version).takeDrop rest else p

/-! ### The refresh walk (R19, R20) -/

/-- Starts the refresh walk at slot 0, or restarts it: every note is cleared (R19, R20). -/
def Part.startRefresh (p : Part) : Part :=
  let q := p.mapEntries fun e => { e with noted := false }
  { q with smt := { q.smt with refreshWalk := some 0 } }

/-- What the refresh walk does to the entry of a slot (R20). -/
def Part.refreshEntry (p : Part) (slot : Slot) (e : Entry) : Part :=
  if e.noted then p.setTable slot (some { e with noted := false })
  else match e.state with
    | .clean => p.putEntry slot (some { e with state := .dirty, version := e.version + 1, peerMayHold := false })
    | .dirty => p.putEntry slot (some { e with peerMayHold := false })
    | .dropDue => p.putEntry slot none
    | _ => p

/-- One visit of the refresh walk (R20), with the flush test it may meet (R134). -/
def Part.refreshVisit (p : Part) : Part :=
  match p.smt.refreshWalk with
  | none => p
  | some c =>
    if 65536 ≤ c then p
    else
      let q := match p.entry (slotAt c) with
        | some e => p.refreshEntry (slotAt c) e
        | none => p
      ({ q with smt := { q.smt with refreshWalk := some (c + 1) } }).flushTests

end Sys2Proof.Machine
end

