-- ==== Sys2Proof/Machine/Witness.lean ====
section
/-! DEFINITION. The Witness Unit: deciding VACANT claims (R147, R148), sending verdicts (R149), the lapse of a grant (R146), and a
member's rebirth (R150). -/

namespace Sys2Proof.Machine

/-- The Vote Record of group `g`. -/
def Part.vote (p : Part) (g : Group) : VoteRecord := p.wtu.votes.get g

/-- The part with group `g`'s Vote Record replaced. -/
def Part.setVote (p : Part) (g : Group) (v : VoteRecord) : Part := { p with wtu := { p.wtu with votes := p.wtu.votes.set g v } }

/-- The answer memory for member `x`: station 0's for station 0, and station 1's otherwise. -/
def VoteRecord.memory (v : VoteRecord) : Station → Option AnswerMemory
  | .s0 => v.memory0
  | _ => v.memory1

/-- The record with the answer memory for member `x` replaced. -/
def VoteRecord.setMemory (v : VoteRecord) (x : Station) (m : Option AnswerMemory) : VoteRecord :=
  match x with
  | .s0 => { v with memory0 := m }
  | _ => { v with memory1 := m }

/-- The record is GRANTED to `x` under claim number `n`. -/
def VoteRecord.grantedTo (v : VoteRecord) (x : Station) (n : BitVec 8) : Bool :=
  match v.grant with
  | some g => decide (g.grantee = x) && decide (g.number = n)
  | none => false

/-- The record is GRANTED to `x`. -/
def VoteRecord.grantee (v : VoteRecord) (x : Station) : Bool :=
  match v.grant with
  | some g => decide (g.grantee = x)
  | none => false

/-- The verdict of a repeat, or none when the claim is to be decided afresh (R148). -/
def VoteRecord.repeatVerdict (v : VoteRecord) (x : Station) (n : BitVec 8) : Option Verdict :=
  match v.memory x with
  | some m =>
    if m.number ≠ n then none
    else if m.vote then (if v.grantedTo x n then some .vote else none)
    else some .deny
  | none => none

/-- Member `x`'s claim for `g` is denied (R147). -/
def Part.claimDenied (p : Part) (g : Group) (x : Station) : Bool :=
  (p.peerLive (otherMemberOf x) && (((p.peer (otherMemberOf x)).roles.get g).map Role.serving).getD false)
    || (p.vote g).grantee (otherMemberOf x)

/-- Queues the Witness Unit's ANSWER (R147). -/
def Part.queueVerdict (p : Part) (g : Group) (x : Station) (n : BitVec 8) (v : Verdict) : Part :=
  p.queueAnswer { group := g, claimer := x, verdict := v, number := n, incomplete := false }

/-- Decides a VACANT claim of member `x` (R147, R148). -/
def Part.decideClaim (p : Part) (x : Station) (c : ClaimFrame) : Part :=
  let v := p.vote c.group
  match v.repeatVerdict x c.number with
  | some verdict => p.queueVerdict c.group x c.number verdict
  | none =>
    if p.claimDenied c.group x then
      (p.setVote c.group (v.setMemory x (some { number := c.number, vote := false }))).queueVerdict c.group x c.number .deny
    else
      let granted : VoteRecord := { v with grant := some { grantee := x, tick := p.clock, number := c.number } }
      (p.setVote c.group (granted.setMemory x (some { number := c.number, vote := true }))).queueVerdict c.group x c.number
        .vote

/-- A witness takes a CLAIM of member `x` (R145); none is answered while the duplicate-station latch is set (R151). -/
def Part.witnessClaim (p : Part) (x : Station) (c : ClaimFrame) : Part :=
  if p.rcu.latch then p
  else match c.kind with
    | .vacant => p.decideClaim x c
    | .preempt | .handed => p

/-- The grant of group `g` has stood for a hold-down (R146). -/
def Part.grantLapsed (p : Part) (g : Group) : Bool :=
  match (p.vote g).grant with
  | some x => decide (p.holdDown ≤ p.since x.tick)
  | none => false

/-- The VOTE of a grant of group `g`. -/
def AnswerFrame.voteOf (a : AnswerFrame) (g : Group) (x : Grant) : Bool :=
  decide (a.group = g) && decide (a.verdict = .vote) && decide (a.claimer = x.grantee) && decide (a.number = x.number)

/-- The grant of group `g` lapses: the record is OPEN again, and a VOTE for the grant still waiting is withdrawn (R146, R149). -/
def Part.lapseGrant (p : Part) (g : Group) : Part :=
  match (p.vote g).grant with
  | some x =>
    let q := p.setVote g { p.vote g with grant := none }
    { q with mbi := { q.mbi with answers := q.mbi.answers.filter fun a => !a.voteOf g x } }
  | none => p

/-- An ANSWER for the same group and claimer is already waiting (R149). -/
def Part.answerWaits (p : Part) (a : AnswerFrame) : Bool :=
  p.mbi.answers.any fun x => decide (x.group = a.group) && decide (x.claimer = a.claimer)

/-- An ANSWER of the Witness Unit has been abandoned (R149, R151). -/
def Part.verdictAbandoned (p : Part) (a : AnswerFrame) : Part :=
  if p.rcu.latch then p
  else match a.verdict with
    | .vote => if (p.vote a.group).grantedTo a.claimer a.number then p.queueAnswer a else p
    | _ => if p.answerWaits a then p else p.queueAnswer a

/-- Member `x` is reborn: its answer memory is absent in both Vote Records (R150). -/
def Part.forgetAnswers (p : Part) (x : Station) : Part :=
  (p.setVote .g0 ((p.vote .g0).setMemory x none)).setVote .g1 ((p.vote .g1).setMemory x none)

end Sys2Proof.Machine
end

