-- ==== Sys2Proof/Machine/Bus.lean ====
section
/-! DEFINITION. The Mirror Bus Interface: working lane (R95), lane states (R80 to R86), the transmitter with its collisions and
outcomes (R96 to R100), and the building of PULSE frames (R106, R107). -/

namespace Sys2Proof.Machine

/-! ### The working lane (R95) -/

/-- The first of lanes A and B that satisfies `f`. -/
def firstLane (f : Lane → Bool) : Option Lane := if f .a then some .a else if f .b then some .b else none

/-- The other member's latest PULSE reports hearing this station on lane `l` (R95, R112). -/
def Part.heardByOther (p : Part) (l : Lane) : Bool :=
  match (p.peer p.otherMember).heardLanes with
  | some h => heardBit h p.self l
  | none => false

/-- Step 1 of the choice takes lane `l`. -/
def Part.confirmedLane (p : Part) (l : Lane) : Bool :=
  p.isMember && p.otherLive && decide ((p.lane l).state = .up) && p.heardByOther l

/-- The working lane that R95 gives. -/
def Part.chosenLane (p : Part) : Option Lane :=
  firstLane p.confirmedLane <|> firstLane (fun l => decide ((p.lane l).state = .up))
    <|> firstLane (fun l => decide ((p.lane l).state = .degraded))

/-- The working lane is chosen afresh (R95). -/
def Part.chooseLane (p : Part) : Part := { p with mbi := { p.mbi with workingLane := p.chosenLane } }

/-! ### Outcomes of a transmission (R100) -/

/-- A completed PULSE of a member makes the merits it carried the sent merits (R108, R116). -/
def Part.pulseCompleted (p : Part) (merits : PerGroup (BitVec 8)) : Part :=
  if p.isMember then
    let q := (p.setGroup .g0 { p.group .g0 with sentMerit := merits.g0 }).setGroup .g1
      { p.group .g1 with sentMerit := merits.g1 }
    { q with rcu := { q.rcu with pulseSent := true } }
  else p

/-- An ANSWER has been abandoned: the Witness Unit's as R149 gives, the Role Controller's queued again unless the role has changed
since it was first queued (R132). -/
def Part.answerAbandoned (p : Part) (a : AnswerFrame) (stale : Bool) : Part :=
  if p.isWitness then p.verdictAbandoned a else if stale then p else p.queueAnswer a

/-- The outcome of a frame goes to its owner (R100). -/
def Part.outcome (p : Part) (frame : TxFrame) (stale completed : Bool) : Part :=
  match frame with
  | .align _ => p
  | .pulse merits => if completed then p.pulseCompleted merits else p
  | .delta => if completed then p.sessionCompleted true else p.sessionAbandoned
  | .drop => if completed then p.sessionCompleted false else p.sessionAbandoned
  | .receipt => p.receiptEnded completed
  | .claim f => if completed then p.claimSucceeded f else p.claimAbandoned f
  | .answer a => if completed then p else p.answerAbandoned a stale
  | .yield g => if completed || stale then p else p.queueYield g

/-- The part with nothing in hand. -/
def Part.handEmptied (p : Part) : Part := { p with mbi := { p.mbi with inHand := none } }

/-- The frame in hand, or one copy of it, has ended: the copy on the other lane follows if that lane then takes one (R96; log 21),
else the whole frame has ended (R100). -/
def Part.endCopy (p : Part) (h : InHand) (completed : Bool) : Part :=
  let any := h.completedAny || completed
  if h.secondCopy && p.laneUsable h.lane.other then
    { p with mbi := { p.mbi with
        inHand := some { h with lane := h.lane.other, secondCopy := false, completedAny := any, collisions := 0, phase := .waitIdle } } }
  else p.handEmptied.outcome h.frame h.stale any

/-- The lane of the frame in hand no longer takes it (R100). -/
def Part.handLost (p : Part) (h : InHand) : Bool :=
  match h.frame with
  | .align _ => decide ((p.lane h.lane).state ≠ .training)
  | _ => !p.laneUsable h.lane

/-- A frame in hand whose lane no longer takes it is abandoned (R100). -/
def Part.abandonLost (p : Part) : Part :=
  match p.mbi.inHand with
  | some h => if p.handLost h then p.endCopy h false else p
  | none => p

/-! ### Lane states (R80 to R86) -/

/-- A lane's record as its state becomes `new`, at clock `now`: the health window runs on between UP and DEGRADED, starts on
leaving TRAINING and stops in every other state (R83); ALIGN marks belong to TRAINING (R82), the retrain timer to DOWN (R85). -/
def LaneRec.enter (r : LaneRec) (new : LaneState) (now : Tick) : LaneRec :=
  match new with
  | .training =>
    { r with state := .training, windowEnd := none, badCount := 0, retrain := none, alignMark := some (now + 10),
             alignDue := true }
  | .up =>
    if r.state = .degraded then { r with state := .up }
    else { r with state := .up, windowEnd := some (now + 1000), badCount := 0, retrain := none, alignMark := none,
                  alignDue := false }
  | .degraded => { r with state := .degraded }
  | .down =>
    { r with state := .down, windowEnd := none, badCount := 0, quietElapsed := false, retrain := some (now + 500),
             alignMark := none, alignDue := false }
  | .off => { r with state := .off }

/-- Lane `l`'s state becomes `new`: its record, its LANE notice (R86), the frame in hand (R100) and the working lane (R95). -/
def Part.laneTo (p : Part) (l : Lane) (new : LaneState) : Part :=
  (((p.setLane l ((p.lane l).enter new p.clock)).laneNotice l).abandonLost).chooseLane

/-- A lane takes a bad frame (R83, R92). -/
def Part.countBad (p : Part) (l : Lane) : Part :=
  let r := p.lane l
  if r.state.usable then
    let q := p.setLane l { r with badCount := r.badCount + 1 }
    if r.state = .up ∧ 8 ≤ r.badCount + 1 then q.laneTo l .degraded else q
  else p

/-- The health window of lane `l` ends, and the next begins (R83). -/
def Part.endWindow (p : Part) (l : Lane) (deadline : Tick) : Part :=
  let r := p.lane l
  let q := p.setLane l { r with windowEnd := some (deadline + 1000), badCount := 0 }
  if r.state = .degraded ∧ r.badCount ≤ 1 then q.laneTo l .up else q

/-- Lane `l` last took a valid frame a hold-down ago or more (R84). -/
def Part.quietFor (p : Part) (l : Lane) : Bool :=
  match (p.lane l).lastValid with
  | some t => decide (p.holdDown ≤ p.since t)
  | none => false

/-- Lane `l` has taken a valid frame within the hold-down (R84). -/
def Part.validWithin (p : Part) (l : Lane) : Bool :=
  match (p.lane l).lastValid with
  | some t => decide (p.since t < p.holdDown)
  | none => false

/-- The quiet time of lane `l` has run out and was not yet taken (R84). -/
def Part.quietDue (p : Part) (l : Lane) : Bool := p.laneUsable l && !(p.lane l).quietElapsed && p.quietFor l

/-- Quiet expiry (R84). -/
def Part.quietExpiry (p : Part) (l : Lane) : Part :=
  if p.validWithin l.other then p.laneTo l .down else p.setLane l { p.lane l with quietElapsed := true }

/-- Late evidence: lane `l`, quiet for a hold-down, goes DOWN as the other lane takes a valid frame (R84). -/
def Part.lateEvidence (p : Part) (l : Lane) : Part :=
  if p.laneUsable l && p.quietFor l then p.laneTo l .down else p

/-- A lane takes a valid frame: its tick (R93), TRAINING to UP (R82), and the late evidence against the other lane (R84). -/
def Part.laneHears (p : Part) (l : Lane) : Part :=
  let q := p.setLane l { p.lane l with lastValid := some p.clock, quietElapsed := false }
  (if (q.lane l).state = .training then q.laneTo l .up else q).lateEvidence l.other

/-- A line fault of lane `l` (R81). -/
def Part.lineFault (p : Part) (l : Lane) (report : LineReport) : Part :=
  let q := p.setLane l { p.lane l with monitor := report }
  if (p.lane l).state.listening then q.laneTo l .down else q

/-- The monitor of lane `l` reports no fault again (R85). -/
def Part.lineClear (p : Part) (l : Lane) : Part :=
  let q := p.setLane l { p.lane l with monitor := .noFault }
  if (p.lane l).state = .down ∧ (p.lane l).retrain = none then q.laneTo l .training else q

/-- The retrain timer of lane `l` runs out while its monitor reports `report` (R85). -/
def Part.retrain (p : Part) (l : Lane) (report : LineReport) : Part :=
  let q := p.setLane l { p.lane l with retrain := none, monitor := report }
  if report = .noFault then q.laneTo l .training else q

/-- The 10 ms mark of lane `l` (R82). -/
def Part.alignMark (p : Part) (l : Lane) (mark : Tick) : Part :=
  p.setLane l { p.lane l with alignMark := some (mark + 10), alignDue := true }

/-! ### Building a PULSE (R106, R107) -/

/-- Station `y` counts as heard on lane `l` (R107). -/
def Part.heardOn (p : Part) (y : Station) (l : Lane) : Bool :=
  p.peerLive y && match (p.peer y).heardOn.get l with
    | some t => decide (p.since t < p.holdDown)
    | none => false

/-- The bits of the heard-lanes byte that report station `y` (R183). -/
def Part.heardBits (p : Part) (y : Station) : BitVec 8 :=
  bitByte (p.heardOn y .a) (2 * y.toNat) ||| bitByte (p.heardOn y .b) (2 * y.toNat + 1)

/-- The heard-lanes byte of a PULSE: a member reports the other member, a witness both members (R106). -/
def Part.heardByte (p : Part) : BitVec 8 :=
  if p.isWitness then p.heardBits .s0 ||| p.heardBits .s1 else p.heardBits p.otherMember

/-- The payload of a PULSE (R106, R144, R183); a witness announces no role and no merit, and its witness flag is set. A set
witness flag is sent as 1, by either: R183 lets any value but 0 stand for it and names none to send (DESIGN CHOICE, log 44). -/
def Part.pulsePayload (p : Part) : List Byte :=
  if p.isWitness then [0, 0, 0, 0, p.heardByte, 1]
  else [roleCode (p.role .g0), roleCode (p.role .g1), p.ppu.merits.g0, p.ppu.merits.g1, p.heardByte,
        flagByte p.witnessConfigured]

/-! ### The transmitter (R97 to R99) -/

/-- The part with a frame in hand. -/
def Part.hold (p : Part) (frame : TxFrame) (bytes : List Byte) (lane : Lane) (secondCopy : Bool) : Part :=
  { p with mbi := { p.mbi with
      inHand := some { frame := frame, bytes := bytes, lane := lane, secondCopy := secondCopy, completedAny := false,
                       collisions := 0, phase := .waitIdle, stale := false } } }

/-- Takes a role frame in hand: its first copy goes on lane A, or on lane B where lane A takes none at that moment, and the copy
on the other lane is decided as the first one ends (R96; log 21). -/
def Part.holdRole (p : Part) (frame : TxFrame) (bytes : List Byte) : Part :=
  p.hold frame bytes (if p.laneUsable .a then .a else .b) true

/-- Takes the oldest waiting ANSWER. -/
def Part.takeAnswerFrame (p : Part) : Option Part :=
  match p.mbi.answers with
  | a :: rest =>
    if p.someLaneUsable then
      some (({ p with mbi := { p.mbi with answers := rest } }).holdRole (.answer a)
        (p.ownFrame .answer a.number (answerPayload a)))
    else none
  | [] => none

/-- Takes the oldest waiting CLAIM. -/
def Part.takeClaimFrame (p : Part) : Option Part :=
  match p.mbi.claims with
  | c :: rest =>
    if p.someLaneUsable then
      some (({ p with mbi := { p.mbi with claims := rest } }).holdRole (.claim c)
        (p.ownFrame .claim c.number (claimPayload c)))
    else none
  | [] => none

/-- Takes the oldest waiting YIELD. -/
def Part.takeYieldFrame (p : Part) : Option Part :=
  match p.mbi.yields with
  | g :: rest =>
    if p.someLaneUsable then
      some (({ p with mbi := { p.mbi with yields := rest } }).holdRole (.yield g) (p.ownFrame .yield 0 [groupByte g]))
    else none
  | [] => none

/-- Takes a RECEIPT frame, built now. -/
def Part.takeReceiptFrame (p : Part) : Option Part :=
  match p.mbi.workingLane, p.buildReceipt with
  | some l, some (bytes, q) => some (q.hold .receipt bytes l false)
  | _, _ => none

/-- Takes the due PULSE, built now (R106). -/
def Part.takePulseFrame (p : Part) : Option Part :=
  if p.mbi.pulseDue && p.someLaneUsable then
    some (({ p with mbi := { p.mbi with pulseDue := false } }).holdRole (.pulse p.ppu.merits)
      (p.ownFrame .pulse 0 p.pulsePayload))
  else none

/-- Takes a DROP or DELTA frame, built now. -/
def Part.takeSessionFrame (p : Part) : Option Part :=
  match p.mbi.workingLane, p.buildSession with
  | some l, some (frame, bytes, q) => some (q.hold frame bytes l false)
  | _, _ => none

/-- Takes the due ALIGN of a lane in TRAINING. -/
def Part.takeAlignFrame (p : Part) (l : Lane) : Option Part :=
  let r := p.lane l
  if r.alignDue && decide (r.state = .training) then
    some ((p.setLane l { r with alignDue := false }).hold (.align l) (p.ownFrame .align 0 alignPattern) l false)
  else none

/-- The first ready frame in the transmitter's order (R97). -/
def Part.takeFrame (p : Part) : Option Part :=
  p.takeAnswerFrame <|> p.takeClaimFrame <|> p.takeYieldFrame <|> p.takeReceiptFrame <|> p.takePulseFrame
    <|> p.takeSessionFrame <|> p.takeAlignFrame .a <|> p.takeAlignFrame .b

/-- With nothing in hand, the transmitter takes the first ready frame (R97). -/
def Part.transmitterTake (p : Part) : Part :=
  match p.mbi.inHand with
  | none => p.takeFrame.getD p
  | some _ => p

/-- One step of the backoff register (R99). -/
def lfsrStep (x : BitVec 16) : BitVec 16 :=
  (x <<< 1) ||| (BitVec.ofBool (x.getLsbD 15 ^^ x.getLsbD 13 ^^ x.getLsbD 12 ^^ x.getLsbD 10)).setWidth 16

/-- The seed of the backoff register; a seed of 0 is loaded as 1 (R99). -/
def lfsrSeed (incarnation : BitVec 16) (station : Station) : BitVec 16 :=
  let seed := incarnation + BitVec.ofNat 16 (4369 * (station.toNat + 1))
  if seed = 0 then 1 else seed

/-- The draw after collision `n`: the register's value after its step, modulo 2^k, where k is the smaller of `n` and 4 (R99). -/
def backoffDraw (x : BitVec 16) (n : Nat) : Nat := x.toNat % 2 ^ min n 4

/-- A collision of the frame being sent; the eighth abandons the copy (R99, R100). -/
def Part.collide (p : Part) (h : InHand) : Part :=
  if 8 ≤ h.collisions + 1 then p.endCopy h false
  else
    let x := lfsrStep p.mbi.lfsr
    { p with mbi := { p.mbi with
        lfsr := x
        inHand := some { h with collisions := h.collisions + 1, phase := .backoff (backoffDraw x (h.collisions + 1)) } } }

/-- The frame in hand with its phase replaced. -/
def Part.setPhase (p : Part) (h : InHand) (phase : TxPhase) : Part :=
  { p with mbi := { p.mbi with inHand := some { h with phase := phase } } }

/-- The idle time is met, and the frame or copy that waits for it starts (R98). -/
def Part.startFrame (p : Part) : Part :=
  match p.mbi.inHand with
  | some h => if h.phase = .waitIdle then p.setPhase h .sending else p
  | none => p

/-- The frame being sent meets a collision (R99). -/
def Part.collision (p : Part) : Part :=
  match p.mbi.inHand with
  | some h => if h.phase = .sending then p.collide h else p
  | none => p

/-- The backoff has run, and the station waits for idle again (R99). -/
def Part.backoffOver (p : Part) : Part :=
  match p.mbi.inHand with
  | some h =>
    match h.phase with
    | .backoff _ => p.setPhase h .waitIdle
    | .waitIdle | .sending => p
  | none => p

/-- The frame being sent, or its copy, reaches its last check byte (R98). -/
def Part.frameDone (p : Part) : Part :=
  match p.mbi.inHand with
  | some h => if h.phase = .sending then p.endCopy h true else p
  | none => p

/-- This station is sending on lane `l` (R79). -/
def Part.sendingOn (p : Part) (l : Lane) : Bool :=
  match p.mbi.inHand with
  | some h => decide (h.lane = l) && decide (h.phase = .sending)
  | none => false

end Sys2Proof.Machine
end

