-- ==== Sys2Proof/Machine/Peers.lean ====
section
/-! DEFINITION. The Pulse and Peer Unit: the pulse epoch and merits (R102 to R105), the header step of a frame with first contact,
return and rebirth (R110, R112), loss (R111), and the content of a PULSE (R113). -/

namespace Sys2Proof.Machine

/-! ### The pulse epoch -/

/-- Neither lane is UP (R105). -/
def Part.noLaneUp (p : Part) : Bool :=
  decide ((p.lane .a).state ≠ .up) && decide ((p.lane .b).state ≠ .up)

/-- The merit of a base priority at a health (R105). -/
def meritOf (base health : BitVec 8) (penalty : Bool) : BitVec 8 :=
  BitVec.ofNat 8 (base.toNat * health.toNat / 100 - if penalty then 32 else 0)

/-- The merits of both groups from the current health and the lane states (R105). -/
def Part.newMerits (p : Part) (health : BitVec 8) : PerGroup (BitVec 8) :=
  match p.profile with
  | some c => { g0 := meritOf c.base.g0 health p.noLaneUp, g1 := meritOf c.base.g1 health p.noLaneUp }
  | none => .both 0

/-- The Role Controller hears of a latched health: ENGINE_UNFIT applies or clears (R103, R137). -/
def Part.judgeHealth (p : Part) : Part :=
  if p.ppu.currentHealth = 0 then p.applyFence { p.rcu.fence with engineUnfit := true }
  else p.clearFence { p.rcu.fence with engineUnfit := false }

/-- The epoch that falls at `deadline` (R102, R103); a witness only makes a PULSE due. -/
def Part.epoch (p : Part) (deadline : Tick) : Part :=
  let due : Part := { p with mbi := { p.mbi with pulseDue := true }
                             ppu := { p.ppu with epoch := some (deadline + BitVec.ofNat 32 p.pulseInterval) } }
  if p.isMember then
    let q : Part := { due with ppu := { due.ppu with currentHealth := p.ppu.pendingHealth
                                                     merits := p.newMerits p.ppu.pendingHealth } }
    (q.judgeHealth).evaluateAll
  else due

/-! ### The header step (R110, R112) -/

/-- A frame of another incarnation than the one recorded (R112). -/
def PeerRec.rebornBy (r : PeerRec) (incarnation : BitVec 16) : Bool :=
  decide (r.state ≠ .absent) && decide (r.incarnation ≠ some incarnation)

/-- A Peer Record after a valid frame on lane `l` at clock `now` (R110, R112). -/
def PeerRec.heard (r : PeerRec) (l : Lane) (incarnation : BitVec 16) (now : Tick) : PeerRec :=
  let old := if r.rebornBy incarnation then { PeerRec.reset with heardOn := r.heardOn } else r
  { old with state := .live, incarnation := some incarnation, lastHeard := some now, heardOn := r.heardOn.set l (some now) }

/-- The Role Controller's marks of a rebirth of the other member: its standing is absent and every rebirth mark is set
(R112, R116, R118), and as its claim numbers start afresh, none counts as answered (R121, R131; log 32). -/
def Part.markRebirth (p : Part) : Part :=
  let mark (q : Part) (g : Group) : Part :=
    q.setGroup g { q.group g with peerClaiming := false, rebirthMark := true, contested := none }
  mark (mark p .g0) .g1

/-- What first contact with the other member, its return or its rebirth does to replication (R56 to R58, R74). -/
def Part.replicationHears (p : Part) (wasLive reborn first : Bool) : Part :=
  if first then p.startRefresh
  else if reborn then ((if wasLive then p.returnAll else p).emptyReceipts).startRefresh
  else p

/-- What a member's Role Controller does as the other member becomes LIVE or is reborn (R118, R124, R137). -/
def Part.rolesHearOther (p : Part) (wasLive : Bool) : Part :=
  let q := (p.failVacantClaim .g0).failVacantClaim .g1
  (if wasLive then q else q.clearNoQuorum).evaluateAll

/-- What a member's Role Controller does as the witness becomes LIVE or is reborn (R118, R137). -/
def Part.rolesHearWitness (p : Part) (wasLive : Bool) : Part := (if wasLive then p else p.clearNoQuorum).evaluateAll

/-- The consequences of a change of station `y`'s record (R110, R112, R115): the notice, the copy expectation and the working
lane, replication, and the roles. -/
def Part.recordChanged (p : Part) (y : Station) (wasLive reborn first : Bool) : Part :=
  let q := p.peerNotice y
  let q := if reborn then { q with mbi := { q.mbi with expect := q.mbi.expect.set y none } } else q
  let q := if wasLive then q else q.chooseLane
  if q.isMember then
    if y = q.otherMember then
      ((if reborn then q.markRebirth else q).replicationHears wasLive reborn first).rolesHearOther wasLive
    else q.rolesHearWitness wasLive
  else if reborn then q.forgetAnswers y else q

/-- The header step for a frame of another station `y` (R110). -/
def Part.heard (p : Part) (y : Station) (l : Lane) (incarnation : BitVec 16) : Part :=
  let r := p.peer y
  let q := p.setPeer y (r.heard l incarnation p.clock)
  let wasLive := decide (r.state = .live)
  let reborn := r.rebornBy incarnation
  if wasLive && !reborn then q else q.recordChanged y wasLive reborn (decide (r.state = .absent))

/-! ### Loss (R111) -/

/-- The liveness timer of station `y` has run out (R111). -/
def Part.silentFor (p : Part) (y : Station) : Bool :=
  p.peerLive y && match (p.peer y).lastHeard with
    | some t => decide (p.holdDown ≤ p.since t)
    | none => false

/-- Station `y`'s record goes from LIVE to LOST, with its consequences (R55, R94, R95, R111, R138). -/
def Part.lose (p : Part) (y : Station) : Part :=
  let q := (p.setPeer y { p.peer y with state := .lost }).peerNotice y
  let q := ({ q with mbi := { q.mbi with expect := q.mbi.expect.set y none } }).chooseLane
  if q.isMember then
    if y = q.otherMember then (q.returnAll).otherLost else (q.testQuorum).evaluateAll
  else q

/-! ### The content of a PULSE (R113) -/

/-- Writes a PULSE's content into station `y`'s record (R113). -/
def Part.writePulse (p : Part) (y : Station) (c : PulseContent) : Part :=
  p.setPeer y { p.peer y with roles := c.roles, merits := c.merits, heardLanes := some c.heardLanes,
                              witnessConfigured := some c.witnessConfigured }

/-- A PULSE of station `y` handed up in full: the write, then its readers (R113). -/
def Part.takePulse (p : Part) (y : Station) (c : PulseContent) : Part :=
  let q := p.writePulse y c
  if q.isMember then
    if y = q.otherMember then (q.chooseLane).pulseOfOther c.roles c.merits else q.evaluateAll
  else q

end Sys2Proof.Machine
end

