-- ==== Sys2Proof/Machine/Reception.lean ====
section
/-! DEFINITION. What a station does with a reception on a lane: whether it takes it (R79, R80, R89), the header step and the copy
test (R93, R94), the duplicate-station latch (R114), and the block its content goes to (R93, R145). -/

namespace Sys2Proof.Machine

/-- The kind of a frame's content. -/
def Content.kind : Content → FrameKind
  | .align => .align
  | .pulse _ => .pulse
  | .delta _ => .delta
  | .drop _ => .drop
  | .receipt _ => .receipt
  | .claim _ => .claim
  | .answer _ => .answer
  | .yield _ => .yield

/-- The kinds that are sent on every usable lane, and so arrive with copies (R94). -/
def FrameKind.copied : FrameKind → Bool
  | .pulse | .claim | .answer | .yield => true
  | .align | .delta | .drop | .receipt => false

/-- The lane takes what it receives: its state takes frames (R80), and the reception did not begin during this station's own
transmission on the lane (R79). -/
def Part.takesFrom (p : Part) (l : Lane) (rx : Reception) : Bool :=
  (p.lane l).state.listening && !rx.duringOwn && !p.sendingOn l

/-- A member hands a frame's content to the block that takes its kind (R93). -/
def Part.memberTakes (p : Part) (x : Station) (c : Content) : Part :=
  match c with
  | .align => p
  | .pulse pc => p.takePulse x pc
  | .delta ws => p.takeDelta ws
  | .drop pairs => p.takeDrop pairs
  | .receipt pairs => p.takePairs pairs
  | .claim f => p.takeClaim f
  | .answer a => p.takeAnswer x a
  | .yield g => p.takeYield g

/-- A witness hands a frame's content to the block that takes its kind (R93, R145). -/
def Part.witnessTakes (p : Part) (x : Station) (c : Content) : Part :=
  match c with
  | .pulse pc => p.takePulse x pc
  | .claim f => p.witnessClaim x f
  | .align | .delta _ | .drop _ | .receipt _ | .answer _ | .yield _ => p

/-- The content step (R93). -/
def Part.handUp (p : Part) (x : Station) (c : Content) : Part :=
  if p.isWitness then p.witnessTakes x c else p.memberTakes x c

/-- The copy expectation for `x` replaced (R94). -/
def Part.setExpect (p : Part) (x : Station) (v : Option (Lane × List Byte)) : Part :=
  { p with mbi := { p.mbi with expect := p.mbi.expect.set x v } }

/-- The frame is the copy expected of `x` (R94). -/
def Part.isCopy (p : Part) (x : Station) (l : Lane) (bytes : List Byte) : Bool :=
  decide (p.mbi.expect.get x = some (l, bytes))

/-- A valid frame of another station: the expectation is emptied, the header goes up, and the content follows unless the frame is
a copy (R93, R94). On a witness an ANSWER or a YIELD goes nowhere beyond the header; it counts there as handed up in full and sets
an expectation as any other frame does (DEDUCED, log 40). -/
def Part.takeFromOther (p : Part) (l : Lane) (bytes : List Byte) (f : Frame) : Part :=
  let q := (p.setExpect f.sender none).heard f.sender l f.incarnation
  if p.isCopy f.sender l bytes then q
  else
    let q := if f.content.kind.copied then q.setExpect f.sender (some (l.other, bytes)) else q
    q.handUp f.sender f.content

/-- A valid frame taken on lane `l` (R93); one of this station's own number sets the latch and ends there (R114). -/
def Part.takeValid (p : Part) (l : Lane) (bytes : List Byte) (f : Frame) : Part :=
  let q := p.laneHears l
  if f.sender = p.self then q.setLatch else q.takeFromOther l bytes f

/-- A reception on lane `l` that is a valid frame of kind `kind`; anything else is another command's event (log 2). -/
def Part.receive (p : Part) (kind : FrameKind) (l : Lane) (rx : Reception) : Part :=
  if p.takesFrom l rx then
    match judge rx with
    | .valid f => if f.content.kind = kind then p.takeValid l rx.bytes f else p
    | .fragment | .bad => p
  else p

/-- A reception on lane `l` that is a bad frame (R92). -/
def Part.receiveBad (p : Part) (l : Lane) (rx : Reception) : Part :=
  if p.takesFrom l rx && decide (judge rx = .bad) then p.countBad l else p

end Sys2Proof.Machine
end

