-- ==== Sys2Proof/Machine/Records.lean ====
section
/-! DEFINITION. The ingress stream: words and records (R171, R172), refusals (R21, R173), what each kind of record does (R23 to R29,
R35, R133, R164, R165, R174, R181, and R152 on a witness), and the egress FIFO's freed places (R179). -/

namespace Sys2Proof.Machine

/-! ### Words (R171) -/

/-- `list` with `w` appended to its last record. -/
def appendToLast (list : List (List Word32)) (w : Word32) : List (List Word32) :=
  match list with
  | [] => [[w]]
  | [r] => [r ++ [w]]
  | r :: rest => r :: appendToLast rest w

/-- One word passes if the part is ready (R171). -/
def Part.pushWord (p : Part) (w : Word32) : Part :=
  if p.ingressReady then
    { p with evp := { p.evp with ingress :=
        if p.recordInProgress then appendToLast p.evp.ingress w else p.evp.ingress ++ [[w]] } }
  else p

/-- Words that the engine holds valid, in order, pass while the part is ready (R171). -/
def Part.pushWords (p : Part) (ws : List Word32) : Part := ws.foldl Part.pushWord p

/-! ### The record in hand (R172, R173) -/

/-- The record in hand, if it is complete (R172). -/
def Part.inHandRecord (p : Part) : Option (List Word32) :=
  match p.evp.ingress with
  | ws :: _ => if recordComplete ws then some ws else none
  | [] => none

/-- The buffer a RELEASE names; none above 7 (R185). -/
def releaseBuffer (ws : List Word32) : Option (Fin 8) :=
  if h : (recordParameter ws).toNat < 8 then some ⟨(recordParameter ws).toNat, h⟩ else none

/-- The part is a member and buffer `i` is POSTED with its emitted flag set: a RELEASE of it passes every check (R164). -/
def Part.releasable (p : Part) (i : Fin 8) : Bool :=
  p.isMember && match p.buffer i with
    | .posted _ _ _ emitted _ => emitted
    | _ => false

/-- The slots a RELEASE of a buffer revokes: those noted as taken, none of a void buffer (R165, R166). -/
def Buffer.revokes : Buffer → List Slot
  | .posted _ recs _ _ void => if void then [] else (recs.filter (·.taken)).map (·.record.slot)
  | _ => []

/-- The Revoke List has room for the slots (R165, R172). -/
def Part.revokeRoomFor (p : Part) (slots : List Slot) : Bool :=
  decide (p.rpu.revoke.length + (slots.filter fun s => decide (s ∉ p.rpu.revoke)).length ≤ 1024)

/-- A RELEASE waits for no revoke (R172); one of a wrong length is refused and owes none (R173). -/
def Part.releaseRoom (p : Part) (ws : List Word32) : Bool :=
  decide (ws.length ≠ 1) || match releaseBuffer ws with
  | some i => !p.releasable i || p.revokeRoomFor (p.buffer i).revokes
  | none => true

/-- The record in hand waits for nothing but egress room (R172). -/
def Part.recordWaitsNot (p : Part) (ws : List Word32) : Bool :=
  decide (recordKind ws ≠ some .release) || p.releaseRoom ws

/-- The slot a REFUSED record names: the parameter of an OPEN, UPDATE or CLOSE, and 0 otherwise (R21, R133, R152, R164, R173). No rule
gives the field for a second PROFILE, which names no slot: 0 there is the model's choice (DESIGN CHOICE, log 45). -/
def refusedSlot (ws : List Word32) : Slot :=
  match recordKind ws with
  | some .open | some .update | some .close => recordParameter ws
  | _ => 0

/-- The refusal of a record (R21, R173). -/
def refusal (ws : List Word32) (cause : RefusalCause) : Option EgressRecord :=
  some (.refused (recordKindByte ws) (refusedSlot ws) cause)

/-! ### Sessions (R23 to R29) -/

/-- The entry that an accepted OPEN makes (R24, R25). -/
def Part.openEntry (p : Part) (x : Session) : Entry :=
  { state := .dirty, group := x.group, key := x.key, nat := x.nat, tcp := x.tcp.map clampTcp,
    lifetime := clampLifetime x.lifetime, refTick := p.clock, ageOffset := 0, version := 1, peerMayHold := false,
    attempts := 0, installed := true, noted := false }

/-- The check that refuses an OPEN, if one does (R23, R152). -/
def Part.openCheck (p : Part) (slot : Slot) (g : Group) : Option RefusalCause :=
  if p.profile = none then some .notReady
  else if p.isWitness then some .notActive
  else if regionOf slot ≠ p.self then some .badSlot
  else if (p.entry slot).isSome then some .slotBusy
  else if p.role g ≠ .active then some .notActive
  else none

/-- An OPEN is taken (R22 to R25). -/
def Part.takeOpen (p : Part) (ws : List Word32) : Part × Option EgressRecord :=
  match readOpen ws with
  | none => (p, refusal ws .malformed)
  | some x =>
    match p.openCheck (recordParameter ws) x.group with
    | some cause => (p, refusal ws cause)
    | none => (p.putEntry (recordParameter ws) (some (p.openEntry x)), none)

/-- The owned live entry of a slot. -/
def Part.liveEntry (p : Part) (slot : Slot) : Option Entry := (p.entry slot).filter fun e => e.state.live

/-- The entry that an UPDATE or CLOSE of a slot acts on, or the cause that refuses it (R26, R28, R152). -/
def Part.sessionCheck (p : Part) (slot : Slot) : Except RefusalCause Entry :=
  if p.profile = none then .error .notReady
  else if p.isWitness then .error .notActive
  else match p.liveEntry slot with
    | none => .error .noSession
    | some e => if (p.role e.group).serving then .ok e else .error .notActive

/-- An UPDATE's parts suit an entry (R26). -/
def updateSuits (u : UpdateRecord) (e : Entry) : Bool :=
  (!u.tcp.isSome || decide (e.key.protocol.toNat = 6))
    && match u.nat with
      | .replace n => natSuits e.key n
      | .keep | .remove => true

/-- The state and the version of an entry whose content has changed (R27). -/
def Entry.changed (e : Entry) : Entry :=
  match e.state with
  | .sent => { e with state := .changed, version := e.version + 1 }
  | .clean => { e with state := .dirty, version := e.version + 1 }
  | _ => e

/-- The NAT part after an UPDATE (R27). -/
def NatItem.apply (item : NatItem) (old : Option NatPart) : Option NatPart :=
  match item with
  | .keep => old
  | .replace n => some n
  | .remove => none

/-- The entry after an UPDATE (R27). -/
def Part.updateEntry (p : Part) (u : UpdateRecord) (e : Entry) : Entry :=
  Entry.changed
    { e with lifetime := (u.lifetime.map clampLifetime).getD e.lifetime
             nat := u.nat.apply e.nat
             tcp := match u.tcp with
               | some t => some (clampTcp t)
               | none => e.tcp
             refTick := p.clock
             ageOffset := 0 }

/-- An UPDATE is taken (R26, R27). -/
def Part.takeUpdate (p : Part) (ws : List Word32) : Part × Option EgressRecord :=
  match readUpdate ws with
  | none => (p, refusal ws .malformed)
  | some u =>
    match p.sessionCheck u.slot with
    | .error cause => (p, refusal ws cause)
    | .ok e => if updateSuits u e then (p.putEntry u.slot (some (p.updateEntry u e)), none) else (p, refusal ws .malformed)

/-- A CLOSE is taken (R28, R29), with the flush test it may meet (R134). -/
def Part.takeClose (p : Part) (ws : List Word32) : Part × Option EgressRecord :=
  if ws.length ≠ 1 then (p, refusal ws .malformed)
  else match p.sessionCheck (recordParameter ws) with
    | .error cause => (p, refusal ws cause)
    | .ok e => ((p.closeEntry (recordParameter ws) e).flushTests, none)

/-! ### The other kinds -/

/-- An ALIVE is taken (R35, R36, R137). -/
def Part.takeAlive (p : Part) (ws : List Word32) : Part × Option EgressRecord :=
  if ws.length ≠ 1 then (p, refusal ws .malformed)
  else match p.profile with
    | none => (p, refusal ws .notReady)
    | some c =>
      if p.isWitness then (p, none)
      else
        let health := (recordParameter ws).setWidth 8
        let q : Part := { p with ppu := { p.ppu with pendingHealth := if 100 < health.toNat then 100 else health }
                                 rcu := { p.rcu with silence := some (p.after c.silenceLimit) } }
        (q.clearFence { q.rcu.fence with engineSilent := false }, none)

/-- A RELEASE sets the installed mark of a slot's entry where R165 says so. -/
def Part.markInstalled (p : Part) (g : Group) (slot : Slot) : Part :=
  match p.entry slot with
  | some e =>
    if e.state.live && decide (e.group = g) && decide (p.role g = .active) then
      p.setTable slot (some { e with installed := true })
    else p
  | none => p

/-- What a RELEASE does with one record of a buffer (R165). -/
def Part.releaseRecord (p : Part) (g : Group) (r : BufferRec) : Part :=
  if r.taken then p.revokeAppend r.record.slot else p.markInstalled g r.record.slot

/-- An accepted RELEASE of buffer `i` (R164, R165). -/
def Part.release (p : Part) (i : Fin 8) : Part :=
  match p.buffer i with
  | .posted g recs _ _ void =>
    let q := if void then p else recs.foldl (fun q r => q.releaseRecord g r) p
    (q.setBuffer i .free).serveWaiting
  | _ => p

/-- A RELEASE is taken (R164). -/
def Part.takeRelease (p : Part) (ws : List Word32) : Part × Option EgressRecord :=
  if ws.length ≠ 1 then (p, refusal ws .malformed)
  else if p.profile = none then (p, refusal ws .notReady)
  else if p.isWitness then (p, refusal ws .notActive)
  else match releaseBuffer ws with
    | some i => if p.releasable i then (p.release i, none) else (p, refusal ws .badBuffer)
    | none => (p, refusal ws .badBuffer)

/-- A HANDOVER is taken (R133). -/
def Part.takeHandover (p : Part) (ws : List Word32) : Part × Option EgressRecord :=
  if ws.length ≠ 1 then (p, refusal ws .malformed)
  else match groupOfNat (recordParameter ws).toNat with
    | none => (p, refusal ws .malformed)
    | some g =>
      if p.profile = none then (p, refusal ws .notReady)
      else if p.role g ≠ .active then (p, refusal ws .notActive)
      else if p.otherLive && decide (p.standing g = some .standby) then (p.enterYielding g .handover .yield, none)
      else (p, refusal ws .noPeer)

/-- A STATUS is taken and answered (R181). -/
def Part.takeStatus (p : Part) (ws : List Word32) : Part × Option EgressRecord :=
  if ws.length ≠ 1 then (p, refusal ws .malformed) else (p, some (.status p.statusReport))

/-! ### The PROFILE (R174) -/

/-- An enabled lane leaves OFF for TRAINING, or for DOWN where its line monitor already reports a fault (R80, R81). -/
def Part.enableLane (p : Part) (c : Profile) (l : Lane) : Part :=
  if c.laneEnabled.get l then p.laneTo l (if (p.lane l).monitor = .noFault then .training else .down) else p

/-- What an accepted PROFILE starts on a member (R36, R116). -/
def Part.startMember (p : Part) (c : Profile) : Part :=
  let q : Part := { p with rcu := { p.rcu with silence := some (p.after c.silenceLimit) } }
  ((q.startListen .g0 .profile).startListen .g1 .profile).evaluateAll

/-- An accepted PROFILE (R174). -/
def Part.configure (p : Part) (c : Profile) : Part :=
  let q : Part := { p with profile := some c
                           ppu := { p.ppu with epoch := some (p.after c.pulseInterval) }
                           mbi := { p.mbi with lfsr := lfsrSeed c.incarnation c.station } }
  let q := (q.enableLane c .a).enableLane c .b
  if c.station = .s2 then q else q.startMember c

/-- A PROFILE is taken (R174). -/
def Part.takeProfile (p : Part) (ws : List Word32) : Part × Option EgressRecord :=
  if ws.length ≠ 5 then (p, refusal ws .malformed)
  else if p.profile.isSome then (p, refusal ws .profileLocked)
  else (p.configure (readProfile ws), none)

/-! ### Taking the record in hand (R172) -/

/-- The record in hand is handled by its kind; the answer, if there is one, is still to be placed (R172). -/
def Part.handle (p : Part) (ws : List Word32) : Part × Option EgressRecord :=
  match recordKind ws with
  | some .profile => p.takeProfile ws
  | some .open => p.takeOpen ws
  | some .update => p.takeUpdate ws
  | some .close => p.takeClose ws
  | some .alive => p.takeAlive ws
  | some .release => p.takeRelease ws
  | some .handover => p.takeHandover ws
  | some .status => p.takeStatus ws
  | none => (p, refusal ws .malformed)

/-- The ingress FIFO without the record in hand. -/
def Part.popIngress (p : Part) : Part := { p with evp := { p.evp with ingress := p.evp.ingress.drop 1 } }

/-- Places an answer at the tail of the egress FIFO, if there is one. -/
def Part.answerWith (x : Part × Option EgressRecord) : Part :=
  match x.2 with
  | some r => x.1.place r
  | none => x.1

/-- The record in hand can be taken, given egress room, and is of kind `kind` (none: an unknown kind). -/
def Part.takeable (p : Part) (kind : Option IngressKind) : Option (List Word32) :=
  match p.inHandRecord with
  | some ws => if recordKind ws = kind ∧ p.recordWaitsNot ws = true then some ws else none
  | none => none

/-- The record in hand, of kind `kind`, is taken by `f`, if it can be taken (R172). -/
def Part.takeRecord (p : Part) (kind : Option IngressKind) (f : Part → List Word32 → Part × Option EgressRecord) : Part :=
  match p.takeable kind with
  | some ws => if p.generalOpen then Part.answerWith (f p.popIngress ws) else p
  | none => p

/-! ### The freed place (R179) -/

/-- Places `r` in the egress FIFO at the place with index `n`, ahead of the notices placed since. -/
def Part.placeAt (p : Part) (n : Nat) (r : EgressRecord) : Part :=
  { p with evp := { p.evp with egress := p.evp.egress.take n ++ r :: p.evp.egress.drop n } }

/-- Gives the place with index `n` to the Revoke List or, failing that, to the oldest POSTED buffer, if the FIFO still has a place
(R76, R163, R179; log 19). -/
def Part.fillPlace (p : Part) (n : Nat) : Part :=
  if p.noticeOpen then
    match p.takeRevokedOrBatch with
    | some (r, q) => q.placeAt n r
    | none => p
  else p

/-- The freed place, open to general records, goes to the record in hand, then to REVOKED and BATCH (R179). A record that is taken
without an answer passes the place on in the same act. -/
def Part.giveGeneral (p : Part) : Part :=
  let n := p.evp.egress.length
  match p.inHandRecord with
  | some ws =>
    if p.recordWaitsNot ws then
      let x := p.popIngress.handle ws
      match x.2 with
      | some r => x.1.placeAt n r
      | none => x.1.fillPlace n
    else p.fillPlace n
  | none => p.fillPlace n

/-- The producers of a freed place other than the marks: only one at which the FIFO has come down to 55 records is open to the
general records that waited (R178, R179; log 19). -/
def Part.giveFreed (p : Part) (before : Nat) : Part := if before = 56 then p.giveGeneral else p

/-- The engine takes the record at the head of the egress FIFO, and the freed place is given away (R179, R180). -/
def Part.egressTaken (p : Part) : Part :=
  match p.evp.egress with
  | [] => p
  | _ :: rest =>
    let q : Part := { p with evp := { p.evp with egress := rest } }
    q.emitMark.getD (q.giveFreed p.evp.egress.length)

/-- A REVOKED record is placed (R76). -/
def Part.placeRevoked (p : Part) : Part :=
  if p.generalOpen then
    match p.takeRevoked with
    | some (r, q) => q.place r
    | none => p
  else p

/-- A BATCH record is placed; REVOKED stands ahead of it (R163, R179). -/
def Part.placeBatch (p : Part) : Part :=
  if p.generalOpen && p.rpu.revoke.isEmpty then
    match p.takeBatch with
    | some (r, q) => q.place r
    | none => p
  else p

end Sys2Proof.Machine
end

