-- ==== Sys2Proof/Machine/Timers.lean ====
section
/-! DEFINITION. The events that the session clock brings (R177), each with the condition under which it falls, and the steps of
the walks. An event whose condition does not hold leaves the part as it is (log 2). -/

namespace Sys2Proof.Machine

/-- `f` when the event's condition holds, and no effect otherwise. -/
def Part.onlyIf (p : Part) (condition : Bool) (f : Part → Part) : Part := if condition then f p else p

/-! ### Replication timers -/

/-- The oldest In-Flight record whose receipt timer has run out (R51). -/
def Part.timedOut (p : Part) : Option InFlight := p.rpu.inFlight.find? fun r => p.receiptRanOut r

/-- A receipt timer runs out (R52, R53). -/
def Part.receiptTimer (p : Part) : Part :=
  match p.timedOut with
  | some r => p.timeOut r.slot
  | none => p

/-- The pause timer runs out (R54). -/
def Part.endPause (p : Part) : Part := { p with rpu := { p.rpu with pauseFlag := false, pauseTimer := none } }

/-- Some pair has waited 2 ms and is not yet noted so (R72). -/
def Part.receiptDelayDue (p : Part) : Bool := p.rpu.receipts.any fun r => !r.waited && p.receiptReached r

/-- The pairs that have waited 2 ms are noted, and a transmitter with nothing in hand takes its next frame (R72, R97). -/
def Part.receiptDelay (p : Part) : Part := p.noteWaited.transmitterTake

/-! ### Role timers -/

/-- The engine silence timer runs out (R36). -/
def Part.engineSilence (p : Part) : Part :=
  let q : Part := { p with rcu := { p.rcu with silence := none } }
  q.applyFence { q.rcu.fence with engineSilent := true }

/-- The listen timer of group `g` has run out (R119). -/
def Part.listenDue (p : Part) (g : Group) : Bool := decide (p.role g = .listen) && p.ranOut (p.group g).listen

/-- The end of the listen timer (R119). -/
def Part.listenEnd (p : Part) (g : Group) : Part :=
  (if p.vacantConditions g then p.makeClaim g .vacant else p.enterStandby g .listenEnd).evaluateAll

/-- The vacancy timer of group `g` has run out now (R120). -/
def Part.vacancyDue (p : Part) (g : Group) : Bool :=
  match (p.group g).vacancy with
  | .running d => p.reached d
  | .stopped | .runOut => false

/-- The end of the vacancy timer (R120). -/
def Part.vacancyEnd (p : Part) (g : Group) : Part := (p.setGroup g { p.group g with vacancy := .runOut }).evaluateAll

/-- The claim that meets its deadline now: its CLAIM has succeeded, its deadline has been reached, and it is not already held by
a forget walk (R122, R129). -/
def Part.claimAtDeadline (p : Part) (g : Group) : Option ClaimRecord :=
  (p.group g).claim.filter fun c => !c.held && c.txTick.isSome && p.ranOut c.deadline

/-- The dead-time timer of group `g` has run out, or its claim meets its deadline (R122, R124 to R126). -/
def Part.deadTimeDue (p : Part) (g : Group) : Bool := p.ranOut (p.group g).deadTimer || (p.claimAtDeadline g).isSome

/-- The end of the dead time (R124 to R126, R129). -/
def Part.deadTimeEnd (p : Part) (g : Group) : Part :=
  let q := p.setGroup g { p.group g with deadTimer := if p.ranOut (p.group g).deadTimer then none else (p.group g).deadTimer }
  (match p.claimAtDeadline g with
    | some c => q.resolveDeadline g c
    | none => q).evaluateAll

/-- The end of the hold-off (R128). -/
def Part.holdOffEnd (p : Part) (g : Group) : Part := (p.setGroup g { p.group g with holdOff := none }).evaluateAll

/-- The handover timer of group `g` has run out (R134). -/
def Part.handoverDue (p : Part) (g : Group) : Bool := decide (p.role g = .yielding) && p.ranOut (p.group g).handover

/-- The end of the handover timer (R134). -/
def Part.handoverEnd (p : Part) (g : Group) : Part := (p.completeYield g true).evaluateAll

/-- The pulse epoch falls (R102, R103). -/
def Part.epochNow (p : Part) : Part :=
  match p.ppu.epoch with
  | some d => p.onlyIf (p.reached d) fun q => q.epoch d
  | none => p

/-! ### Lane timers -/

/-- The health window of lane `l` ends (R83). -/
def Part.windowNow (p : Part) (l : Lane) : Part :=
  match (p.lane l).windowEnd with
  | some d => p.onlyIf (p.laneUsable l && p.reached d) fun q => q.endWindow l d
  | none => p

/-- The retrain timer of lane `l` has run out (R85). -/
def Part.retrainDue (p : Part) (l : Lane) : Bool := decide ((p.lane l).state = .down) && p.ranOut (p.lane l).retrain

/-- The 10 ms mark of lane `l` (R82). -/
def Part.alignNow (p : Part) (l : Lane) : Part :=
  match (p.lane l).alignMark with
  | some d => p.onlyIf (decide ((p.lane l).state = .training) && p.reached d) fun q => q.alignMark l d
  | none => p

/-! ### Walks (R16, R17, R19, R168) -/

/-- One visit of the clear walk: its slot becomes FREE (R17). -/
def Part.clearVisit (p : Part) : Part :=
  match p.smt.clearWalk with
  | some c => p.onlyIf (decide (c < 65536)) fun q =>
      let q := q.setTable (slotAt c) none
      { q with smt := { q.smt with clearWalk := some (c + 1) } }
  | none => p

/-- The clear walk has passed slot 65,535 and ends (R17). -/
def Part.clearEnd (p : Part) : Part :=
  match p.smt.clearWalk with
  | some c => p.onlyIf (decide (65536 ≤ c)) fun q => { q with smt := { q.smt with clearWalk := none } }
  | none => p

/-- The refresh walk has passed slot 65,535 and ends (R19). -/
def Part.refreshEnd (p : Part) : Part :=
  match p.smt.refreshWalk with
  | some c => p.onlyIf (decide (65536 ≤ c)) fun q => { q with smt := { q.smt with refreshWalk := none } }
  | none => p

/-- A claim held at its deadline enters ACTIVE as the forget walk ends (R129, R168). -/
def Part.enterHeld (p : Part) (g : Group) : Part :=
  match (p.group g).claim with
  | some c => if c.held then p.enterActive g (claimWonCause c) else p
  | none => p

/-- The forget walk of group `g` has passed slot 65,535 and ends (R168). -/
def Part.forgetEnd (p : Part) (g : Group) : Part :=
  match p.smt.forget.get g with
  | some c => p.onlyIf (decide (65536 ≤ c)) fun q => (q.setForget g none).enterHeld g
  | none => p

end Sys2Proof.Machine
end

