-- ==== Sys2Proof/Machine/ResetCommands.lean ====
section
/-! DEFINITION. Meanings of the reset and clear-walk commands (R17, R176, R177). -/

namespace Sys2Proof.Machine

/-- RESET: every block takes its reset state, which lasts while the reset is held (R101, R170, R176). The session memory keeps its
contents until the clear walk visits them (R17), and the model's own counter of free choices runs on. -/
def execReset (s : State) : Host.Outcome State Fault Refusal :=
  .next { s with toPart :=
    { Part.reset with evp := { Part.reset.evp with resetHeld := true }
                      smt := { Part.reset.smt with table := s.smt.table }
                      draws := s.draws } }

/-- RESET_END: the reset ends, and the session clock starts from 0 (R176, R177). One that finds no reset held changes nothing (log 2). -/
def execResetEnd (s : State) : Host.Outcome State Fault Refusal :=
  .next (if s.evp.resetHeld then { s with evp := { s.evp with resetHeld := false }, clock := 0 } else s)

/-- CLEAR_WALK_VISIT (R17). -/
def execClearWalkVisit (s : State) : Host.Outcome State Fault Refusal :=
  s.whileRunning Part.clearVisit

/-- CLEAR_WALK_END (R17, R18). -/
def execClearWalkEnd (s : State) : Host.Outcome State Fault Refusal :=
  s.whileRunning Part.clearEnd

end Sys2Proof.Machine
end

