-- ==== Sys2Proof/Machine/EventPortCommands.lean ====
section
/-! DEFINITION. Meanings of the Event Port commands: words arriving, records taken, egress places (R171 to R181). -/

namespace Sys2Proof.Machine

/-- INGRESS_RECORD_ARRIVAL: words pass while the part is ready (R171). -/
def execIngressRecordArrival (words : List Word32) (s : State) : Host.Outcome State Fault Refusal :=
  s.whileRunning fun p => p.pushWords words

/-- PROFILE (R174, R175): the record in hand, of this kind, is taken if it can be (R172). -/
def execProfileRecord (s : State) : Host.Outcome State Fault Refusal :=
  s.whileRunning fun p => p.takeRecord (some .profile) Part.takeProfile

/-- OPEN (R21 to R25): the record in hand, of this kind, is taken if it can be (R172). -/
def execOpenRecord (s : State) : Host.Outcome State Fault Refusal :=
  s.whileRunning fun p => p.takeRecord (some .open) Part.takeOpen

/-- UPDATE (R26, R27): the record in hand, of this kind, is taken if it can be (R172). -/
def execUpdateRecord (s : State) : Host.Outcome State Fault Refusal :=
  s.whileRunning fun p => p.takeRecord (some .update) Part.takeUpdate

/-- CLOSE (R28 to R30): the record in hand, of this kind, is taken if it can be (R172). -/
def execCloseRecord (s : State) : Host.Outcome State Fault Refusal :=
  s.whileRunning fun p => p.takeRecord (some .close) Part.takeClose

/-- ALIVE (R35, R36): the record in hand, of this kind, is taken if it can be (R172). -/
def execAliveRecord (s : State) : Host.Outcome State Fault Refusal :=
  s.whileRunning fun p => p.takeRecord (some .alive) Part.takeAlive

/-- RELEASE (R164, R165): the record in hand, of this kind, is taken if it can be (R172). -/
def execReleaseRecord (s : State) : Host.Outcome State Fault Refusal :=
  s.whileRunning fun p => p.takeRecord (some .release) Part.takeRelease

/-- HANDOVER (R133): the record in hand, of this kind, is taken if it can be (R172). -/
def execHandoverRecord (s : State) : Host.Outcome State Fault Refusal :=
  s.whileRunning fun p => p.takeRecord (some .handover) Part.takeHandover

/-- STATUS (R181): the record in hand, of this kind, is taken if it can be (R172). -/
def execStatusRecord (s : State) : Host.Outcome State Fault Refusal :=
  s.whileRunning fun p => p.takeRecord (some .status) Part.takeStatus

/-- MALFORMED_RECORD: a record of unknown kind is refused (R173). -/
def execMalformedRecord (s : State) : Host.Outcome State Fault Refusal :=
  s.whileRunning fun p => p.takeRecord none fun q ws => (q, refusal ws .malformed)

/-- EGRESS_RECORD_TAKEN: the engine takes the head record, and its place is given away (R179). -/
def execEgressRecordTaken (s : State) : Host.Outcome State Fault Refusal :=
  s.whileRunning Part.egressTaken

/-- REVOKED: a REVOKED record is placed (R76). -/
def execRevokedRecord (s : State) : Host.Outcome State Fault Refusal :=
  s.whileRunning Part.placeRevoked

/-- BATCH: a BATCH record is placed (R163). -/
def execBatchRecord (s : State) : Host.Outcome State Fault Refusal :=
  s.whileRunning Part.placeBatch

end Sys2Proof.Machine
end

