-- ==== Sys2Proof/Machine/FrameCommands.lean ====
section
/-! DEFINITION. Meanings of the receptions: a frame of each kind, a bad frame, a fragment (R89 to R94). -/

namespace Sys2Proof.Machine

/-- ALIGN: a valid frame of this kind is taken on a lane (R82). -/
def execAlignFrame (lane : Lane) (rx : Reception) (s : State) : Host.Outcome State Fault Refusal :=
  s.whileRunning fun p => p.receive .align lane rx

/-- PULSE: a valid frame of this kind is taken on a lane (R113). -/
def execPulseFrame (lane : Lane) (rx : Reception) (s : State) : Host.Outcome State Fault Refusal :=
  s.whileRunning fun p => p.receive .pulse lane rx

/-- DELTA: a valid frame of this kind is taken on a lane (R60 to R67). -/
def execDeltaFrame (lane : Lane) (rx : Reception) (s : State) : Host.Outcome State Fault Refusal :=
  s.whileRunning fun p => p.receive .delta lane rx

/-- DROP: a valid frame of this kind is taken on a lane (R68). -/
def execDropFrame (lane : Lane) (rx : Reception) (s : State) : Host.Outcome State Fault Refusal :=
  s.whileRunning fun p => p.receive .drop lane rx

/-- RECEIPT: a valid frame of this kind is taken on a lane (R48, R49). -/
def execReceiptFrame (lane : Lane) (rx : Reception) (s : State) : Host.Outcome State Fault Refusal :=
  s.whileRunning fun p => p.receive .receipt lane rx

/-- CLAIM: a valid frame of this kind is taken on a lane (R127, R131, R147). -/
def execClaimFrame (lane : Lane) (rx : Reception) (s : State) : Host.Outcome State Fault Refusal :=
  s.whileRunning fun p => p.receive .claim lane rx

/-- ANSWER: a valid frame of this kind is taken on a lane (R123). -/
def execAnswerFrame (lane : Lane) (rx : Reception) (s : State) : Host.Outcome State Fault Refusal :=
  s.whileRunning fun p => p.receive .answer lane rx

/-- YIELD: a valid frame of this kind is taken on a lane (R120). -/
def execYieldFrame (lane : Lane) (rx : Reception) (s : State) : Host.Outcome State Fault Refusal :=
  s.whileRunning fun p => p.receive .yield lane rx

/-- BAD_FRAME: a reception that fails a frame test is discarded and counted (R83, R92). -/
def execBadFrame (lane : Lane) (rx : Reception) (s : State) : Host.Outcome State Fault Refusal :=
  s.whileRunning fun p => p.receiveBad lane rx

/-- FRAGMENT: a reception shorter than 96 bit times is discarded (R89). -/
def execFragment (_lane : Lane) (_rx : Reception) (s : State) : Host.Outcome State Fault Refusal :=
  s.whileRunning fun p => p

end Sys2Proof.Machine
end

