-- ==== Sys2Proof/Machine/TransmitterCommands.lean ====
section
/-! DEFINITION. Meanings of the transmitter's commands (R97 to R100). -/

namespace Sys2Proof.Machine

/-- TRANSMITTER_TAKE (R97). -/
def execTransmitterTake (s : State) : Host.Outcome State Fault Refusal :=
  s.whileRunning Part.transmitterTake

/-- FRAME_START: the idle time is met, and the frame or copy starts (R98). -/
def execFrameStart (s : State) : Host.Outcome State Fault Refusal :=
  s.whileRunning Part.startFrame

/-- COLLISION (R99, R100). -/
def execCollision (s : State) : Host.Outcome State Fault Refusal :=
  s.whileRunning Part.collision

/-- BACKOFF_END: the station waits for idle again (R99). -/
def execBackoffEnd (s : State) : Host.Outcome State Fault Refusal :=
  s.whileRunning Part.backoffOver

/-- FRAME_COMPLETE (R98, R100). -/
def execFrameComplete (s : State) : Host.Outcome State Fault Refusal :=
  s.whileRunning Part.frameDone

end Sys2Proof.Machine
end

