-- ==== Sys2Proof/Machine/TimerCommands.lean ====
section
/-! DEFINITION. Meanings of the commands that the session clock brings (R177). -/

namespace Sys2Proof.Machine

/-- RECEIPT_TIMER_EXPIRY (R51 to R53). -/
def execReceiptTimerExpiry (s : State) : Host.Outcome State Fault Refusal :=
  s.whileRunning Part.receiptTimer

/-- PAUSE_TIMER_EXPIRY (R54). -/
def execPauseTimerExpiry (s : State) : Host.Outcome State Fault Refusal :=
  s.whileRunning fun p => p.onlyIf (p.ranOut p.rpu.pauseTimer) Part.endPause

/-- RECEIPT_DELAY (R72). -/
def execReceiptDelay (s : State) : Host.Outcome State Fault Refusal :=
  s.whileRunning fun p => p.onlyIf p.receiptDelayDue Part.receiptDelay

/-- LIVENESS_TIMER_EXPIRY (R111). -/
def execLivenessTimerExpiry (station : Station) (s : State) : Host.Outcome State Fault Refusal :=
  s.whileRunning fun p => p.onlyIf (p.silentFor station) fun q => q.lose station

/-- PULSE_EPOCH (R102, R103). -/
def execPulseEpoch (s : State) : Host.Outcome State Fault Refusal :=
  s.whileRunning Part.epochNow

/-- ENGINE_SILENCE_TIMER_EXPIRY (R36). -/
def execEngineSilenceTimerExpiry (s : State) : Host.Outcome State Fault Refusal :=
  s.whileRunning fun p => p.onlyIf (p.ranOut p.rcu.silence) Part.engineSilence

/-- LISTEN_TIMER_EXPIRY (R119). -/
def execListenTimerExpiry (group : Group) (s : State) : Host.Outcome State Fault Refusal :=
  s.whileRunning fun p => p.onlyIf (p.listenDue group) fun q => q.listenEnd group

/-- VACANCY_TIMER_EXPIRY (R120). -/
def execVacancyTimerExpiry (group : Group) (s : State) : Host.Outcome State Fault Refusal :=
  s.whileRunning fun p => p.onlyIf (p.vacancyDue group) fun q => q.vacancyEnd group

/-- DEAD_TIME_EXPIRY (R124 to R126). -/
def execDeadTimeExpiry (group : Group) (s : State) : Host.Outcome State Fault Refusal :=
  s.whileRunning fun p => p.onlyIf (p.deadTimeDue group) fun q => q.deadTimeEnd group

/-- HOLD_OFF_EXPIRY (R128). -/
def execHoldOffExpiry (group : Group) (s : State) : Host.Outcome State Fault Refusal :=
  s.whileRunning fun p => p.onlyIf (p.ranOut (p.group group).holdOff) fun q => q.holdOffEnd group

/-- HANDOVER_TIMER_EXPIRY (R134). -/
def execHandoverTimerExpiry (group : Group) (s : State) : Host.Outcome State Fault Refusal :=
  s.whileRunning fun p => p.onlyIf (p.handoverDue group) fun q => q.handoverEnd group

/-- GRANT_LAPSE (R146). -/
def execGrantLapse (group : Group) (s : State) : Host.Outcome State Fault Refusal :=
  s.whileRunning fun p => p.onlyIf (p.grantLapsed group) fun q => q.lapseGrant group

end Sys2Proof.Machine
end

