-- ==== Sys2Proof/Machine/LaneCommands.lean ====
section
/-! DEFINITION. Meanings of the lane commands (R81 to R85). -/

namespace Sys2Proof.Machine

/-- HEALTH_WINDOW_END (R83). -/
def execHealthWindowEnd (lane : Lane) (s : State) : Host.Outcome State Fault Refusal :=
  s.whileRunning fun p => p.windowNow lane

/-- QUIET_EXPIRY (R84). -/
def execQuietExpiry (lane : Lane) (s : State) : Host.Outcome State Fault Refusal :=
  s.whileRunning fun p => p.onlyIf (p.quietDue lane) fun q => q.quietExpiry lane

/-- RETRAIN_TIMER_EXPIRY, with what the line monitor reports at that moment (R85). -/
def execRetrainTimerExpiry (lane : Lane) (report : LineReport) (s : State) : Host.Outcome State Fault Refusal :=
  s.whileRunning fun p => p.onlyIf (p.retrainDue lane) fun q => q.retrain lane report

/-- LINE_FAULT: an open or a short has lasted 1 ms (R81); a report of no fault is no line fault (log 2). -/
def execLineFault (lane : Lane) (report : LineReport) (s : State) : Host.Outcome State Fault Refusal :=
  s.whileRunning fun p => p.onlyIf (decide (report ≠ .noFault)) fun q => q.lineFault lane report

/-- LINE_FAULT_CLEAR (R85). -/
def execLineFaultClear (lane : Lane) (s : State) : Host.Outcome State Fault Refusal :=
  s.whileRunning fun p => p.lineClear lane

/-- ALIGN_DUE (R82). -/
def execAlignDue (lane : Lane) (s : State) : Host.Outcome State Fault Refusal :=
  s.whileRunning fun p => p.alignNow lane

end Sys2Proof.Machine
end

