-- ==== Sys2Proof/Machine/WalkCommands.lean ====
section
/-! DEFINITION. Meanings of the walk commands (R16, R20, R153, R168). -/

namespace Sys2Proof.Machine

/-- REFRESH_WALK_VISIT (R20). -/
def execRefreshWalkVisit (s : State) : Host.Outcome State Fault Refusal :=
  s.whileRunning Part.refreshVisit

/-- REFRESH_WALK_END (R19). -/
def execRefreshWalkEnd (s : State) : Host.Outcome State Fault Refusal :=
  s.whileRunning Part.refreshEnd

/-- TAKEOVER_WALK_VISIT (R153 to R162). -/
def execTakeoverWalkVisit (group : Group) (s : State) : Host.Outcome State Fault Refusal :=
  s.whileRunning fun p => p.takeoverVisit group

/-- TAKEOVER_WALK_END (R163). -/
def execTakeoverWalkEnd (group : Group) (s : State) : Host.Outcome State Fault Refusal :=
  s.whileRunning fun p => p.takeoverEnd group

/-- FORGET_WALK_VISIT (R168). -/
def execForgetWalkVisit (group : Group) (s : State) : Host.Outcome State Fault Refusal :=
  s.whileRunning fun p => p.forgetVisit group

/-- FORGET_WALK_END (R168, R129). -/
def execForgetWalkEnd (group : Group) (s : State) : Host.Outcome State Fault Refusal :=
  s.whileRunning fun p => p.forgetEnd group

end Sys2Proof.Machine
end

