-- ==== Sys2Proof/Machine/Dispatch.lean ====
section
/-! DEFINITION. The meaning of every command: one arm for each row of spec/opcode_table.json. -/

namespace Sys2Proof.Machine

/-- The effect of a command on everything but the queue. -/
def exec (i : Instr) (s : State) : Host.Outcome State Fault Refusal :=
  match i with
  | .reset => Sys2Proof.Machine.execReset s
  | .clearWalkVisit => Sys2Proof.Machine.execClearWalkVisit s
  | .clearWalkEnd => Sys2Proof.Machine.execClearWalkEnd s
  | .profileRecord => Sys2Proof.Machine.execProfileRecord s
  | .openRecord => Sys2Proof.Machine.execOpenRecord s
  | .updateRecord => Sys2Proof.Machine.execUpdateRecord s
  | .closeRecord => Sys2Proof.Machine.execCloseRecord s
  | .aliveRecord => Sys2Proof.Machine.execAliveRecord s
  | .releaseRecord => Sys2Proof.Machine.execReleaseRecord s
  | .handoverRecord => Sys2Proof.Machine.execHandoverRecord s
  | .statusRecord => Sys2Proof.Machine.execStatusRecord s
  | .malformedRecord => Sys2Proof.Machine.execMalformedRecord s
  | .egressRecordTaken => Sys2Proof.Machine.execEgressRecordTaken s
  | .revokedRecord => Sys2Proof.Machine.execRevokedRecord s
  | .batchRecord => Sys2Proof.Machine.execBatchRecord s
  | .alignFrame lane rx => Sys2Proof.Machine.execAlignFrame lane rx s
  | .pulseFrame lane rx => Sys2Proof.Machine.execPulseFrame lane rx s
  | .deltaFrame lane rx => Sys2Proof.Machine.execDeltaFrame lane rx s
  | .dropFrame lane rx => Sys2Proof.Machine.execDropFrame lane rx s
  | .receiptFrame lane rx => Sys2Proof.Machine.execReceiptFrame lane rx s
  | .claimFrame lane rx => Sys2Proof.Machine.execClaimFrame lane rx s
  | .answerFrame lane rx => Sys2Proof.Machine.execAnswerFrame lane rx s
  | .yieldFrame lane rx => Sys2Proof.Machine.execYieldFrame lane rx s
  | .badFrame lane rx => Sys2Proof.Machine.execBadFrame lane rx s
  | .fragment lane rx => Sys2Proof.Machine.execFragment lane rx s
  | .transmitterTake => Sys2Proof.Machine.execTransmitterTake s
  | .frameStart => Sys2Proof.Machine.execFrameStart s
  | .collision => Sys2Proof.Machine.execCollision s
  | .backoffEnd => Sys2Proof.Machine.execBackoffEnd s
  | .frameComplete => Sys2Proof.Machine.execFrameComplete s
  | .receiptTimerExpiry => Sys2Proof.Machine.execReceiptTimerExpiry s
  | .pauseTimerExpiry => Sys2Proof.Machine.execPauseTimerExpiry s
  | .receiptDelay => Sys2Proof.Machine.execReceiptDelay s
  | .livenessTimerExpiry station => Sys2Proof.Machine.execLivenessTimerExpiry station s
  | .pulseEpoch => Sys2Proof.Machine.execPulseEpoch s
  | .engineSilenceTimerExpiry => Sys2Proof.Machine.execEngineSilenceTimerExpiry s
  | .listenTimerExpiry group => Sys2Proof.Machine.execListenTimerExpiry group s
  | .vacancyTimerExpiry group => Sys2Proof.Machine.execVacancyTimerExpiry group s
  | .deadTimeExpiry group => Sys2Proof.Machine.execDeadTimeExpiry group s
  | .holdOffExpiry group => Sys2Proof.Machine.execHoldOffExpiry group s
  | .handoverTimerExpiry group => Sys2Proof.Machine.execHandoverTimerExpiry group s
  | .healthWindowEnd lane => Sys2Proof.Machine.execHealthWindowEnd lane s
  | .quietExpiry lane => Sys2Proof.Machine.execQuietExpiry lane s
  | .retrainTimerExpiry lane report => Sys2Proof.Machine.execRetrainTimerExpiry lane report s
  | .lineFault lane report => Sys2Proof.Machine.execLineFault lane report s
  | .lineFaultClear lane => Sys2Proof.Machine.execLineFaultClear lane s
  | .alignDue lane => Sys2Proof.Machine.execAlignDue lane s
  | .grantLapse group => Sys2Proof.Machine.execGrantLapse group s
  | .refreshWalkVisit => Sys2Proof.Machine.execRefreshWalkVisit s
  | .refreshWalkEnd => Sys2Proof.Machine.execRefreshWalkEnd s
  | .takeoverWalkVisit group => Sys2Proof.Machine.execTakeoverWalkVisit group s
  | .takeoverWalkEnd group => Sys2Proof.Machine.execTakeoverWalkEnd group s
  | .forgetWalkVisit group => Sys2Proof.Machine.execForgetWalkVisit group s
  | .forgetWalkEnd group => Sys2Proof.Machine.execForgetWalkEnd group s
  | .ingressRecordArrival words => Sys2Proof.Machine.execIngressRecordArrival words s
  | .resetEnd => Sys2Proof.Machine.execResetEnd s

end Sys2Proof.Machine
end

