-- ==== Sys2Proof/Machine/Clock.lean ====
section
/-! DEFINITION. What the part does while no command waits: the first timer that has run out is taken, and when none has, the
session clock advances by one millisecond (R177; log 1). -/

namespace Sys2Proof.Machine

/-- The timers of the part with the condition under which each has run out, in the fixed order of log 1. -/
def Part.timers (p : Part) : List (Bool × Instr) :=
  [(p.ranOut p.ppu.epoch, .pulseEpoch),
   (p.ranOut p.rcu.silence, .engineSilenceTimerExpiry),
   (p.ranOut p.rpu.pauseTimer, .pauseTimerExpiry),
   (p.timedOut.isSome, .receiptTimerExpiry),
   (p.receiptDelayDue, .receiptDelay),
   (p.silentFor .s0, .livenessTimerExpiry .s0),
   (p.silentFor .s1, .livenessTimerExpiry .s1),
   (p.silentFor .s2, .livenessTimerExpiry .s2),
   (p.listenDue .g0, .listenTimerExpiry .g0),
   (p.listenDue .g1, .listenTimerExpiry .g1),
   (p.vacancyDue .g0, .vacancyTimerExpiry .g0),
   (p.vacancyDue .g1, .vacancyTimerExpiry .g1),
   (p.deadTimeDue .g0, .deadTimeExpiry .g0),
   (p.deadTimeDue .g1, .deadTimeExpiry .g1),
   (p.ranOut (p.group .g0).holdOff, .holdOffExpiry .g0),
   (p.ranOut (p.group .g1).holdOff, .holdOffExpiry .g1),
   (p.handoverDue .g0, .handoverTimerExpiry .g0),
   (p.handoverDue .g1, .handoverTimerExpiry .g1),
   (p.laneUsable .a && p.ranOut (p.lane .a).windowEnd, .healthWindowEnd .a),
   (p.laneUsable .b && p.ranOut (p.lane .b).windowEnd, .healthWindowEnd .b),
   (p.quietDue .a, .quietExpiry .a),
   (p.quietDue .b, .quietExpiry .b),
   (p.retrainDue .a, .retrainTimerExpiry .a (p.lane .a).monitor),
   (p.retrainDue .b, .retrainTimerExpiry .b (p.lane .b).monitor),
   (decide ((p.lane .a).state = .training) && p.ranOut (p.lane .a).alignMark, .alignDue .a),
   (decide ((p.lane .b).state = .training) && p.ranOut (p.lane .b).alignMark, .alignDue .b),
   (p.grantLapsed .g0, .grantLapse .g0),
   (p.grantLapsed .g1, .grantLapse .g1)]

/-- The first timer that has run out. -/
def Part.dueExpiry (p : Part) : Option Instr := (p.timers.find? (·.1)).map (·.2)

/-- The session clock advances by one millisecond, wrapping from 4,294,967,295 to 0 (R177). -/
def State.tick (s : State) : State := { s with clock := s.clock + 1 }

/-- A step with no command waiting: a held part stays as it is (R176); a timer that has run out is taken; otherwise a millisecond
passes. -/
def State.idle (s : State) : Host.Outcome State Fault Refusal :=
  if s.evp.resetHeld then .next s
  else match s.dueExpiry with
    | some i => exec i s
    | none => .next s.tick

end Sys2Proof.Machine
end

