-- ==== Sys2Proof/Safety.lean ====
section
/-! DEFINITION. What holds of the part in every state a run reaches, as checks that can be evaluated. Each cites the rule it
restates; the statements say that every step keeps it. -/

namespace Sys2Proof.Machine

/-! ### Outputs and bounds -/

/-- FPg is high exactly while the role for g is ACTIVE (R117, R129, R130). -/
def GroupRec.fpFollows (r : GroupRec) : Bool := decide (r.fp = decide (r.role = .active))

/-- Both FP lines follow their roles (R117). -/
def Part.fpFollows (p : Part) : Bool := (p.group .g0).fpFollows && (p.group .g1).fpFollows

/-- The FIFOs and the lists of the Event Port and the Replication Unit keep to their places (R37, R44, R71, R75, R171, R178). -/
def Part.bounded (p : Part) : Bool :=
  decide (p.evp.ingress.length ≤ 64) && decide (p.evp.egress.length ≤ 64) && decide (p.rpu.inFlight.length ≤ 2048)
    && decide (p.rpu.receipts.length ≤ 256) && decide (p.rpu.revoke.length ≤ 1024)

/-! ### The session table -/

/-- The session table is in its canonical form. -/
def Part.tableOk (p : Part) : Bool := tableWf p.smt.table

/-- What an entry holds by its state (R3 to R6, R10 to R12): attempts 0 to 8, a lifetime of 1 or more, a TCP part exactly for
protocol 6, ports exactly for the protocols that have them, a NAT part that suits the key; in SHADOW, peer-may-hold set, no
attempts, no mark; a closing entry has no mark. -/
def Entry.ok (e : Entry) : Bool :=
  decide (e.attempts ≤ 8) && decide (e.lifetime ≠ 0)
    && decide (e.tcp.isSome = decide (e.key.protocol.toNat = 6))
    && decide (e.key.ports.isSome = protocolHasPorts e.key.protocol) && e.nat.all (natSuits e.key)
    && (e.state.owned || (e.peerMayHold && decide (e.attempts = 0) && !e.installed))
    && (!e.state.closing || !e.installed)

/-- Every entry holds what its state says. -/
def Part.entriesOk (p : Part) : Bool := p.smt.table.all fun x => x.2.ok

/-- The Send List holds exactly the slots that are DIRTY or DROP_DUE, each once (R37), and the In-Flight List has a record exactly
for the slots that are SENT, CHANGED, DROP_SENT or DROP_WAIT, one for each (R44). -/
def Part.listsAgree (p : Part) : Bool :=
  (p.smt.table.all fun x =>
      decide (decide (x.1 ∈ p.rpu.sendList) = x.2.state.awaitsSend)
        && decide (decide (x.1 ∈ p.rpu.inFlight.map (·.slot)) = x.2.state.inFlight))
    && (p.rpu.sendList.all fun s => (p.entry s).isSome) && (p.rpu.inFlight.all fun r => (p.entry r.slot).isSome)
    && decide p.rpu.sendList.Nodup && decide (p.rpu.inFlight.map (·.slot)).Nodup

/-- While the clear walk is under way nothing but the walk, the clock, the line monitors and the reset input has moved: the part
is at its reset state, and no entry below the cursor is listed (R17, R176). -/
def Part.clearing (p : Part) : Bool :=
  match p.smt.clearWalk with
  | none => true
  | some c =>
    decide (p = { Part.reset with
      evp := { Part.reset.evp with resetHeld := p.evp.resetHeld }
      clock := p.clock
      smt := { Part.reset.smt with table := p.smt.table, clearWalk := some c }
      mbi := { Part.reset.mbi with lanes := { a := { LaneRec.reset with monitor := (p.lane .a).monitor },
                                              b := { LaneRec.reset with monitor := (p.lane .b).monitor } } }
      draws := p.draws })
      && p.smt.table.all fun x => decide (c ≤ x.1.toNat)

/-- The installed mark is set only on entries of a group whose role is ACTIVE, or whose forget walk has not yet passed the slot
(R169). -/
def Part.marksOk (p : Part) : Bool :=
  p.smt.table.all fun x =>
    !x.2.installed || decide (p.role x.2.group = .active)
      || match p.smt.forget.get x.2.group with
        | some c => decide (c ≤ x.1.toNat)
        | none => false

/-! ### Roles -/

/-- What a group holds beside its role (R116): a Claim Record in CLAIMING, a pending frame and a handover timer in YIELDING, a
listen timer in LISTEN alone, a dead-time timer in CLAIMING alone, a vacancy timer in STANDBY alone; a claim that waits for the
forget walk has had its CLAIM sent (R122, R129). -/
def GroupRec.ok (r : GroupRec) : Bool :=
  decide (r.claim.isSome = decide (r.role = .claiming)) && decide (r.pendingFrame.isSome = decide (r.role = .yielding))
    && decide (r.handover.isSome = decide (r.role = .yielding)) && (!r.listen.isSome || decide (r.role = .listen))
    && (!r.deadTimer.isSome || decide (r.role = .claiming)) && (decide (r.vacancy = .stopped) || decide (r.role = .standby))
    && r.claim.all fun c => !c.held || c.txTick.isSome

/-- Both groups hold what their roles say. -/
def Part.groupsOk (p : Part) : Bool := (p.group .g0).ok && (p.group .g1).ok

/-- A station that is no member keeps both roles DORMANT, no fence cause and no engine silence timer (R36, R116, R137, R143); on a
member no role is DORMANT, and a role is FENCED exactly while some cause applies (R140, R141). -/
def Part.fencesOk (p : Part) : Bool :=
  if p.isMember then
    decide (p.role .g0 ≠ .dormant) && decide (p.role .g1 ≠ .dormant)
      && decide (decide (p.role .g0 = .fenced) = p.rcu.fence.any) && decide (decide (p.role .g1 = .fenced) = p.rcu.fence.any)
  else decide (p.role .g0 = .dormant) && decide (p.role .g1 = .dormant) && !p.rcu.fence.any && !p.rcu.silence.isSome

/-! ### The words of an ingress record, as the statements read them (R182, R184, R185) -/

/-- Word `i` of a record, its first word being word 0; 0 past its end. -/
def recordWord (ws : List Word32) (i : Nat) : Word32 := ws.getD i 0

/-- Byte `n` of word `i`, byte 0 the most significant. -/
def recordByte (ws : List Word32) (i n : Nat) : Nat := (recordWord ws i).toNat / 256 ^ (3 - n) % 256

/-- Bytes 0 and 1 of word `i`. -/
def recordHigh (ws : List Word32) (i : Nat) : BitVec 16 := BitVec.ofNat 16 ((recordWord ws i).toNat / 65536)

/-- Bytes 2 and 3 of word `i`. -/
def recordLow (ws : List Word32) (i : Nat) : BitVec 16 := BitVec.ofNat 16 ((recordWord ws i).toNat % 65536)

/-- The four words from word `i` as one value. -/
def recordQuad (ws : List Word32) (i : Nat) : BitVec 128 :=
  recordWord ws i ++ recordWord ws (i + 1) ++ recordWord ws (i + 2) ++ recordWord ws (i + 3)

/-- The tracking state of a code 1 to 3 (R182). -/
def trackingNamed (n : Nat) : TrackingState := if n = 1 then .opening else if n = 2 then .established else .closing

/-- The NAT part in the words from word `i`: kind, port-present, port; address. -/
def recordNat (ws : List Word32) (i : Nat) (v6 : Bool) : NatPart :=
  { kind := if recordByte ws i 0 = 1 then .source else .destination
    port := if recordByte ws i 1 = 0 then none else some (recordLow ws i)
    addr := if v6 then .v6 (recordQuad ws (i + 1)) else .v4 (recordWord ws (i + 1)) }

/-- The TCP part in the seven words from word `i`: the forward direction in bytes 0 to 13, the reverse in bytes 14 to 27. -/
def recordTcp (ws : List Word32) (i : Nat) (tracking : TrackingState) : TcpPart :=
  { tracking := tracking
    fwd := { seqHi := recordWord ws i, ackHi := recordWord ws (i + 1), window := recordWord ws (i + 2),
             rate := recordHigh ws (i + 3) }
    rev := { seqHi := recordLow ws (i + 3) ++ recordHigh ws (i + 4), ackHi := recordLow ws (i + 4) ++ recordHigh ws (i + 5),
             window := recordLow ws (i + 5) ++ recordHigh ws (i + 6), rate := recordLow ws (i + 6) } }

/-! ### Install buffers -/

/-- A buffer holds no more than its records (R161): 1 to 15 while FILLING, at most 16 when POSTED. -/
def Buffer.ok : Buffer → Bool
  | .free => true
  | .filling _ recs => decide (1 ≤ recs.length) && decide (recs.length ≤ 15)
  | .posted _ recs _ _ _ => decide (recs.length ≤ 16)

/-- A POSTED buffer whose BATCH has not been placed. -/
def Buffer.unemitted : Buffer → Bool
  | .posted _ _ _ emitted _ => !emitted
  | _ => false

/-- The install buffers (R161, R163): their sizes, one FILLING buffer at most for each group, and the buffers that wait to be
emitted are the POSTED ones whose emitted flag is clear. -/
def Part.buffersOk (p : Part) : Bool :=
  (bufferNumbers.all fun i => (p.buffer i).ok)
    && decide ((bufferNumbers.filter fun i => (p.buffer i).fillingFor .g0).length ≤ 1)
    && decide ((bufferNumbers.filter fun i => (p.buffer i).fillingFor .g1).length ≤ 1)
    && (bufferNumbers.all fun i => decide (decide (i ∈ p.tku.postOrder) = (p.buffer i).unemitted))
    && decide p.tku.postOrder.Nodup

/-- The slots of every install buffer, in buffer order. -/
def Part.bufferedSlots (p : Part) : List Slot :=
  bufferNumbers.flatMap fun i => (p.buffer i).recs.map fun r => r.record.slot

/-- A slot appears in at most one non-FREE buffer, and once in it (R161). -/
def Part.bufferSlotsOk (p : Part) : Bool := decide p.bufferedSlots.Nodup

/-- A takeover walk is under way only for a group that is ACTIVE, and a buffer is FILLING only for a group whose takeover walk is
under way (R153, R161, R166). -/
def Part.walksOk (p : Part) : Bool :=
  [Group.g0, .g1].all fun g =>
    (!(p.smt.takeover.get g).isSome || decide (p.role g = .active))
      && (!(p.fillingBuffer g).isSome || (p.smt.takeover.get g).isSome)

/-! ### Lanes -/

/-- What a lane holds by its state (R80 to R85): a health window in UP and DEGRADED, ALIGN marks in TRAINING, a retrain timer in
DOWN alone, and OFF before the PROFILE. -/
def LaneRec.ok (r : LaneRec) : Bool :=
  decide (r.windowEnd.isSome = r.state.usable) && decide (r.alignMark.isSome = decide (r.state = .training))
    && (!r.alignDue || decide (r.state = .training)) && (!r.retrain.isSome || decide (r.state = .down))

/-- Both lanes hold what their states say, and before the PROFILE both are OFF (R80, R101). -/
def Part.lanesOk (p : Part) : Bool :=
  (p.lane .a).ok && (p.lane .b).ok
    && (p.profile.isSome || (decide ((p.lane .a).state = .off) && decide ((p.lane .b).state = .off)))

/-- There is a working lane exactly while a lane is UP or DEGRADED, and it is such a lane (R95). -/
def Part.workingLaneOk (p : Part) : Bool :=
  match p.mbi.workingLane with
  | some l => p.laneUsable l
  | none => !p.someLaneUsable

/-! ### What the statements start from -/

/-- The record in hand is `ws`, of kind `kind`, complete, with `rest` waiting behind it and a place open to its answer (R172). -/
def State.hasRecord (s : State) (kind : Option IngressKind) (ws : List Word32) (rest : List (List Word32)) : Prop :=
  s.evp.resetHeld = false ∧ s.evp.ingress = ws :: rest ∧ recordComplete ws = true ∧ recordKind ws = kind
    ∧ s.evp.egress.length < 56

/-- The command that takes a record of a kind. -/
def IngressKind.command : IngressKind → Instr
  | .profile => .profileRecord
  | .open => .openRecord
  | .update => .updateRecord
  | .close => .closeRecord
  | .alive => .aliveRecord
  | .release => .releaseRecord
  | .handover => .handoverRecord
  | .status => .statusRecord

/-- The command that brings a frame of a kind. -/
def FrameKind.command (k : FrameKind) (l : Lane) (rx : Reception) : Instr :=
  match k with
  | .align => .alignFrame l rx
  | .pulse => .pulseFrame l rx
  | .delta => .deltaFrame l rx
  | .drop => .dropFrame l rx
  | .receipt => .receiptFrame l rx
  | .claim => .claimFrame l rx
  | .answer => .answerFrame l rx
  | .yield => .yieldFrame l rx

/-- An egress record that answers an ingress record (R178). -/
def EgressRecord.isAnswer : EgressRecord → Bool
  | .refused _ _ _ | .status _ => true
  | .role _ _ _ _ | .peer _ _ _ | .lane _ _ | .revoked _ | .batch _ _ _ _ _ => false

/-- `s` with its part replaced; the queue stays. -/
def State.withPart (s : State) (p : Part) : State := { s with toPart := p }

/-- `s` once its record in hand has been taken, with no answer. -/
def State.leaves (s : State) (rest : List (List Word32)) : State := { s with evp := { s.evp with ingress := rest } }

/-- `s` once its record in hand has been taken and refused: nothing but a REFUSED record follows (R21, R173). -/
def State.refuses (s : State) (rest : List (List Word32)) (code : Byte) (slot : Slot) (cause : RefusalCause) : State :=
  { s with evp := { s.evp with ingress := rest, egress := s.evp.egress ++ [.refused code slot cause] } }

/-- What taking a valid frame on lane `l` changes, whatever it carries, when its sender `y` is LIVE under the frame's incarnation
and lane `l` is UP or DEGRADED: the lane's last-valid tick (R93), the copy expectation (R94), and the peer's ticks (R110). -/
def Part.afterHeader (p : Part) (l : Lane) (y : Station) (expected : Option (Lane × List Byte)) : Part :=
  { p with
    mbi := { p.mbi with
      lanes := p.mbi.lanes.set l { p.lane l with lastValid := some p.clock, quietElapsed := false }
      expect := p.mbi.expect.set y expected }
    ppu := { p.ppu with
      peers := p.ppu.peers.set y
        { p.peer y with lastHeard := some p.clock, heardOn := (p.peer y).heardOn.set l (some p.clock) } } }

/-- A valid frame of another station `y` with content `c` arrives on lane `l`, which is UP or DEGRADED while the other lane has no
quiet evidence against it, and `y` is LIVE under the frame's incarnation (R80, R84, R89, R110). -/
def State.hears (s : State) (l : Lane) (rx : Reception) (y : Station) (c : Content) : Prop :=
  s.evp.resetHeld = false ∧ s.takesFrom l rx = true ∧ s.laneUsable l = true
    ∧ (s.laneUsable l.other && s.quietFor l.other) = false ∧ y ≠ s.self ∧ (s.peer y).state = .live
    ∧ ∃ inc, judge rx = .valid { sender := y, incarnation := inc, content := c } ∧ (s.peer y).incarnation = some inc

/-- The same, and the frame is not the copy of one already taken (R94). -/
def State.hearsNew (s : State) (l : Lane) (rx : Reception) (y : Station) (c : Content) : Prop :=
  s.hears l rx y c ∧ s.isCopy y l rx.bytes = false

end Sys2Proof.Machine
end

