-- ==== Sys2Proof/Certificates/Slice0/Obligations.lean ====
section
/-! DEFINITION. The statements for the provers: what the commands and the machine do, by the numbered rules of the manual. -/

open Sys2Proof Sys2Proof.Machine

/-- Step: the command at the front of the queue is run, on the state with the queue's rest. -/
def Obligations.StepTakesTheFrontCommand : Prop :=
  ∀ (c : Instr) (s : State), step { s with pending := c :: s.pending } = exec c s

/-- Step on an empty queue, the model's choice (log 1): a held part stays, a timer that has run out is taken, and otherwise the
session clock advances by one millisecond (R177). -/
def Obligations.IdleStepFollowsTheClock : Prop :=
  ∀ s : State, s.pending = [] →
    (s.evp.resetHeld = true → step s = .next s)
    ∧ (s.evp.resetHeld = false → s.dueExpiry = none → step s = .next { s with clock := s.clock + 1 })
    ∧ (s.evp.resetHeld = false → ∀ i, s.dueExpiry = some i → step s = exec i s)

/-- The reset values that the manual gives (R17, R18, R37, R44, R71, R75, R80, R94, R95, R97, R109, R114, R116 to R118, R146, R161, R171,
R176 to R178, R180): every FIFO, list, buffer and mark empty, every timer stopped, every Peer Record ABSENT with its other fields
absent, every role DORMANT with what it holds absent or 0. -/
def Obligations.ResetStateIsTheManuals : Prop :=
  State.reset.evp.ingress = [] ∧ State.reset.evp.egress = [] ∧ State.reset.evp.roleMarks = .both none
    ∧ State.reset.evp.peerMarks = .all false ∧ State.reset.evp.laneMarks = .both false
    ∧ State.reset.profile = none ∧ State.reset.clock = 0
    ∧ State.reset.smt.clearWalk = some 0 ∧ State.reset.smt.refreshWalk = none
    ∧ State.reset.smt.takeover = .both none ∧ State.reset.smt.forget = .both none
    ∧ State.reset.rpu.sendList = [] ∧ State.reset.rpu.inFlight = [] ∧ State.reset.rpu.recallMark = false
    ∧ State.reset.rpu.pauseFlag = false ∧ State.reset.rpu.pauseTimer = none ∧ State.reset.rpu.receipts = []
    ∧ State.reset.rpu.revoke = []
    ∧ (∀ l, (State.reset.lane l).state = .off ∧ (State.reset.lane l).windowEnd = none
        ∧ (State.reset.lane l).lastValid = none ∧ (State.reset.lane l).retrain = none ∧ (State.reset.lane l).alignDue = false)
    ∧ State.reset.mbi.workingLane = none ∧ State.reset.mbi.expect = .all none ∧ State.reset.mbi.answers = []
    ∧ State.reset.mbi.claims = [] ∧ State.reset.mbi.yields = [] ∧ State.reset.mbi.pulseDue = false
    ∧ State.reset.mbi.inHand = none
    ∧ State.reset.ppu.epoch = none ∧ State.reset.ppu.pendingHealth = 0 ∧ State.reset.ppu.currentHealth = 0
    ∧ State.reset.ppu.merits = .both 0
    ∧ (∀ y, (State.reset.peer y).state = .absent ∧ (State.reset.peer y).incarnation = none
        ∧ (State.reset.peer y).lastHeard = none ∧ (State.reset.peer y).heardOn = .both none
        ∧ (State.reset.peer y).roles = .both none ∧ (State.reset.peer y).merits = .both none
        ∧ (State.reset.peer y).heardLanes = none ∧ (State.reset.peer y).witnessConfigured = none)
    ∧ (∀ g, State.reset.role g = .dormant ∧ (State.reset.group g).fp = false ∧ (State.reset.group g).claim = none
        ∧ (State.reset.group g).pendingFrame = none ∧ (State.reset.group g).listen = none
        ∧ (State.reset.group g).vacancy = .stopped ∧ (State.reset.group g).deadTimer = none
        ∧ (State.reset.group g).handover = none ∧ (State.reset.group g).holdOff = none
        ∧ (State.reset.group g).claimNumber = 0 ∧ (State.reset.group g).sentMerit = 0
        ∧ (State.reset.group g).rebirthMark = false ∧ State.reset.standing g = none)
    ∧ State.reset.rcu.fence.any = false ∧ State.reset.rcu.latch = false ∧ State.reset.rcu.silence = none
    ∧ (∀ g, (State.reset.vote g).grant = none ∧ (State.reset.vote g).memory0 = none ∧ (State.reset.vote g).memory1 = none)
    ∧ (∀ i, State.reset.buffer i = .free)

/-- RESET and RESET_END (R176, R177, R101, R170): every block takes its reset state and keeps it while the reset is held, whatever
comes; the session clock starts from 0 as the reset ends. That the session memory keeps its contents until the clear walk, that
the queue of commands stays, and that the count of free choices runs on is the model's choice (logs 5, 25, 30). So is that a RESET_END
which finds no reset held changes nothing (log 2). -/
def Obligations.ResetHoldsThePart : Prop :=
  ∀ s : State,
    exec .reset s = .next { State.reset with
      evp := { State.reset.evp with resetHeld := true }, smt := { State.reset.smt with table := s.smt.table },
      draws := s.draws, pending := s.pending }
    ∧ (s.evp.resetHeld = true →
        exec .resetEnd s = .next { s with evp := { s.evp with resetHeld := false }, clock := 0 }
        ∧ s.ingressReady = false ∧ s.egressValid = false
        ∧ ∀ c, c ≠ .reset → c ≠ .resetEnd → exec c s = .next s)
    ∧ (s.evp.resetHeld = false → exec .resetEnd s = .next s)

/-- CLEAR_WALK_VISIT, CLEAR_WALK_END, FORGET_WALK_VISIT and FORGET_WALK_END (R16, R17, R168, R129): a visit of the clear walk frees the
slot at the cursor and nothing else, and the walk ends once it has passed slot 65,535; ingress ready is low until then (R171). A visit
of a forget walk clears the installed mark of an entry of the group and changes nothing else; past slot 65,535 the walk ends, and a
claim that waited for it at its deadline enters ACTIVE in the same act. Where a witness is configured and neither other station is
LIVE, that entry brings NO_QUORUM, and every group is FENCED at once (R138, R140). -/
def Obligations.WalksPassTheTable : Prop :=
  (∀ (s : State) (c : Nat), s.evp.resetHeld = false → s.smt.clearWalk = some c →
      (c < 65536 → ∃ t, exec .clearWalkVisit s = .next t
        ∧ (∀ slot, t.entry slot = if slot.toNat = c then none else s.entry slot)
        ∧ t = { s with smt := { s.smt with table := t.smt.table, clearWalk := some (c + 1) } })
      ∧ (65536 ≤ c → exec .clearWalkEnd s = .next { s with smt := { s.smt with clearWalk := none } })
      ∧ s.ingressReady = false)
  ∧ (∀ (s : State) (g : Group) (c : Nat), s.evp.resetHeld = false → s.smt.forget.get g = some c →
      (c < 65536 → ∃ t, exec (.forgetWalkVisit g) s = .next t
        ∧ (∀ x, t.entry x = (s.entry x).map fun e =>
            if x.toNat = c ∧ e.group = g then { e with installed := false } else e)
        ∧ t = { s with smt := { s.smt with table := t.smt.table, forget := s.smt.forget.set g (some (c + 1)) } })
      ∧ (65536 ≤ c →
        ((∀ x, (s.group g).claim = some x → x.held = false) →
          exec (.forgetWalkEnd g) s = .next { s with smt := { s.smt with forget := s.smt.forget.set g none } })
        ∧ (∀ x, (s.group g).claim = some x → x.held = true →
            (s.witnessConfigured = false ∨ s.otherLive = true ∨ s.peerLive .s2 = true) →
          ∃ t, exec (.forgetWalkEnd g) s = .next t ∧ t.role g = .active ∧ (t.group g).fp = true
            ∧ (t.group g).claim = none ∧ t.group g.other = s.group g.other
            ∧ t.smt = { s.smt with
                forget := s.smt.forget.set g none
                takeover := s.smt.takeover.set g (some { cursor := 0, wait := .none }) }
            ∧ t.rpu = s.rpu ∧ t.tku = s.tku ∧ t.ppu = s.ppu)
        ∧ (∀ x, (s.group g).claim = some x → x.held = true → s.isMember = true → s.witnessConfigured = true →
            s.otherLive = false → s.peerLive .s2 = false → s.rcu.fence.any = false →
          ∃ t, exec (.forgetWalkEnd g) s = .next t ∧ t.rcu.fence = { s.rcu.fence with noQuorum := true }
            ∧ (t.group g).claim = none ∧ t.smt.forget.get g = some 0 ∧ t.smt.takeover.get g = none
            ∧ ∀ h, h = g ∨ (s.role h ≠ .dormant ∧ s.role h ≠ .fenced) → t.role h = .fenced ∧ (t.group h).fp = false)))

/-- INGRESS_RECORD_ARRIVAL (R171): words that arrive while the part is ready form records. The first word of a record takes one of the
64 places, with the words behind it up to the length it declares; words that come later join the record in progress, also while the
FIFO holds 64 records, until it is complete. Words that arrive together do what they do one after the other, so one arrival can bring
several records and a record can come in several arrivals. A part that is not ready takes no word; it is not ready while the FIFO holds
64 records of which the last is complete. -/
def Obligations.WordsFormRecords : Prop :=
  (∀ (s : State) (w : Word32) (ws : List Word32),
      (s.evp.resetHeld = false → s.smt.clearWalk = none → s.recordInProgress = false → s.evp.ingress.length < 64 →
        (w :: ws).length ≤ declaredLength w →
        exec (.ingressRecordArrival (w :: ws)) s
          = .next { s with evp := { s.evp with ingress := s.evp.ingress ++ [w :: ws] } })
      ∧ (∀ (before : List (List Word32)) (v : Word32) (vs : List Word32),
        s.evp.resetHeld = false → s.smt.clearWalk = none → s.evp.ingress = before ++ [v :: vs] →
        (v :: vs).length + (w :: ws).length ≤ declaredLength v →
        exec (.ingressRecordArrival (w :: ws)) s
          = .next { s with evp := { s.evp with ingress := before ++ [(v :: vs) ++ (w :: ws)] } })
      ∧ (s.ingressReady = false → exec (.ingressRecordArrival (w :: ws)) s = .next s)
      ∧ (∀ (before : List (List Word32)) (v : Word32) (vs : List Word32),
        s.evp.ingress = before ++ [v :: vs] → before.length = 63 → declaredLength v ≤ (v :: vs).length →
        s.ingressReady = false))
  ∧ (∀ (s : State) (first later : List Word32), ∃ t, exec (.ingressRecordArrival first) s = .next t
      ∧ exec (.ingressRecordArrival (first ++ later)) s = exec (.ingressRecordArrival later) t)

/-- PROFILE, accepted (R174, R175, R185, R80, R81, R36, R119): the configuration is fixed, each field read from its place in the five
words and held within its range, a value outside it taken as the nearer end; the pulse epoch and on a member the engine silence timer
start, each enabled lane leaves OFF for TRAINING, or DOWN where its monitor reports a fault, and a member's groups enter LISTEN for one
hold-down; a witness's roles stay as they are. The bits of the flags that no row names are not read, the model's choice (log 46). -/
def Obligations.ProfileConfigures : Prop :=
  (∀ (s : State) (ws : List Word32) (rest : List (List Word32)) (c : Profile),
    s.hasRecord (some .profile) ws rest → ws.length = 5 → s.profile = none → readProfile ws = c → s.mbi.inHand = none →
    (∀ y, (s.peer y).state ≠ .live) →
    ∃ t, exec .profileRecord s = .next t ∧ t.profile = some c ∧ t.evp.ingress = rest
      ∧ t.ppu = { s.ppu with epoch := some (s.clock + BitVec.ofNat 32 c.pulseInterval) }
      ∧ t.mbi.lfsr = (let x := c.incarnation + BitVec.ofNat 16 (4369 * (c.station.toNat + 1)); if x = 0 then 1 else x)
      ∧ (∀ l, t.lane l =
          if c.laneEnabled.get l then
            (s.lane l).enter (if (s.lane l).monitor = .noFault then .training else .down) s.clock
          else s.lane l)
      ∧ (c.station ≠ .s2 →
          (∀ g, t.group g = { (s.group g).enter .listen with
            listen := some (s.clock + BitVec.ofNat 32 (c.pulseInterval * c.missLimit)) })
          ∧ t.rcu.silence = some (s.clock + BitVec.ofNat 32 c.silenceLimit))
      ∧ (c.station = .s2 → t.rcu = s.rcu)
      ∧ t.smt = s.smt ∧ t.rpu = s.rpu ∧ t.wtu = s.wtu ∧ t.tku = s.tku ∧ t.clock = s.clock)
  ∧ (∀ w1 w2 w3 w4 w5 : Word32,
      let c := readProfile [w1, w2, w3, w4, w5]
      let byte (w : Word32) (n : Nat) : Nat := w.toNat / 256 ^ (3 - n) % 256
      let low16 (w : Word32) : Nat := w.toNat % 65536
      c.station.toNat = min 2 (byte w1 2) ∧ c.incarnation.toNat = w2.toNat / 65536
      ∧ c.witnessConfigured = w1.getLsbD 7 ∧ c.preempt = ⟨w1.getLsbD 6, w1.getLsbD 5⟩
      ∧ c.laneEnabled = ⟨w1.getLsbD 1 || !w1.getLsbD 0, w1.getLsbD 0⟩
      ∧ c.base.g0.toNat = max 1 (byte w2 2) ∧ c.base.g1.toNat = max 1 (byte w2 3)
      ∧ c.margin.toNat = max 1 (byte w3 0)
      ∧ c.missLimit = min 15 (max 3 (byte w3 1)) ∧ c.pulseInterval = min 1000 (max 10 (low16 w3))
      ∧ c.deadTime = min 200 (max 2 (byte w4 0))
      ∧ c.handoverTimeout
        = (if byte w4 1 = 1 then 250 else if byte w4 1 = 2 then 500 else if byte w4 1 = 3 then 1000 else 2000)
      ∧ c.silenceLimit = min 2000 (max 50 (low16 w4))
      ∧ c.transit = byte w5 0 ∧ c.grace = min 60 (max 1 (byte w5 1))
      ∧ 30 ≤ c.pulseInterval * c.missLimit ∧ c.pulseInterval * c.missLimit ≤ 15000)

/-- Refusals (R21 to R23, R26, R28, R34, R152, R173, R174): a record that fails the framing or a form test, or is of an unknown kind,
is refused with MALFORMED; before the PROFILE every other one but STATUS is refused with NOT_READY; a second PROFILE is refused with
PROFILE_LOCKED, its slot field 0 by the model's choice (log 45). For OPEN, UPDATE and CLOSE after the PROFILE the first failing check,
in order, gives the cause. A refusal changes nothing else. The kind, the parameter and every field of an OPEN and an UPDATE stand where
R182, R184 and R185 put them, and an OPEN or UPDATE is malformed exactly where its length is not the one its flags and family give or a
form test of R22 fails; an UPDATE suits its entry as check 4 of R26 says. The bits of the flags that no row names are not read, and an
OPEN of protocol 1 is taken whatever its destination port, the model's choices (logs 46 and 42); nothing is said of the zone that a
byte above 15 gives (log 9). -/
def Obligations.RecordsAreRefusedInOrder : Prop :=
  (∀ (s : State) (ws : List Word32) (rest : List (List Word32)),
      (s.hasRecord none ws rest →
        exec .malformedRecord s = .next (s.refuses rest (recordKindByte ws) 0 .malformed))
      ∧ (s.hasRecord (some .profile) ws rest →
        (ws.length ≠ 5 → exec .profileRecord s = .next (s.refuses rest 1 0 .malformed))
        ∧ (ws.length = 5 → s.profile ≠ none → exec .profileRecord s = .next (s.refuses rest 1 0 .profileLocked)))
      ∧ (s.hasRecord (some .open) ws rest →
        (readOpen ws = none → exec .openRecord s = .next (s.refuses rest 2 (recordParameter ws) .malformed))
        ∧ (readOpen ws ≠ none → s.profile = none →
          exec .openRecord s = .next (s.refuses rest 2 (recordParameter ws) .notReady)))
      ∧ (s.hasRecord (some .update) ws rest →
        (readUpdate ws = none → exec .updateRecord s = .next (s.refuses rest 3 (recordParameter ws) .malformed))
        ∧ (readUpdate ws ≠ none → s.profile = none →
          exec .updateRecord s = .next (s.refuses rest 3 (recordParameter ws) .notReady)))
      ∧ (s.hasRecord (some .close) ws rest →
        (ws.length ≠ 1 → exec .closeRecord s = .next (s.refuses rest 4 (recordParameter ws) .malformed))
        ∧ (ws.length = 1 → s.profile = none →
          exec .closeRecord s = .next (s.refuses rest 4 (recordParameter ws) .notReady)))
      ∧ (s.hasRecord (some .alive) ws rest →
        (ws.length ≠ 1 → exec .aliveRecord s = .next (s.refuses rest 5 0 .malformed))
        ∧ (ws.length = 1 → s.profile = none → exec .aliveRecord s = .next (s.refuses rest 5 0 .notReady)))
      ∧ (s.hasRecord (some .release) ws rest → s.releaseRoom ws = true →
        (ws.length ≠ 1 → exec .releaseRecord s = .next (s.refuses rest 6 0 .malformed))
        ∧ (ws.length = 1 → s.profile = none → exec .releaseRecord s = .next (s.refuses rest 6 0 .notReady)))
      ∧ (s.hasRecord (some .handover) ws rest →
        (ws.length ≠ 1 ∨ 2 ≤ (recordParameter ws).toNat →
          exec .handoverRecord s = .next (s.refuses rest 7 0 .malformed))
        ∧ (ws.length = 1 → (recordParameter ws).toNat < 2 → s.profile = none →
          exec .handoverRecord s = .next (s.refuses rest 7 0 .notReady))))
  ∧ (∀ (s : State) (ws : List Word32) (rest : List (List Word32)), s.profile ≠ none →
      (∀ x, s.hasRecord (some .open) ws rest → readOpen ws = some x →
        (s.self = .s2 → exec .openRecord s = .next (s.refuses rest 2 (recordParameter ws) .notActive))
        ∧ (s.self ≠ .s2 →
          (regionOf (recordParameter ws) ≠ s.self →
            exec .openRecord s = .next (s.refuses rest 2 (recordParameter ws) .badSlot))
          ∧ (regionOf (recordParameter ws) = s.self → s.entry (recordParameter ws) ≠ none →
            exec .openRecord s = .next (s.refuses rest 2 (recordParameter ws) .slotBusy))
          ∧ (regionOf (recordParameter ws) = s.self → s.entry (recordParameter ws) = none → s.role x.group ≠ .active →
            exec .openRecord s = .next (s.refuses rest 2 (recordParameter ws) .notActive))))
      ∧ (∀ u, s.hasRecord (some .update) ws rest → readUpdate ws = some u →
        (s.self = .s2 → exec .updateRecord s = .next (s.refuses rest 3 u.slot .notActive))
        ∧ (s.self ≠ .s2 →
          ((∀ e, s.entry u.slot = some e → e.state.live = false) →
            exec .updateRecord s = .next (s.refuses rest 3 u.slot .noSession))
          ∧ (∀ e, s.entry u.slot = some e → e.state.live = true →
            ((s.role e.group).serving = false → exec .updateRecord s = .next (s.refuses rest 3 u.slot .notActive))
            ∧ ((s.role e.group).serving = true → updateSuits u e = false →
              exec .updateRecord s = .next (s.refuses rest 3 u.slot .malformed)))))
      ∧ (s.hasRecord (some .close) ws rest → ws.length = 1 →
        (s.self = .s2 → exec .closeRecord s = .next (s.refuses rest 4 (recordParameter ws) .notActive))
        ∧ (s.self ≠ .s2 →
          ((∀ e, s.entry (recordParameter ws) = some e → e.state.live = false) →
            exec .closeRecord s = .next (s.refuses rest 4 (recordParameter ws) .noSession))
          ∧ (∀ e, s.entry (recordParameter ws) = some e → e.state.live = true → (s.role e.group).serving = false →
            exec .closeRecord s = .next (s.refuses rest 4 (recordParameter ws) .notActive)))))
  ∧ (∀ ws : List Word32,
      (recordKindByte ws).toNat = recordByte ws 0 0 ∧ recordParameter ws = recordLow ws 0
      ∧ recordKind ws = match recordByte ws 0 0 with
        | 1 => some .profile | 2 => some .open | 3 => some .update | 4 => some .close
        | 5 => some .alive | 6 => some .release | 7 => some .handover | 8 => some .status
        | _ => none)
  ∧ (∀ ws : List Word32,
      let v6 := (recordWord ws 1).getLsbD 31
      let hasNat := (recordWord ws 1).getLsbD 30
      let hasTcp := (recordWord ws 1).getLsbD 29
      let hasPorts := (recordWord ws 1).getLsbD 28
      let protocol := recordByte ws 1 1
      let portsAt := if v6 then 11 else 5
      let natAt := if hasPorts then portsAt + 1 else portsAt
      let tcpAt := if hasNat then (if v6 then natAt + 5 else natAt + 2) else natAt
      (readOpen ws ≠ none ↔
        ws.length = (if hasTcp then tcpAt + 7 else tcpAt)
        ∧ (hasPorts = true ↔ protocol = 1 ∨ protocol = 6 ∨ protocol = 17)
        ∧ (hasTcp = true ↔ protocol = 6)
        ∧ (hasNat = true → (recordByte ws natAt 0 = 1 ∨ recordByte ws natAt 0 = 2)
            ∧ (recordByte ws natAt 1 ≠ 0 ↔ hasPorts = true))
        ∧ (hasTcp = true → 1 ≤ recordByte ws 1 3 ∧ recordByte ws 1 3 ≤ 3))
      ∧ (∀ x, readOpen ws = some x →
        x.group = (if (recordWord ws 1).getLsbD 24 then .g1 else .g0) ∧ x.lifetime = recordHigh ws 2
        ∧ x.key.protocol.toNat = protocol ∧ (recordByte ws 1 2 ≤ 15 → x.key.zone.toNat = recordByte ws 1 2)
        ∧ x.key.addrs
          = (if v6 then .v6 (recordQuad ws 3) (recordQuad ws 7) else .v4 (recordWord ws 3) (recordWord ws 4))
        ∧ x.key.ports = (if hasPorts then some { src := recordHigh ws portsAt, dst := recordLow ws portsAt } else none)
        ∧ x.nat = (if hasNat then some (recordNat ws natAt v6) else none)
        ∧ x.tcp = (if hasTcp then some (recordTcp ws tcpAt (trackingNamed (recordByte ws 1 3))) else none)))
  ∧ (∀ ws : List Word32,
      let v6 := (recordWord ws 1).getLsbD 31
      let hasTcp := (recordWord ws 1).getLsbD 29
      let item := recordByte ws 1 0 % 4
      let tcpAt := if item = 1 then (if v6 then 7 else 4) else 2
      (readUpdate ws ≠ none ↔
        ws.length = (if hasTcp then tcpAt + 7 else tcpAt)
        ∧ (item = 1 → recordByte ws 2 0 = 1 ∨ recordByte ws 2 0 = 2)
        ∧ (hasTcp = true → 1 ≤ recordByte ws 1 1 ∧ recordByte ws 1 1 ≤ 3))
      ∧ (∀ u, readUpdate ws = some u →
        u.slot = recordLow ws 0
        ∧ u.lifetime = (if (recordWord ws 1).getLsbD 30 then some (recordLow ws 1) else none)
        ∧ u.nat = (if item = 0 then .keep else if item = 1 then .replace (recordNat ws 2 v6) else .remove)
        ∧ u.tcp = (if hasTcp then some (recordTcp ws tcpAt (trackingNamed (recordByte ws 1 1))) else none)))
  ∧ (∀ (u : UpdateRecord) (e : Entry), updateSuits u e = true ↔
      (u.tcp ≠ none → e.key.protocol.toNat = 6)
      ∧ (∀ n, u.nat = .replace n →
        ((∃ a, n.addr = .v6 a) ↔ ∃ a b, e.key.addrs = .v6 a b) ∧ (n.port = none ↔ e.key.ports = none)))

/-- OPEN, accepted (R23 to R25, R8): the FREE slot is filled, due for transmission, and nothing else changes. -/
def Obligations.OpenFillsAFreeSlot : Prop :=
  ∀ (s : State) (ws : List Word32) (rest : List (List Word32)) (x : Session),
    s.hasRecord (some .open) ws rest → readOpen ws = some x → s.isMember = true → regionOf (recordParameter ws) = s.self →
    s.entry (recordParameter ws) = none → s.role x.group = .active → s.listsAgree = true → s.smt.clearWalk = none →
    ∃ t, exec .openRecord s = .next t
      ∧ (∀ slot, t.entry slot =
          if slot = recordParameter ws then
            some { state := .dirty, group := x.group, key := x.key, nat := x.nat, tcp := x.tcp.map clampTcp,
                   lifetime := if x.lifetime = 0 then 1 else x.lifetime, refTick := s.clock, ageOffset := 0, version := 1,
                   peerMayHold := false, attempts := 0, installed := true, noted := false }
          else s.entry slot)
      ∧ t.ownedCount = s.ownedCount + 1
      ∧ t = { s.leaves rest with
          smt := { s.smt with table := t.smt.table }
          rpu := { s.rpu with sendList := s.rpu.sendList ++ [recordParameter ws] } }

/-- UPDATE, accepted (R26, R27, R25): content, age and state of the owned live entry; a CLEAN entry is due again at the tail of the
Send List, any other keeps its place, and nothing else changes. -/
def Obligations.UpdateChangesTheEntry : Prop :=
  ∀ (s : State) (ws : List Word32) (rest : List (List Word32)) (u : UpdateRecord) (e : Entry),
    s.hasRecord (some .update) ws rest → readUpdate ws = some u → s.isMember = true → s.entry u.slot = some e →
    e.state.live = true → (s.role e.group).serving = true → updateSuits u e = true → s.listsAgree = true →
    ∃ t, exec .updateRecord s = .next t
      ∧ (∀ slot, t.entry slot =
          if slot = u.slot then
            some { e with
              lifetime := match u.lifetime with
                | some l => if l = 0 then 1 else l
                | none => e.lifetime
              nat := match u.nat with
                | .keep => e.nat
                | .replace n => some n
                | .remove => none
              tcp := match u.tcp with
                | some x => some (clampTcp x)
                | none => e.tcp
              refTick := s.clock
              ageOffset := 0
              state := if e.state = .sent then .changed else if e.state = .clean then .dirty else e.state
              version := if e.state = .sent ∨ e.state = .clean then e.version + 1 else e.version }
          else s.entry slot)
      ∧ t = { s.leaves rest with
          smt := { s.smt with table := t.smt.table }
          rpu := { s.rpu with
            sendList := if e.state = .clean then s.rpu.sendList ++ [u.slot] else s.rpu.sendList } }

/-- CLOSE, accepted (R28 to R30): the owned live entry ends as the table of R29 gives, with its mark cleared; a group that is
YIELDING and has flushed then completes its yielding (R134). Nothing else changes. -/
def Obligations.CloseEndsTheEntry : Prop :=
  ∀ (s : State) (ws : List Word32) (rest : List (List Word32)) (e : Entry),
    s.hasRecord (some .close) ws rest → ws.length = 1 → s.isMember = true → s.entry (recordParameter ws) = some e →
    e.state.live = true → (s.role e.group).serving = true → s.listsAgree = true →
    ∃ u : State, exec .closeRecord s = .next { u with toPart := u.toPart.flushTests }
      ∧ (∀ slot, u.entry slot =
          if slot = recordParameter ws then
            if e.state = .dirty ∧ e.peerMayHold = false then none
            else some { e with
              state := if e.state = .clean ∨ e.state = .dirty then .dropDue else .dropWait
              version := e.version + 1
              installed := false }
          else s.entry slot)
      ∧ u = { s.leaves rest with
          smt := { s.smt with table := u.smt.table }
          rpu := { s.rpu with
            sendList :=
              if e.state = .clean then s.rpu.sendList ++ [recordParameter ws]
              else if e.state = .dirty ∧ e.peerMayHold = false then
                s.rpu.sendList.filter fun x => decide (x ≠ recordParameter ws)
              else s.rpu.sendList } }

/-- ALIVE (R35, R36, R137, R141): on a member the health, at most 100, becomes the pending health and the engine silence timer
restarts; ENGINE_SILENT clears, and where it was the last cause every FENCED group goes to LISTEN for one hold-down, and on from it
at once where the other member serves or claims the group (R119): to STANDBY, or to a PREEMPT claim where its conditions hold. A
witness takes it and changes nothing. -/
def Obligations.AliveRestartsTheSilenceTimer : Prop :=
  ∀ (s : State) (ws : List Word32) (rest : List (List Word32)) (c : Profile),
    s.hasRecord (some .alive) ws rest → ws.length = 1 → s.profile = some c →
    (c.station = .s2 → exec .aliveRecord s = .next (s.leaves rest))
    ∧ (c.station ≠ .s2 → ∃ t, exec .aliveRecord s = .next t
      ∧ t.ppu = { s.ppu with
          pendingHealth := BitVec.ofNat 8 (min 100 ((recordParameter ws).toNat % 256)) }
      ∧ t.rcu.silence = some (s.clock + BitVec.ofNat 32 c.silenceLimit)
      ∧ t.rcu.fence = { s.rcu.fence with engineSilent := false }
      ∧ (s.rcu.fence.any = false ∨ t.rcu.fence.any = true →
          t = { s.leaves rest with ppu := t.ppu, rcu := { s.rcu with silence := t.rcu.silence, fence := t.rcu.fence } })
      ∧ (s.rcu.fence.any = true → t.rcu.fence.any = false → ∀ g, s.role g = .fenced →
          let busy := s.standing g = some .active ∨ s.standing g = some .yielding ∨ s.standing g = some .claiming
          (s.otherLive = false ∨ ¬ busy → t.role g = .listen
            ∧ (t.group g).listen = some (s.clock + BitVec.ofNat 32 (c.pulseInterval * c.missLimit)))
          ∧ (s.otherLive = true → busy → (t.group g).listen = none
            ∧ t.role g = if s.preemptConditions g then .claiming else .standby))
      ∧ t.smt = s.smt ∧ t.rpu = s.rpu ∧ t.tku = s.tku ∧ t.wtu = s.wtu)

/-- RELEASE (R164 to R166): after the PROFILE one of a buffer that is not POSTED with its emitted flag set is refused with
BAD_BUFFER, and a witness's with NOT_ACTIVE. An accepted one frees the buffer; where its void flag is clear, the slots noted as
taken join the Revoke List and every other slot whose entry is live, of the buffer's group and ACTIVE here gets its mark; a takeover
walk that waits takes its waiting visit, or its waiting end, in the same act, unless it waits for the release of another buffer, one that
holds its slot (R162), and of two that wait either may be first (log 8).
One that waits for room in the Revoke List has no effect yet (R172). -/
def Obligations.ReleaseMarksOrRevokes : Prop :=
  ∀ (s : State) (ws : List Word32) (rest : List (List Word32)),
    s.hasRecord (some .release) ws rest → ws.length = 1 → s.profile ≠ none →
    (s.self = .s2 → exec .releaseRecord s = .next (s.refuses rest 6 0 .notActive))
    ∧ (s.self ≠ .s2 →
      ((8 ≤ (recordParameter ws).toNat
          ∨ ∃ i : Fin 8, i.val = (recordParameter ws).toNat
              ∧ ((s.buffer i).isFree = true ∨ (∃ g recs, s.buffer i = .filling g recs)
                ∨ ∃ g recs final void, s.buffer i = .posted g recs final false void)) →
        exec .releaseRecord s = .next (s.refuses rest 6 0 .badBuffer))
      ∧ (∀ (i : Fin 8) (g : Group) (recs : List BufferRec) (final void : Bool),
          i.val = (recordParameter ws).toNat → s.buffer i = .posted g recs final true void →
          (s.releaseRoom ws = false → exec .releaseRecord s = .next s)
          ∧ (s.releaseRoom ws = true → s.bufferSlotsOk = true →
            ∃ t : State,
              (∀ slot, t.entry slot = (s.entry slot).map fun e =>
                  if void = false ∧ (∃ r ∈ recs, r.record.slot = slot ∧ r.taken = false) ∧ e.state.live = true
                      ∧ e.group = g ∧ s.role g = .active then { e with installed := true }
                  else e)
              ∧ t = { s.leaves rest with
                  smt := { s.smt with table := t.smt.table }
                  rpu := { s.rpu with
                    revoke := if void then s.rpu.revoke
                      else s.rpu.revoke ++ ((recs.filter fun r => r.taken && decide (r.record.slot ∉ s.rpu.revoke)).map
                        fun r => r.record.slot) }
                  tku := { s.tku with buffers := s.tku.buffers.set i .free } }
              ∧ (s.walkIsWaiting .g0 = false → s.walkIsWaiting .g1 = false → exec .releaseRecord s = .next t)
              ∧ (∀ (h : Group) (w : TakeoverWalk), s.smt.takeover.get h = some w → w.waiting = true →
                  s.walkIsWaiting h.other = false →
                  let held := w.wait = .release ∧ t.slotBuffered (BitVec.ofNat 16 w.cursor) = true
                  (held → exec .releaseRecord s = .next t)
                  ∧ (¬ held → exec .releaseRecord s = exec (if w.cursor < 65536 then .takeoverWalkVisit h else .takeoverWalkEnd h)
                      (t.withPart (t.toPart.walkTo h w.cursor))))
              ∧ (s.walkIsWaiting .g0 = true → s.walkIsWaiting .g1 = true → ∃ h : Group,
                  exec .releaseRecord s = .next (t.withPart ((t.toPart.drawn.retryWalk h).retryWalk h.other))))))

/-- HANDOVER (R133, R134, R130): after the PROFILE one of a group that is not ACTIVE is refused with NOT_ACTIVE, and one without
a LIVE member whose standing is STANDBY with NO_PEER. An accepted one makes the exit from ACTIVE: FPg falls, the forget walk starts, the
takeover walk stops. While outstanding entries remain, the group is YIELDING with a YIELD pending and the handover timer running. With none
the flush is complete at once: in the same act the YIELD is queued and the group is in STANDBY, where its vacancy timer starts (R120).
Where that frees a FILLING buffer, the other group's takeover walk, if it waits, takes its waiting visit or end in the same act, unless
it waits for the release of another buffer, one that holds its slot (R162, R166). -/
def Obligations.HandoverYields : Prop :=
  ∀ (s : State) (ws : List Word32) (rest : List (List Word32)) (g : Group),
    s.hasRecord (some .handover) ws rest → ws.length = 1 → groupOfNat (recordParameter ws).toNat = some g →
    s.profile ≠ none →
    (s.role g ≠ .active → exec .handoverRecord s = .next (s.refuses rest 7 0 .notActive))
    ∧ (s.role g = .active → (s.otherLive = false ∨ s.standing g ≠ some .standby) →
        exec .handoverRecord s = .next (s.refuses rest 7 0 .noPeer))
    ∧ (s.role g = .active → s.otherLive = true → s.standing g = some .standby →
        ∃ t : State,
          (s.walkIsWaiting g.other = false ∨ s.fillingBuffer g = none → exec .handoverRecord s = .next t)
          ∧ (∀ w, s.smt.takeover.get g.other = some w → w.waiting = true → s.fillingBuffer g ≠ none →
              let held := w.wait = .release ∧ t.slotBuffered (BitVec.ofNat 16 w.cursor) = true
              (held → exec .handoverRecord s = .next t)
              ∧ (¬ held → exec .handoverRecord s
                = exec (if w.cursor < 65536 then .takeoverWalkVisit g.other else .takeoverWalkEnd g.other)
                    (t.withPart (t.toPart.walkTo g.other w.cursor))))
          ∧ (s.outstanding g ≠ 0 → t.group g = { (s.group g).enter .yielding with
              handover := some (s.clock + BitVec.ofNat 32 s.handoverTimeout), pendingFrame := some .yield })
          ∧ (s.outstanding g = 0 →
              t.group g = { (s.group g).enter .standby with
                vacancy := .running (s.clock + BitVec.ofNat 32 s.pulseInterval) }
              ∧ (t.group g).pendingFrame = none ∧ (t.group g).handover = none
              ∧ t.mbi.yields = (s.mbi.yields.filter fun x => decide (x ≠ g)) ++ [g]
              ∧ (s.evp.roleMarks.get g = none → t.evp.egress
                  = s.evp.egress ++ [.role g .yielding .handover false, .role g .standby .flushed false]))
          ∧ (t.group g).fp = false
          ∧ t.group g.other = s.group g.other
          ∧ t.smt = { s.smt with takeover := s.smt.takeover.set g none, forget := s.smt.forget.set g (some 0) }
          ∧ t.tku = { s.tku with buffers := s.tku.buffers.map (Buffer.leave g) }
          ∧ t.evp.ingress = rest ∧ t.rpu = s.rpu ∧ t.ppu = s.ppu ∧ t.rcu.fence = s.rcu.fence ∧ t.clock = s.clock)

/-- STATUS (R181): the answer, placed in the same act, reports the part as it stands, and nothing else changes. The other stations it
reports are those that are not its own number, which reads 0 before the PROFILE; that they are then 1 and 2 is the model's reading
(log 39). A witness-configured flag that station 0 or 1 has not reported is given as 0, the model's choice (log 41). -/
def Obligations.StatusReportsThePart : Prop :=
  ∀ (s : State) (ws : List Word32) (rest : List (List Word32)), s.hasRecord (some .status) ws rest →
    (ws.length ≠ 1 → exec .statusRecord s = .next (s.refuses rest 8 0 .malformed))
    ∧ (ws.length = 1 → ∃ r : StatusReport,
      exec .statusRecord s
        = .next { s with evp := { s.evp with ingress := rest, egress := s.evp.egress ++ [.status r] } }
      ∧ r.profileTaken = s.profile.isSome ∧ r.station = s.self
      ∧ (∀ g, r.roles.get g = s.role g) ∧ r.fence = s.rcu.fence ∧ r.latch = s.rcu.latch
      ∧ (∀ l, r.lanes.get l = (s.lane l).state) ∧ r.workingLane = s.mbi.workingLane
      ∧ r.pauseFlag = s.rpu.pauseFlag ∧ r.refresh = s.smt.refreshWalk.isSome
      ∧ (∀ g, r.takeover.get g = (s.smt.takeover.get g).isSome) ∧ (∀ g, r.forget.get g = (s.smt.forget.get g).isSome)
      ∧ r.lowPeer.station ≠ s.self ∧ r.highPeer.station ≠ s.self ∧ r.lowPeer.station.toNat < r.highPeer.station.toNat
      ∧ (∀ x, x = r.lowPeer ∨ x = r.highPeer →
          x.state = (s.peer x.station).state ∧ x.incarnation = (s.peer x.station).incarnation
          ∧ x.witnessConfigured = (decide (x.station ≠ .s2) && (s.peer x.station).witnessConfigured.getD false))
      ∧ (s.smt.clearWalk = none →
          r.owned = (s.smt.table.filter fun x => x.2.state.owned).length
          ∧ r.shadow = (s.smt.table.filter fun x => !x.2.state.owned).length)
      ∧ r.sendLength = s.rpu.sendList.length ∧ r.inFlightLength = s.rpu.inFlight.length)

/-- EGRESS_RECORD_TAKEN, REVOKED and BATCH (R76, R163, R172, R178 to R180), and how a notice is placed. The head leaves, and the freed
place goes to the first mark in the order ROLE 0, ROLE 1, PEER with the lower station first, LANE A, LANE B, as a notice of the state in
force; that mark alone is cleared. With no mark set, a place that has just opened to general records goes to the record in hand: it is
taken as its own command takes it (R172), its answer takes the place, and one taken without an answer leaves the place, ahead of any
notice it has brought, to the Revoke List, else to the oldest POSTED buffer, as an empty ingress FIFO does; a record in hand that waits
for room in the Revoke List is passed over. With fewer than 56 records in the FIFO a REVOKED record takes the oldest slots, up to 32, off
the Revoke List; with the list empty, a BATCH record carries the oldest POSTED buffer not yet emitted, and with slots in it no BATCH is
placed; with nothing to carry neither changes anything (log 2). That only the place at which the FIFO comes down to 55 records is given
so, and that a record taken without an answer passes it on, is the model's reading (log 19). A notice whose subject holds a mark, or
that finds 64 records, coalesces into the mark: of a ROLE notice it keeps the last cause, whether a coalesced change left ACTIVE, and
whether a later one came back to it (R180). -/
def Obligations.EgressPlacesAreGivenInOrder : Prop :=
  (∀ (s : State) (r : EgressRecord) (rest : List EgressRecord), s.evp.resetHeld = false → s.evp.egress = r :: rest →
      (∀ (g : Group) (m : RoleMark), s.evp.roleMarks.get g = some m → (g = .g1 → s.evp.roleMarks.g0 = none) →
        exec .egressRecordTaken s = .next { s with evp := { s.evp with
          egress := rest ++ [.role g (s.role g) m.cause m.skipped], roleMarks := s.evp.roleMarks.set g none } })
      ∧ (s.evp.roleMarks = .both none →
        (∀ y : Station, s.evp.peerMarks.get y = true →
          (∀ z : Station, z.toNat < y.toNat → s.evp.peerMarks.get z = false) →
          exec .egressRecordTaken s = .next { s with evp := { s.evp with
            egress := rest ++ [.peer y (s.peer y).state (s.peer y).incarnation],
            peerMarks := s.evp.peerMarks.set y false } })
        ∧ (s.evp.peerMarks = .all false → ∀ l : Lane, s.evp.laneMarks.get l = true →
          (l = .b → s.evp.laneMarks.a = false) →
          exec .egressRecordTaken s = .next { s with evp := { s.evp with
            egress := rest ++ [.lane l (s.lane l).state], laneMarks := s.evp.laneMarks.set l false } })))
  ∧ (∀ (s : State) (r : EgressRecord) (rest : List EgressRecord), s.evp.resetHeld = false → s.evp.egress = r :: rest →
      s.evp.roleMarks = .both none → s.evp.peerMarks = .all false → s.evp.laneMarks = .both false →
      (rest.length ≠ 55 → exec .egressRecordTaken s = .next { s with evp := { s.evp with egress := rest } })
      ∧ (rest.length = 55 →
        (∀ (ws : List Word32) (later : List (List Word32)),
          s.evp.ingress = ws :: later → recordComplete ws = true → recordKind ws = none →
          exec .egressRecordTaken s = .next { s with evp := { s.evp with
            ingress := later, egress := rest ++ [.refused (recordKindByte ws) 0 .malformed] } })
        ∧ (∀ (ws : List Word32) (later : List (List Word32)) (k : IngressKind),
          s.evp.ingress = ws :: later → recordComplete ws = true → recordKind ws = some k →
          (k = .release → s.releaseRoom ws = true) →
          ∃ t, exec k.command { s with evp := { s.evp with egress := rest } } = .next t
            ∧ (∀ a, a.isAnswer = true → t.evp.egress = rest ++ [a] → exec .egressRecordTaken s = .next t)
            ∧ (∀ notices, (∀ x ∈ notices, x.isAnswer = false) → t.evp.egress = rest ++ notices → notices.length < 9 →
              (t.rpu.revoke ≠ [] → exec .egressRecordTaken s = .next { t with
                evp := { t.evp with egress := rest ++ .revoked (t.rpu.revoke.take 32) :: notices }
                rpu := { t.rpu with revoke := t.rpu.revoke.drop 32 } })
              ∧ (∀ (i : Fin 8) (order : List (Fin 8)) (g : Group) (recs : List BufferRec) (final emitted void : Bool)
                  (c : Profile),
                t.rpu.revoke = [] → t.tku.postOrder = i :: order → t.buffer i = .posted g recs final emitted void →
                t.profile = some c →
                exec .egressRecordTaken s = .next { t with
                  evp := { t.evp with
                    egress := rest ++ .batch i g c.grace final (recs.map fun x => x.record) :: notices }
                  tku := { buffers := t.tku.buffers.set i (.posted g recs final true void), postOrder := order } })
              ∧ (t.rpu.revoke = [] → t.tku.postOrder = [] → exec .egressRecordTaken s = .next t)))
        ∧ ((s.evp.ingress = [] ∨ ∃ ws later, s.evp.ingress = ws :: later ∧
              (recordComplete ws = false ∨ (recordKind ws = some .release ∧ s.releaseRoom ws = false))) →
          (s.rpu.revoke ≠ [] →
            exec .egressRecordTaken s = .next { s with
              evp := { s.evp with egress := rest ++ [.revoked (s.rpu.revoke.take 32)] }
              rpu := { s.rpu with revoke := s.rpu.revoke.drop 32 } })
          ∧ (∀ (i : Fin 8) (order : List (Fin 8)) (g : Group) (recs : List BufferRec) (final emitted void : Bool)
              (c : Profile),
            s.rpu.revoke = [] → s.tku.postOrder = i :: order → s.buffer i = .posted g recs final emitted void →
            s.profile = some c →
            exec .egressRecordTaken s = .next { s with
              evp := { s.evp with
                egress := rest ++ [.batch i g c.grace final (recs.map fun x => x.record)] }
              tku := { buffers := s.tku.buffers.set i (.posted g recs final true void), postOrder := order } })
          ∧ (s.rpu.revoke = [] → s.tku.postOrder = [] →
            exec .egressRecordTaken s = .next { s with evp := { s.evp with egress := rest } }))))
  ∧ (∀ s : State, s.evp.resetHeld = false →
      (s.evp.egress.length < 56 →
        (s.rpu.revoke ≠ [] → exec .revokedRecord s = .next { s with
          evp := { s.evp with egress := s.evp.egress ++ [.revoked (s.rpu.revoke.take 32)] }
          rpu := { s.rpu with revoke := s.rpu.revoke.drop 32 } })
        ∧ (s.rpu.revoke = [] → exec .revokedRecord s = .next s)
        ∧ (∀ (i : Fin 8) (order : List (Fin 8)) (g : Group) (recs : List BufferRec) (final emitted void : Bool) (c : Profile),
            s.rpu.revoke = [] → s.tku.postOrder = i :: order → s.buffer i = .posted g recs final emitted void →
            s.profile = some c →
            exec .batchRecord s = .next { s with
              evp := { s.evp with egress := s.evp.egress ++ [.batch i g c.grace final (recs.map fun x => x.record)] }
              tku := { buffers := s.tku.buffers.set i (.posted g recs final true void), postOrder := order } })
        ∧ (s.rpu.revoke ≠ [] ∨ s.tku.postOrder = [] → exec .batchRecord s = .next s))
      ∧ (56 ≤ s.evp.egress.length → exec .revokedRecord s = .next s ∧ exec .batchRecord s = .next s))
  ∧ (∀ (p : Part) (g : Group) (old new : Role) (cause : RoleCause),
      let marked (m : RoleMark) : Part := { p with evp := { p.evp with roleMarks := p.evp.roleMarks.set g (some m) } }
      (∀ m, p.evp.roleMarks.get g = some m → p.roleNotice g old new cause = marked
        { cause := cause, leftActive := m.leftActive || decide (old = .active),
          skipped := m.skipped || (m.leftActive && decide (new = .active)) })
      ∧ (p.evp.roleMarks.get g = none →
        (p.evp.egress.length < 64 → p.roleNotice g old new cause
          = { p with evp := { p.evp with egress := p.evp.egress ++ [.role g new cause false] } })
        ∧ (64 ≤ p.evp.egress.length → p.roleNotice g old new cause
          = marked { cause := cause, leftActive := decide (old = .active), skipped := false }))
      ∧ (p.setRole g new cause).evp = (p.roleNotice g (p.role g) new cause).evp)
  ∧ (∀ (p : Part) (y : Station) (l : Lane),
      (p.evp.peerMarks.get y = true ∨ 64 ≤ p.evp.egress.length →
        p.peerNotice y = { p with evp := { p.evp with peerMarks := p.evp.peerMarks.set y true } })
      ∧ (p.evp.peerMarks.get y = false → p.evp.egress.length < 64 → p.peerNotice y
        = { p with evp := { p.evp with egress := p.evp.egress ++ [.peer y (p.peer y).state (p.peer y).incarnation] } })
      ∧ (p.evp.laneMarks.get l = true ∨ 64 ≤ p.evp.egress.length →
        p.laneNotice l = { p with evp := { p.evp with laneMarks := p.evp.laneMarks.set l true } })
      ∧ (p.evp.laneMarks.get l = false → p.evp.egress.length < 64 → p.laneNotice l
        = { p with evp := { p.evp with egress := p.evp.egress ++ [.lane l (p.lane l).state] } }))

/-- The first valid frame of a lane in TRAINING (R82, R86, R93, R95, R100), of any of the eight kinds and of any sender: it takes the lane to
UP, starts its health window and brings a LANE notice, there is a working lane, an ALIGN in hand for the lane is abandoned, and the frame
is then handed up as on a lane that was UP. An ALIGN carries nothing further, so on a lane UP or DEGRADED only the header step of its
LIVE sender is left. -/
def Obligations.AlignBringsALaneUp : Prop :=
  (∀ (s : State) (l : Lane) (rx : Reception) (f : Frame), s.evp.resetHeld = false → s.takesFrom l rx = true →
      judge rx = .valid f → (s.lane l).state = .training →
      exec (f.content.kind.command l rx) s = exec (f.content.kind.command l rx) (s.withPart (s.laneTo l .up))
      ∧ ∃ t, exec (f.content.kind.command l rx) s = .next t
        ∧ t.lane l = { (s.lane l) with
            state := .up, windowEnd := some (s.clock + 1000), badCount := 0, lastValid := some s.clock,
            quietElapsed := false, retrain := none, alignMark := none, alignDue := false }
        ∧ ((s.laneUsable l.other && s.quietFor l.other) = false → t.lane l.other = s.lane l.other)
        ∧ t.mbi.workingLane.isSome = true
        ∧ (s.evp.laneMarks.get l = false → s.evp.egress.length < 64 →
            (s.evp.egress ++ [.lane l .up]) <+: t.evp.egress)
        ∧ (∀ h, s.mbi.inHand = some h → h.frame = .align l → h.lane = l → h.secondCopy = false → t.mbi.inHand = none))
  ∧ ∀ (s : State) (l : Lane) (rx : Reception) (y : Station),
    (s.hears l rx y .align → exec (.alignFrame l rx) s = .next (s.withPart (s.afterHeader l y none)))
    ∧ (∀ inc, s.evp.resetHeld = false → s.takesFrom l rx = true → (s.lane l).state = .training →
        (s.laneUsable l.other && s.quietFor l.other) = false → s.mbi.inHand = none → y ≠ s.self →
        (s.peer y).state = .live → (s.peer y).incarnation = some inc →
        judge rx = .valid { sender := y, incarnation := inc, content := .align } →
        ∃ t, exec (.alignFrame l rx) s = .next t
          ∧ t.lane l = { (s.lane l) with
              state := .up, windowEnd := some (s.clock + 1000), badCount := 0, lastValid := some s.clock,
              quietElapsed := false, retrain := none, alignMark := none, alignDue := false }
          ∧ t.lane l.other = s.lane l.other
          ∧ t.mbi.workingLane.isSome = true
          ∧ (s.evp.laneMarks.get l = false → s.evp.egress.length < 64 →
              t.evp = { s.evp with egress := s.evp.egress ++ [.lane l .up] })
          ∧ t.ppu = (s.afterHeader l y none).ppu
          ∧ t.smt = s.smt ∧ t.rpu = s.rpu ∧ t.rcu = s.rcu ∧ t.wtu = s.wtu ∧ t.tku = s.tku ∧ t.clock = s.clock)

/-- The header step (R110, R112, R115, R57, R58, R74, R94), on an ALIGN, whose content goes nowhere: first contact, return and
rebirth by what the Peer Record was and by the frame's incarnation, with the PEER notice. On a member a first contact with the other
member, or its rebirth, starts the refresh walk, which clears every note (R20), and its rebirth empties the Receipt Queue; a rebirth
taken while its record was LIVE returns the In-Flight records as a loss does (R58, R55, R47). A rebirth sets the rebirth marks (R116)
and forgets the claim number last contested (log 32); a VACANT claim then open fails with no hold-off (R124). A record that becomes
LIVE clears NO_QUORUM, and where that was the last cause the FENCED groups go to LISTEN (R137, R141). On a witness a rebirth makes the
answer memory of that member absent in both Vote Records and leaves the grants; a first contact or a return leaves the Vote Records
(R150). -/
def Obligations.HeaderStepFollowsThePeerRecord : Prop :=
  ∀ (s : State) (l : Lane) (rx : Reception) (y : Station) (inc : BitVec 16),
    s.evp.resetHeld = false → s.takesFrom l rx = true → s.laneUsable l = true →
    (s.laneUsable l.other && s.quietFor l.other) = false → y ≠ s.self →
    judge rx = .valid { sender := y, incarnation := inc, content := .align } →
    ((s.peer y).state ≠ .live ∨ (s.peer y).incarnation ≠ some inc) →
    ∃ t, exec (.alignFrame l rx) s = .next t
      ∧ t.ppu = { s.ppu with peers := s.ppu.peers.set y (
          let old := if (s.peer y).state ≠ .absent ∧ (s.peer y).incarnation ≠ some inc then
              { (s.peer y) with roles := .both none, merits := .both none, heardLanes := none, witnessConfigured := none }
            else s.peer y
          { old with
            state := .live, incarnation := some inc, lastHeard := some s.clock,
            heardOn := (s.peer y).heardOn.set l (some s.clock) }) }
      ∧ t.mbi.expect.get y = none
      ∧ (s.evp.peerMarks.get y = false → s.evp.egress.length < 64 →
          (s.evp.egress ++ [.peer y .live (some inc)]) <+: t.evp.egress)
      ∧ (s.isMember = true → y = s.otherMember →
          ((s.peer y).state = .absent ∨ (s.peer y).incarnation ≠ some inc → t.smt.refreshWalk = some 0)
          ∧ ((s.peer y).state = .lost → (s.peer y).incarnation = some inc →
              t.smt.refreshWalk = s.smt.refreshWalk ∧ t.smt.table = s.smt.table ∧ t.rpu = s.rpu)
          ∧ ((s.peer y).state ≠ .absent → (s.peer y).incarnation ≠ some inc → t.rpu.receipts = [])
          ∧ ((s.peer y).state = .live → s.listsAgree = true →
              let completed := (s.rpu.inFlight.filter fun r => !r.transmitting).map fun r => r.slot
              t.rpu = { s.rpu with
                sendList := s.rpu.sendList ++ completed
                inFlight := s.rpu.inFlight.filter fun r => r.transmitting
                recallMark := s.rpu.recallMark || (s.mbi.inHand.any fun h => h.frame.session)
                receipts := [] }
              ∧ ∀ x, t.entry x = (s.entry x).map fun e => { e with
                  state := if x ∈ completed then if e.state = .sent ∨ e.state = .changed then .dirty else .dropDue else e.state
                  attempts := if e.state.owned then 0 else e.attempts
                  noted := false })
          ∧ ((s.peer y).state ≠ .live → ((s.peer y).state = .absent ∨ (s.peer y).incarnation ≠ some inc) →
              t.rpu = (if (s.peer y).state = .absent then s.rpu else { s.rpu with receipts := [] })
              ∧ ∀ x, t.entry x = (s.entry x).map fun e => { e with noted := false })
          ∧ (∀ g, (s.peer y).state ≠ .absent → (s.peer y).incarnation ≠ some inc →
              (∀ c, (s.group g).claim = some c → c.kind ≠ .vacant) →
              (t.group g).rebirthMark = true ∧ (t.group g).peerClaiming = false ∧ (t.group g).contested = none)
          ∧ (∀ g c, (s.group g).claim = some c → c.kind = .vacant →
              (((s.peer y).state ≠ .absent ∧ (s.peer y).incarnation ≠ some inc) ∨ s.standing g ≠ some .active) →
              t.role g = .standby ∧ (t.group g).claim = none ∧ (t.group g).holdOff = (s.group g).holdOff))
      ∧ (s.isMember = true →
          ((s.peer y).state = .live → t.rcu.fence = s.rcu.fence)
          ∧ ((s.peer y).state ≠ .live → t.rcu.fence = { s.rcu.fence with noQuorum := false }
            ∧ (s.rcu.fence.any = true → t.rcu.fence.any = false → ∀ g, s.role g = .fenced → (s.group g).claim = none →
              (t.otherLive = false ∨ (t.standing g ≠ some .active ∧ t.standing g ≠ some .yielding
                ∧ t.standing g ≠ some .claiming)) →
              t.role g = .listen ∧ (t.group g).listen = some (s.clock + BitVec.ofNat 32 s.holdDown))))
      ∧ (s.isWitness = true → t.rcu = s.rcu ∧ t.rpu = s.rpu ∧ t.smt = s.smt ∧ t.mbi.answers = s.mbi.answers
          ∧ ∀ g, t.vote g =
            if (s.peer y).state ≠ .absent ∧ (s.peer y).incarnation ≠ some inc then
              { s.vote g with
                memory0 := if y = .s0 then none else (s.vote g).memory0
                memory1 := if y = .s1 then none else (s.vote g).memory1 }
            else s.vote g)
      ∧ (s.isMember = true → t.wtu = s.wtu)
      ∧ t.clock = s.clock ∧ t.profile = s.profile

/-- A valid frame of this station's own number, of any of the eight kinds (R114, R139, R140, R151): it sets the latch and goes no
further, so no Peer Record, no copy expectation and no Vote Record moves; a member that had no fence cause fences every group and drops
both FP lines, one that had a cause changes nothing but the latch and its cause, and a witness withdraws its waiting ANSWER frames. -/
def Obligations.OwnNumberSetsTheLatch : Prop :=
  ∀ (s : State) (l : Lane) (rx : Reception) (f : Frame),
    s.evp.resetHeld = false → s.takesFrom l rx = true → s.laneUsable l = true →
    (s.laneUsable l.other && s.quietFor l.other) = false → judge rx = .valid f → f.sender = s.self →
    let lanes := s.mbi.lanes.set l { s.lane l with lastValid := some s.clock, quietElapsed := false }
    ∃ t, exec (f.content.kind.command l rx) s = .next t
      ∧ t.rcu.latch = true ∧ t.ppu = s.ppu ∧ t.wtu = s.wtu ∧ t.mbi.expect = s.mbi.expect ∧ t.mbi.lanes = lanes
      ∧ (s.walksOk = true → t.rpu = s.rpu ∧ t.smt.table = s.smt.table)
      ∧ (s.isMember = true → t.rcu.fence.duplicateStation = true
          ∧ (s.rcu.fence.any = false → ∀ g, s.role g ≠ .dormant → s.role g ≠ .fenced →
              t.role g = .fenced ∧ (t.group g).fp = false)
          ∧ (s.rcu.fence.any = true → t = { s with
              mbi := { s.mbi with lanes := lanes }
              rcu := { s.rcu with latch := true, fence := { s.rcu.fence with duplicateStation := true } } }))
      ∧ (s.isWitness = true → t = { s with
          mbi := { s.mbi with lanes := lanes, answers := [] }, rcu := { s.rcu with latch := true } })

/-- Frames whose content goes nowhere. A copy (R94): a PULSE, CLAIM, ANSWER or YIELD that arrives on the expected lane with the expected
bytes empties the expectation and ends with the header step. A witness takes DELTA, DROP, RECEIPT, ANSWER and YIELD frames as valid
frames and ignores their content (R78, R93, R145); that it counts an ANSWER or a YIELD as handed up in full all the same, and expects its
copy, is the model's reading of R94 (log 40). -/
def Obligations.SomeFramesEndWithTheHeaderStep : Prop :=
  (∀ (s : State) (l : Lane) (rx : Reception) (y : Station), s.isCopy y l rx.bytes = true →
      (∀ c, s.hears l rx y (.pulse c) → exec (.pulseFrame l rx) s = .next (s.withPart (s.afterHeader l y none)))
      ∧ (∀ c, s.hears l rx y (.claim c) → exec (.claimFrame l rx) s = .next (s.withPart (s.afterHeader l y none)))
      ∧ (∀ a, s.hears l rx y (.answer a) → exec (.answerFrame l rx) s = .next (s.withPart (s.afterHeader l y none)))
      ∧ (∀ g, s.hears l rx y (.yield g) → exec (.yieldFrame l rx) s = .next (s.withPart (s.afterHeader l y none))))
  ∧ (∀ (s : State) (l : Lane) (rx : Reception) (y : Station), s.isWitness = true →
      (∀ ws, s.hearsNew l rx y (.delta ws) → exec (.deltaFrame l rx) s = .next (s.withPart (s.afterHeader l y none)))
      ∧ (∀ ps, s.hearsNew l rx y (.drop ps) → exec (.dropFrame l rx) s = .next (s.withPart (s.afterHeader l y none)))
      ∧ (∀ ps, s.hearsNew l rx y (.receipt ps) →
        exec (.receiptFrame l rx) s = .next (s.withPart (s.afterHeader l y none)))
      ∧ (∀ g, s.hearsNew l rx y (.yield g) →
        exec (.yieldFrame l rx) s = .next (s.withPart (s.afterHeader l y (some (l.other, rx.bytes)))))
      ∧ (∀ a, s.hearsNew l rx y (.answer a) →
        exec (.answerFrame l rx) s = .next (s.withPart (s.afterHeader l y (some (l.other, rx.bytes))))))

/-- PULSE (R113, R118, R94): its content is written whole into the sender's Peer Record, and of the other member it replaces the
standing that a CLAIM had made CLAIMING. On a witness nothing else happens. An open claim of a member (R124 to R126): a VACANT claim fails
by an announced ACTIVE or YIELDING and a HANDED one by an announced ACTIVE, with no hold-off, and the group goes to STANDBY, from which it
claims at once where the PREEMPT conditions hold (R120); every other claim stands. -/
def Obligations.PulseIsWrittenWhole : Prop :=
  (∀ (s : State) (l : Lane) (rx : Reception) (y : Station) (c : PulseContent), s.hearsNew l rx y (.pulse c) →
    ∃ t, exec (.pulseFrame l rx) s = .next t
      ∧ t.ppu = { s.ppu with peers := s.ppu.peers.set y { (s.peer y) with
          lastHeard := some s.clock, heardOn := (s.peer y).heardOn.set l (some s.clock), roles := c.roles,
          merits := c.merits, heardLanes := some c.heardLanes, witnessConfigured := some c.witnessConfigured } }
      ∧ t.mbi.expect.get y = some (l.other, rx.bytes)
      ∧ (s.isMember = true → y = s.otherMember → ∀ g, (t.group g).peerClaiming = false)
      ∧ (s.isWitness = true →
          t = (s.withPart ({ s.afterHeader l y (some (l.other, rx.bytes)) with ppu := t.ppu }))))
  ∧ (∀ (s : State) (l : Lane) (rx : Reception) (c : PulseContent) (g : Group) (m : BitVec 8) (cfg : Profile)
      (own : ClaimRecord),
      s.hearsNew l rx s.otherMember (.pulse c) → s.profile = some cfg → cfg.station ≠ .s2 → s.role g = .claiming →
      (s.group g).claim = some own → c.merits.get g = some m →
      let fails := (own.kind = .vacant ∧ (c.roles.get g = some .active ∨ c.roles.get g = some .yielding))
        ∨ (own.kind = .handed ∧ c.roles.get g = some .active)
      let preempts := c.roles.get g = some .active ∧ cfg.preempt.get g = true
        ∧ m.toNat + cfg.margin.toNat ≤ (s.ppu.merits.get g).toNat ∧ (s.group g).holdOff = none
      ∃ t, exec (.pulseFrame l rx) s = .next t
        ∧ (¬ fails → t.group g = { (s.group g) with
            peerClaiming := false
            rebirthMark := (s.group g).rebirthMark && decide (c.roles.get g ≠ some .active ∧ c.roles.get g ≠ some .yielding
              ∧ c.roles.get g ≠ some .claiming) })
        ∧ (fails → (t.group g).holdOff = (s.group g).holdOff
          ∧ (¬ preempts → t.role g = .standby ∧ (t.group g).claim = none)
          ∧ (preempts → t.role g = .claiming
            ∧ ((t.group g).claim.map fun c => (c.kind, c.number)) = some (.preempt, (s.group g).claimNumber + 1))))

/-- A split brain (R136, R130): a PULSE of the other member announces ACTIVE for a group that is ACTIVE here. The loser, by the sent
merit or the higher station number, leaves ACTIVE; the winner keeps the group as it is. -/
def Obligations.SplitBrainLoserLeavesActive : Prop :=
  ∀ (s : State) (l : Lane) (rx : Reception) (c : PulseContent) (g : Group) (m : BitVec 8) (cfg : Profile),
    s.hearsNew l rx s.otherMember (.pulse c) → s.profile = some cfg → cfg.station ≠ .s2 → s.role g = .active →
    c.roles.get g = some .active → c.merits.get g = some m →
    let mine := if s.rcu.pulseSent then (s.group g).sentMerit.toNat else (s.ppu.merits.get g).toNat
    let loses := mine < m.toNat ∨ (mine = m.toNat ∧ s.otherMember.toNat < s.self.toNat)
    ∃ t, exec (.pulseFrame l rx) s = .next t
      ∧ (loses → t.role g ≠ .active ∧ (t.group g).fp = false ∧ t.smt.forget.get g = some 0
          ∧ t.smt.takeover.get g = none ∧ (cfg.preempt.get g = false → t.role g = .standby)
          ∧ (t.group g).holdOff = (s.group g).holdOff)
      ∧ (¬ loses → t.group g = { (s.group g) with peerClaiming := false, rebirthMark := false }
          ∧ t.smt.forget.get g = s.smt.forget.get g)

/-- DELTA of the other member (R61, R62, R64, R66, R67), of one record or more: its records are taken in order, each by the row that the
local entry of its slot then calls for, followed by the flush tests that a YIELDING group may meet (R134). The first one that finds no
room for its receipt, or none for its revoke, is left unapplied with every record after it. -/
def Obligations.DeltaRecordMeetsTheEntry : Prop :=
  (∀ (s : State) (l : Lane) (rx : Reception) (ws : List WireRecord),
      s.isMember = true → s.hearsNew l rx s.otherMember (.delta ws) →
      exec (.deltaFrame l rx) s = .next (s.withPart ((s.afterHeader l s.otherMember none).takeDelta ws)))
  ∧ (∀ (p : Part) (w : WireRecord) (ws : List WireRecord),
      let applied (q : Part) : Part := (q.applyWire w).makeReceipt w.slot w.version
      p.takeDelta [] = p
      ∧ (p.receiptRoom w.slot = false → p.takeDelta (w :: ws) = p)
      ∧ (p.receiptRoom w.slot = true →
        ((p.entry w.slot = none ∨ ∃ e, p.entry w.slot = some e ∧ e.state = .shadow) →
          p.takeDelta (w :: ws) = (applied p).flushTests.takeDelta ws)
        ∧ (∀ e, p.entry w.slot = some e → e.state ≠ .shadow →
          (e.state.live = true → e.key = w.session.key →
            ((p.role e.group).serving = true → p.takeDelta (w :: ws) = (p.reassert w.slot e).flushTests.takeDelta ws)
            ∧ ((p.role e.group).serving = false → p.takeDelta (w :: ws) = (applied p).flushTests.takeDelta ws))
          ∧ (e.state.live = false ∨ e.key ≠ w.session.key →
            (regionOf w.slot = p.self →
              p.takeDelta (w :: ws)
                = ((p.reassert w.slot e).makeReceipt w.slot w.version).flushTests.takeDelta ws)
            ∧ (regionOf w.slot ≠ p.self →
              (e.installed = false → p.takeDelta (w :: ws) = (applied p).flushTests.takeDelta ws)
              ∧ (e.installed = true →
                (p.revokeRoom w.slot = true →
                  p.takeDelta (w :: ws) = (applied (p.revokeAppend w.slot)).flushTests.takeDelta ws)
                ∧ (p.revokeRoom w.slot = false → p.takeDelta (w :: ws) = p)))))))

/-- What DELTA records do (R63, R65, R71, R8). An applied record makes the slot a SHADOW with what the record carries, the slot leaves the
replication lists, an install buffer that holds the slot of a live entry notes it as taken, and nothing else changes. Reassertion makes
a CLEAN entry due again at the tail under its next version, a SENT one CHANGED under it with its In-Flight record kept, and leaves a
DIRTY or CHANGED one. A receipt for a slot that has a pair replaces its version in place and clears its transmitting flag; any other
joins at the tail with the current tick; under the room check of R61 the queue keeps to 256 pairs, one for each slot. -/
def Obligations.RecordsOfADeltaActOnTheirSlot : Prop :=
  (∀ (p : Part) (w : WireRecord),
      (∀ slot, (p.applyWire w).entry slot =
        if slot = w.slot then
          some { state := .shadow, group := w.session.group, key := w.session.key, nat := w.session.nat,
                 tcp := w.session.tcp.map clampTcp, lifetime := if w.session.lifetime = 0 then 1 else w.session.lifetime,
                 refTick := p.clock, ageOffset := w.age, version := w.version, peerMayHold := true, attempts := 0,
                 installed := false, noted := false }
        else p.entry slot)
      ∧ p.applyWire w = { p with
          smt := { p.smt with table := (p.applyWire w).smt.table }
          rpu := { p.rpu with
            sendList := p.rpu.sendList.filter fun x => decide (x ≠ w.slot)
            inFlight := p.rpu.inFlight.filter fun r => decide (r.slot ≠ w.slot) }
          tku := { p.tku with
            buffers :=
              if (p.entry w.slot).any fun e => e.state.live then p.tku.buffers.map (Buffer.noteTaken w.slot)
              else p.tku.buffers } })
  ∧ (∀ (p : Part) (slot : Slot) (e : Entry), p.entry slot = some e → e.state.live = true → p.listsAgree = true →
      (∀ x, (p.reassert slot e).entry x =
        if x = slot then
          some { e with
            state := if e.state = .clean then .dirty else if e.state = .sent then .changed else e.state
            version := if e.state = .clean ∨ e.state = .sent then e.version + 1 else e.version }
        else p.entry x)
      ∧ p.reassert slot e = { p with
          smt := { p.smt with table := (p.reassert slot e).smt.table }
          rpu := { p.rpu with
            sendList := if e.state = .clean then p.rpu.sendList ++ [slot] else p.rpu.sendList } })
  ∧ (∀ (p : Part) (slot : Slot) (version : Version),
      ((∃ r ∈ p.rpu.receipts, r.slot = slot) →
        p.makeReceipt slot version = { p with rpu := { p.rpu with receipts := p.rpu.receipts.map fun r =>
          if r.slot = slot then { r with version := version, transmitting := false } else r } })
      ∧ ((∀ r ∈ p.rpu.receipts, r.slot ≠ slot) →
        p.makeReceipt slot version = { p with rpu := { p.rpu with receipts :=
          p.rpu.receipts ++
            [{ slot := slot, version := version, join := p.clock, transmitting := false, waited := false }] } })
      ∧ (p.receiptRoom slot = true → p.rpu.receipts.length ≤ 256 → (p.rpu.receipts.map fun r => r.slot).Nodup →
        (p.makeReceipt slot version).rpu.receipts.length ≤ 256
          ∧ ((p.makeReceipt slot version).rpu.receipts.map fun r => r.slot).Nodup))

/-- DROP of the other member (R68, R61), of one pair or more, taken in order: a SHADOW becomes FREE, any other entry stands, and a receipt
is made in every case; the first pair that finds no room for its receipt is left with every pair after it. -/
def Obligations.DropFreesAShadow : Prop :=
  (∀ (s : State) (l : Lane) (rx : Reception) (pairs : List (Slot × Version)),
      s.isMember = true → s.hearsNew l rx s.otherMember (.drop pairs) →
      exec (.dropFrame l rx) s = .next (s.withPart ((s.afterHeader l s.otherMember none).takeDrop pairs)))
  ∧ (∀ (p : Part) (slot : Slot) (version : Version) (rest : List (Slot × Version)),
      p.takeDrop [] = p
      ∧ (p.receiptRoom slot = false → p.takeDrop ((slot, version) :: rest) = p)
      ∧ (p.receiptRoom slot = true →
        (∀ e, p.entry slot = some e → e.state = .shadow →
          p.takeDrop ((slot, version) :: rest) = ((p.putEntry slot none).makeReceipt slot version).takeDrop rest)
        ∧ ((∀ e, p.entry slot = some e → e.state ≠ .shadow) →
          p.takeDrop ((slot, version) :: rest) = (p.makeReceipt slot version).takeDrop rest)))

/-- RECEIPT of the other member (R48, R49), of one pair or more, each taken in order as one event with the flush tests after it (R134): a
pair that matches the In-Flight record of its slot ends it, with the attempts count at 0 and the entry moved as R49 gives; one that
matches nothing is ignored. -/
def Obligations.ReceiptEndsTheMatchingRecord : Prop :=
  (∀ (s : State) (l : Lane) (rx : Reception) (pairs : List (Slot × Version)),
      s.isMember = true → s.hearsNew l rx s.otherMember (.receipt pairs) →
      exec (.receiptFrame l rx) s = .next (s.withPart ((s.afterHeader l s.otherMember none).takePairs pairs)))
  ∧ (∀ (p : Part) (slot : Slot) (version : Version) (rest : List (Slot × Version)),
      p.takePairs [] = p
      ∧ (∀ r e, p.flightOf slot = some r → r.version = version → r.transmitting = false → p.entry slot = some e →
        (e.state = .sent → p.takePairs ((slot, version) :: rest)
          = (p.putEntry slot (some { e with state := .clean, attempts := 0 })).flushTests.takePairs rest)
        ∧ (e.state = .changed → p.takePairs ((slot, version) :: rest)
          = (p.putEntry slot (some { e with state := .dirty, attempts := 0 })).flushTests.takePairs rest)
        ∧ (e.state = .dropSent → p.takePairs ((slot, version) :: rest) = (p.putEntry slot none).flushTests.takePairs rest)
        ∧ (e.state = .dropWait → p.takePairs ((slot, version) :: rest)
          = (p.putEntry slot (some { e with state := .dropDue, attempts := 0 })).flushTests.takePairs rest))
      ∧ ((∀ r, p.flightOf slot = some r → r.version ≠ version ∨ r.transmitting = true) →
        p.takePairs ((slot, version) :: rest) = p.flushTests.takePairs rest))

/-- CLAIM of the other member, on a member. Where the group is ACTIVE here (R131, R134, R130) a VACANT claim, and a PREEMPT one that does not
reach the margin, is answered CONTEST; so is a PREEMPT one under the claim number last contested, whatever its merit by then, which is
the model's reading of R131 (log 32); any other PREEMPT claim is conceded, at once where nothing is outstanding, and a HANDED one takes
the group to STANDBY at once, with no answer. A YIELDING group sends no answer: a VACANT or PREEMPT claim changes the standing alone, and
a HANDED one ends the yielding with its pending frame discarded (R135). Where the group is CLAIMING or LISTEN (R127, R119) the higher
merit wins against a VACANT claim and equal merits go to the lower station number; the loser goes to STANDBY with no hold-off, and the
winner's claim goes on; a PREEMPT or HANDED claim goes on whatever comes, and a LISTEN group goes to STANDBY. Where the group is STANDBY
or FENCED the standing alone changes, with the evaluation that follows any CLAIM, in which a STANDBY group's vacancy timer stops (R118,
R120, R140). -/
def Obligations.ClaimsMeetTheGroupsRole : Prop :=
  (∀ (s : State) (l : Lane) (rx : Reception) (c : ClaimFrame), s.isMember = true → s.hearsNew l rx s.otherMember (.claim c) →
      let u := s.afterHeader l s.otherMember (some (l.other, rx.bytes))
      let claiming := u.setGroup c.group { s.group c.group with peerClaiming := true }
      (s.role c.group = .active →
        (c.kind = .vacant ∨ (c.kind = .preempt ∧ ((s.group c.group).contested = some c.number
            ∨ c.merit.toNat < (s.ppu.merits.get c.group).toNat + s.margin)) →
          exec (.claimFrame l rx) s = .next (s.withPart (((claiming.setGroup c.group
              { s.group c.group with peerClaiming := true, contested := some c.number }).queueAnswer
              { group := c.group, claimer := s.otherMember, verdict := .contest, number := c.number,
                incomplete := false }).evaluateAll)))
        ∧ (c.kind = .preempt → (s.group c.group).contested ≠ some c.number →
            (s.ppu.merits.get c.group).toNat + s.margin ≤ c.merit.toNat →
          ∃ t, exec (.claimFrame l rx) s = .next t
            ∧ t.role c.group ≠ .active ∧ (t.group c.group).fp = false ∧ t.smt.forget.get c.group = some 0
            ∧ t.smt.takeover.get c.group = none
            ∧ (s.outstanding c.group ≠ 0 → s.walkIsWaiting c.group.other = false → t.role c.group = .yielding
                ∧ (t.group c.group).pendingFrame = some (.concede s.otherMember c.number)
                ∧ (t.group c.group).handover = some (s.clock + BitVec.ofNat 32 s.handoverTimeout))
            ∧ (s.outstanding c.group = 0 → t.role c.group = .standby
                ∧ { group := c.group, claimer := s.otherMember, verdict := .concede, number := c.number,
                    incomplete := false } ∈ t.mbi.answers))
        ∧ (c.kind = .handed →
          ∃ t, exec (.claimFrame l rx) s = .next t
            ∧ t.role c.group = .standby ∧ (t.group c.group).fp = false ∧ t.smt.forget.get c.group = some 0
            ∧ t.smt.takeover.get c.group = none ∧ ∀ a ∈ t.mbi.answers, a.group ≠ c.group))
      ∧ (s.role c.group = .yielding →
        (c.kind ≠ .handed → exec (.claimFrame l rx) s = .next (s.withPart claiming.evaluateAll))
        ∧ (c.kind = .handed → ∃ t, exec (.claimFrame l rx) s = .next t ∧ t.role c.group = .standby
            ∧ (t.group c.group).pendingFrame = none ∧ (t.group c.group).handover = none))
      ∧ (s.role c.group = .standby ∨ s.role c.group = .fenced →
        exec (.claimFrame l rx) s = .next (s.withPart claiming.evaluateAll)
        ∧ ∃ t, exec (.claimFrame l rx) s = .next t
          ∧ (s.role c.group = .standby → (s.group c.group).rebirthMark = false →
              t.group c.group = { (s.group c.group) with peerClaiming := true, vacancy := .stopped })
          ∧ (s.role c.group = .fenced → t.group c.group = { (s.group c.group) with peerClaiming := true })
          ∧ ((s.role c.group = .fenced ∨ (s.group c.group).rebirthMark = false) →
              (t.mbi.answers.filter fun a => decide (a.group = c.group))
                = s.mbi.answers.filter fun a => decide (a.group = c.group))))
  ∧ (∀ (s : State) (l : Lane) (rx : Reception) (c : ClaimFrame) (own : ClaimRecord),
      s.isMember = true → s.hearsNew l rx s.otherMember (.claim c) →
      let mine := (s.ppu.merits.get c.group).toNat
      let theirsWins := mine < c.merit.toNat ∨ (mine = c.merit.toNat ∧ s.otherMember.toNat < s.self.toNat)
      (s.role c.group = .claiming → (s.group c.group).claim = some own → own.kind = .vacant → theirsWins →
        ∃ t, exec (.claimFrame l rx) s = .next t ∧ t.role c.group = .standby ∧ (t.group c.group).claim = none
          ∧ (t.group c.group).holdOff = (s.group c.group).holdOff ∧ (t.group c.group).peerClaiming = true)
      ∧ (s.role c.group = .claiming → (s.group c.group).claim = some own → (own.kind ≠ .vacant ∨ ¬ theirsWins) →
        ∃ t, exec (.claimFrame l rx) s = .next t
          ∧ t.group c.group = { (s.group c.group) with peerClaiming := true } ∧ t.smt = s.smt ∧ t.rpu = s.rpu)
      ∧ (s.role c.group = .listen →
        ∃ t, exec (.claimFrame l rx) s = .next t ∧ t.role c.group = .standby))

/-- CLAIM on a witness, and GRANT_LAPSE (R145 to R149, R151). A VACANT claim of a member is a repeat and answered as before, denied while
the other member serves the group or holds its grant, and granted otherwise; what it answers last it remembers. A claim of another kind,
and any claim while the latch is set, changes nothing. A grant that has stood for a hold-down lapses: its waiting VOTE is withdrawn and
the answer memories are kept; before that GRANT_LAPSE changes nothing, which is the model's choice (log 2). -/
def Obligations.WitnessVotesAndGrantsLapse : Prop :=
  (∀ (s : State) (l : Lane) (rx : Reception) (x : Station) (c : ClaimFrame),
      s.isWitness = true → s.hearsNew l rx x (.claim c) →
      let u := s.afterHeader l x (some (l.other, rx.bytes))
      let v := s.vote c.group
      let other := otherMemberOf x
      let answer (q : Part) (verdict : Verdict) : Part :=
        q.queueAnswer { group := c.group, claimer := x, verdict := verdict, number := c.number, incomplete := false }
      let held := fun y => ∃ gr, v.grant = some gr ∧ gr.grantee = y
      let heldAs := ∃ gr, v.grant = some gr ∧ gr.grantee = x ∧ gr.number = c.number
      let serves := (s.peer other).state = .live
        ∧ ((s.peer other).roles.get c.group = some .active ∨ (s.peer other).roles.get c.group = some .yielding)
      (s.rcu.latch = true ∨ c.kind ≠ .vacant → exec (.claimFrame l rx) s = .next (s.withPart u))
      ∧ (s.rcu.latch = false → c.kind = .vacant →
        (v.memory x = some { number := c.number, vote := false } →
          exec (.claimFrame l rx) s = .next (s.withPart (answer u .deny)))
        ∧ (v.memory x = some { number := c.number, vote := true } → heldAs →
          exec (.claimFrame l rx) s = .next (s.withPart (answer u .vote)))
        ∧ ((∀ m, v.memory x = some m → m.number ≠ c.number ∨ (m.vote = true ∧ ¬ heldAs)) →
          (serves ∨ held other →
            exec (.claimFrame l rx) s = .next (s.withPart (answer (u.setVote c.group
                (v.setMemory x (some { number := c.number, vote := false }))) .deny)))
          ∧ (¬ serves → ¬ held other →
            exec (.claimFrame l rx) s = .next (s.withPart (answer (u.setVote c.group
                ({ v with grant := some { grantee := x, tick := s.clock, number := c.number } }.setMemory x
                  (some { number := c.number, vote := true }))) .vote))))))
  ∧ (∀ (s : State) (g : Group) (x : Grant), s.evp.resetHeld = false → (s.vote g).grant = some x →
      (s.holdDown ≤ (s.clock - x.tick).toNat → exec (.grantLapse g) s = .next { s with
        wtu := { s.wtu with votes := s.wtu.votes.set g { s.vote g with grant := none } }
        mbi := { s.mbi with answers := s.mbi.answers.filter fun a =>
          !(decide (a.group = g) && decide (a.verdict = .vote) && decide (a.claimer = x.grantee)
            && decide (a.number = x.number)) } })
      ∧ ((s.clock - x.tick).toNat < s.holdDown → exec (.grantLapse g) s = .next s))

/-- ANSWER (R123 to R126, R128): one that names this station and the claim number of the group's Claim Record reaches it. A VOTE of
the witness is recorded in a VACANT claim; a DENY, or a CONTEST of the other member to a VACANT or PREEMPT claim, fails it with the
hold-off; a CONCEDE to a PREEMPT claim while the other member serves the group restarts the dead time; a CONTEST to a HANDED claim is
recorded and leaves it. Any other ANSWER changes nothing. -/
def Obligations.AnswerReachesItsClaim : Prop :=
  ∀ (s : State) (l : Lane) (rx : Reception) (y : Station) (a : AnswerFrame), s.isMember = true → s.hearsNew l rx y (.answer a) →
    let u := s.afterHeader l y (some (l.other, rx.bytes))
    let r := s.group a.group
    (r.claim = none → exec (.answerFrame l rx) s = .next (s.withPart u))
    ∧ (∀ c, r.claim = some c →
      (a.claimer ≠ s.self ∨ a.number ≠ c.number → exec (.answerFrame l rx) s = .next (s.withPart u))
      ∧ (a.claimer = s.self → a.number = c.number →
        (y = .s2 → a.verdict = .vote → c.kind = .vacant →
          exec (.answerFrame l rx) s = .next (s.withPart (u.setGroup a.group { r with claim := some { c with witnessVerdict := some .vote } })))
        ∧ ((y = .s2 ∧ a.verdict = .deny ∧ c.kind = .vacant)
              ∨ (y = s.otherMember ∧ a.verdict = .contest ∧ c.kind ≠ .handed) →
          ∃ t, exec (.answerFrame l rx) s = .next t ∧ t.role a.group = .standby ∧ (t.group a.group).claim = none
            ∧ (t.group a.group).fp = false
            ∧ (t.group a.group).holdOff = some (s.clock + BitVec.ofNat 32 (8 * s.pulseInterval))
            ∧ t.group a.group.other = s.group a.group.other ∧ t.smt = s.smt ∧ t.rpu = s.rpu)
        ∧ (y = s.otherMember → a.verdict = .concede → c.kind = .preempt →
            (s.standing a.group = some .active ∨ s.standing a.group = some .yielding) →
          exec (.answerFrame l rx) s = .next (s.withPart (u.setGroup a.group { r with
              claim := some { c with
                activeVerdict := some { verdict := .concede, tick := s.clock, incomplete := a.incomplete }
                deadline := some (s.clock + BitVec.ofNat 32 s.deadTime)
                held := false }
              deadTimer := some (s.clock + BitVec.ofNat 32 s.deadTime) })))
        ∧ (y = s.otherMember → a.verdict = .contest → c.kind = .handed →
          exec (.answerFrame l rx) s = .next (s.withPart (u.setGroup a.group { r with claim := some { c with
            activeVerdict := some { verdict := .contest, tick := s.clock, incomplete := false } } })))
        ∧ ((a.verdict = .vote ∨ a.verdict = .deny) → (y ≠ .s2 ∨ c.kind ≠ .vacant) →
          exec (.answerFrame l rx) s = .next (s.withPart u))
        ∧ (a.verdict = .contest → y ≠ s.otherMember → exec (.answerFrame l rx) s = .next (s.withPart u))
        ∧ (a.verdict = .concede → (y ≠ s.otherMember ∨ c.kind ≠ .preempt
            ∨ (s.standing a.group ≠ some .active ∧ s.standing a.group ≠ some .yielding)) →
          exec (.answerFrame l rx) s = .next (s.withPart u))))

/-- YIELD (R120, R121): in STANDBY or LISTEN, with a merit above 0, it makes a HANDED claim under the next claim number, whose CLAIM
frame carries the latched merit; otherwise it changes nothing. -/
def Obligations.YieldMakesAHandedClaim : Prop :=
  ∀ (s : State) (l : Lane) (rx : Reception) (y : Station) (g : Group), s.isMember = true → s.hearsNew l rx y (.yield g) →
    ((s.role g = .standby ∨ s.role g = .listen) → s.ppu.merits.get g ≠ 0 →
      ∃ t, exec (.yieldFrame l rx) s = .next t
        ∧ t.group g = { (s.group g).enter .claiming with
            claim := some { kind := .handed, number := (s.group g).claimNumber + 1, txTick := none, witnessVerdict := none,
                            activeVerdict := none, deadline := none, held := false }
            claimNumber := (s.group g).claimNumber + 1 }
        ∧ t.mbi.claims = (s.mbi.claims.filter fun c => decide (c.group ≠ g))
            ++ [{ group := g, kind := .handed, number := (s.group g).claimNumber + 1, merit := s.ppu.merits.get g }]
        ∧ t.group g.other = s.group g.other ∧ t.smt = s.smt ∧ t.rpu = s.rpu ∧ t.tku = s.tku ∧ t.wtu = s.wtu)
    ∧ ((s.role g ≠ .standby ∧ s.role g ≠ .listen) ∨ s.ppu.merits.get g = 0 →
      exec (.yieldFrame l rx) s = .next (s.withPart (s.afterHeader l y (some (l.other, rx.bytes)))))

/-- BAD_FRAME and FRAGMENT (R80, R83, R89, R92): a bad frame on a lane UP or DEGRADED raises its count and nothing else, the eighth
in a window takes an UP lane to DEGRADED; on a lane in TRAINING, or one that takes nothing, it is only discarded, as a fragment is
on any lane. -/
def Obligations.BadFramesAreCounted : Prop :=
  ∀ (s : State) (l : Lane) (rx : Reception), s.evp.resetHeld = false →
    exec (.fragment l rx) s = .next s
    ∧ (s.takesFrom l rx = false ∨ (s.lane l).state = .training → exec (.badFrame l rx) s = .next s)
    ∧ (s.takesFrom l rx = true → judge rx = .bad →
      ((s.lane l).state = .degraded ∨ ((s.lane l).state = .up ∧ (s.lane l).badCount < 7) →
        exec (.badFrame l rx) s = .next { s with mbi := { s.mbi with
          lanes := s.mbi.lanes.set l { s.lane l with badCount := (s.lane l).badCount + 1 } } })
      ∧ ((s.lane l).state = .up → 7 ≤ (s.lane l).badCount →
        ∃ t, exec (.badFrame l rx) s = .next t
          ∧ t.lane l = { (s.lane l) with state := .degraded, badCount := (s.lane l).badCount + 1 }
          ∧ t.lane l.other = s.lane l.other
          ∧ (s.evp.laneMarks.get l = false → s.evp.egress.length < 64 →
              t.evp = { s.evp with egress := s.evp.egress ++ [.lane l .degraded] })
          ∧ t.ppu = s.ppu ∧ t.clock = s.clock))

/-- TRANSMITTER_TAKE (R72, R96, R97, R101, R106, R144): with nothing in hand the first ready frame is taken, ANSWER before CLAIM before
YIELD, the oldest of each; then, on the working lane, a RECEIPT of the oldest pairs whose flag is clear, up to 32, once there are 32 of
them or the oldest has waited 2 ms, which keep their places with their flags set; a due PULSE when none of these waits; an ALIGN last,
whether or not another lane is usable. That a PULSE sends a set witness-configured flag as 1 is the model's choice among the values but
0 that R183 allows (log 44). The first copy of a role frame is bound to lane A where that is UP or DEGRADED as the frame is taken, and
to lane B otherwise, with the other lane still to be considered: R96 decides as a copy would start, and that the first copy's lane is
settled at the take is the model's reading (log 21), and that an ANSWER's unnamed flag bits go out as 0 is its choice (log 46). The
heard-lanes byte has the bit of a station and lane set exactly where the PULSE reports that station (a member the other member, a
witness both), its record is LIVE and holds a last-heard tick for the lane less than one hold-down old (R107, R183). With a frame in
hand, or none ready, nothing happens, which is the model's choice (log 2). -/
def Obligations.TransmitterTakesInOrder : Prop :=
  (∀ s : State, s.evp.resetHeld = false →
      let inHand (frame : TxFrame) (bytes : List Byte) (lane : Lane) (second : Bool) : Option InHand :=
        some { frame := frame, bytes := bytes, lane := lane, secondCopy := second, completedAny := false, collisions := 0,
               phase := .waitIdle, stale := false }
      let first : Lane := if s.laneUsable .a then .a else .b
      (s.mbi.inHand ≠ none → exec .transmitterTake s = .next s)
      ∧ (s.mbi.inHand = none →
        (s.someLaneUsable = true →
          (∀ a rest, s.mbi.answers = a :: rest →
            exec .transmitterTake s = .next { s with mbi := { s.mbi with
              answers := rest
              inHand := inHand (.answer a) (encodeFrame .answer s.self s.incarnation a.number
                [groupByte a.group, stationByte a.claimer, verdictCode a.verdict, flagByte a.incomplete])
                first true } })
          ∧ (s.mbi.answers = [] →
            (∀ c rest, s.mbi.claims = c :: rest →
              exec .transmitterTake s = .next { s with mbi := { s.mbi with
                claims := rest
                inHand := inHand (.claim c) (encodeFrame .claim s.self s.incarnation c.number
                  [groupByte c.group, claimKindCode c.kind, c.merit]) first true } })
            ∧ (s.mbi.claims = [] →
              (∀ g rest, s.mbi.yields = g :: rest →
                exec .transmitterTake s = .next { s with mbi := { s.mbi with
                  yields := rest
                  inHand := inHand (.yield g) (encodeFrame .yield s.self s.incarnation 0 [groupByte g])
                    first true } })
              ∧ (s.mbi.yields = [] → s.mayReceipt = false → s.mbi.pulseDue = true →
                exec .transmitterTake s = .next { s with mbi := { s.mbi with
                  pulseDue := false
                  inHand := inHand (.pulse s.ppu.merits) (encodeFrame .pulse s.self s.incarnation 0
                    (if s.isWitness then [0, 0, 0, 0, s.heardByte, 1]
                     else [roleCode (s.role .g0), roleCode (s.role .g1), s.ppu.merits.g0, s.ppu.merits.g1, s.heardByte,
                           flagByte s.witnessConfigured])) first true } }))))
        ∧ ((s.someLaneUsable = false ∨ (s.mbi.answers = [] ∧ s.mbi.claims = [] ∧ s.mbi.yields = [] ∧ s.mbi.pulseDue = false)) →
            (s.mbi.workingLane = none ∨ (s.mayReceipt = false ∧ s.mayBuild = false)) →
          (∀ l, (s.lane l).state = .training → (s.lane l).alignDue = true →
            (l = .b → (s.lane .a).state = .training → (s.lane .a).alignDue = false) →
            exec .transmitterTake s = .next { s with mbi := { s.mbi with
              lanes := s.mbi.lanes.set l { s.lane l with alignDue := false }
              inHand := inHand (.align l) (encodeFrame .align s.self s.incarnation 0 alignPattern) l false } })
          ∧ ((∀ l, (s.lane l).state ≠ .training ∨ (s.lane l).alignDue = false) → exec .transmitterTake s = .next s))))
  ∧ (∀ (s : State) (l : Lane), s.evp.resetHeld = false → s.mbi.inHand = none → s.mbi.answers = [] → s.mbi.claims = [] →
      s.mbi.yields = [] → s.isMember = true → s.otherLive = true → s.mbi.workingLane = some l →
      (∃ r ∈ s.rpu.receipts, r.transmitting = false) →
      (32 ≤ (s.rpu.receipts.filter fun r => !r.transmitting).length
        ∨ ∃ r later, (s.rpu.receipts.filter fun r => !r.transmitting) = r :: later
          ∧ (r.waited = true ∨ s.reached (r.join + 2) = true)) →
      let pairs := (s.rpu.receipts.filter fun r => !r.transmitting).take 32
      ∃ t, exec .transmitterTake s = .next t
        ∧ t.mbi = { s.mbi with
            inHand := some {
              frame := .receipt,
              bytes := encodeFrame .receipt s.self s.incarnation 0 (pairs.flatMap fun r => bytes16 r.slot ++ bytes16 r.version),
              lane := l, secondCopy := false, completedAny := false, collisions := 0, phase := .waitIdle, stale := false } }
        ∧ t.rpu.receipts.map (fun r => { r with transmitting := false })
          = s.rpu.receipts.map (fun r => { r with transmitting := false })
        ∧ (t.rpu.receipts.filter fun r => !r.transmitting) = (s.rpu.receipts.filter fun r => !r.transmitting).drop 32
        ∧ t = { s with mbi := t.mbi, rpu := { s.rpu with receipts := t.rpu.receipts } })
  ∧ (∀ (p : Part) (c : Profile) (i : Nat), p.profile = some c →
      let reported (y : Station) : Prop := if c.station = .s2 then y ≠ .s2 else y = (if c.station = .s0 then .s1 else .s0)
      (p.heardByte.getLsbD i = true ↔
        ∃ (y : Station) (l : Lane) (tick : Tick), reported y ∧ (p.peer y).state = .live
          ∧ (p.peer y).heardOn.get l = some tick ∧ (p.clock - tick).toNat < c.pulseInterval * c.missLimit
          ∧ i = 2 * y.toNat + (match l with | .a => 0 | .b => 1)))

/-- TRANSMITTER_TAKE of a DROP or DELTA (R38 to R44, R97): under the conditions of R39 the head of the Send List decides the kind; the
frame takes the longest run that R40 or R41 allows, each slot leaves the Send List for the tail of the In-Flight List under its
version, and its entry becomes DROP_SENT or SENT. A DROP pair is the slot and the version. A DELTA record holds slot, version, flags,
protocol, zone, tracking state, the age now at the build, lifetime, record length, addresses, ports, NAT and TCP part of its entry
where R184 puts them, most significant byte first, for every entry that meets the invariant of SessionTableStaysWellFormed, and the
record tests of a receiver (R91) read back what was sent. -/
def Obligations.SessionFrameTakesTheHeadRun : Prop :=
  (∀ (s : State) (l : Lane) (head : Slot) (later : List Slot) (e : Entry),
    s.evp.resetHeld = false → s.mbi.inHand = none → s.mbi.answers = [] → s.mbi.claims = [] → s.mbi.yields = [] →
    s.mayReceipt = false → s.mbi.pulseDue = false → s.isMember = true → s.otherLive = true → s.rpu.pauseFlag = false →
    s.rpu.inFlight.length < 2048 → s.mbi.workingLane = some l → s.rpu.sendList = head :: later → s.entry head = some e →
    s.listsAgree = true →
    ∃ (t : State) (run : List Slot) (kind : FrameKind) (frame : TxFrame) (bytes : List Byte),
      exec .transmitterTake s = .next t
      ∧ s.rpu.sendList = run ++ t.rpu.sendList ∧ run ≠ [] ∧ run.length ≤ 2048 - s.rpu.inFlight.length
      ∧ (e.state = .dropDue → kind = .drop ∧ frame = .drop ∧ run.length ≤ 32
          ∧ (∀ x ∈ run, (s.entry x).map (fun e => e.state) = some .dropDue)
          ∧ (∀ x rest, t.rpu.sendList = x :: rest →
              (s.entry x).map (fun e => e.state) ≠ some .dropDue ∨ run.length = 32
                ∨ run.length = 2048 - s.rpu.inFlight.length)
          ∧ bytes = run.flatMap s.dropPairOf)
      ∧ (e.state = .dirty → kind = .delta ∧ frame = .delta ∧ run.length ≤ 8
          ∧ (∀ x ∈ run, (s.entry x).map (fun e => e.state) = some .dirty)
          ∧ (run.map fun x => ((s.entry x).map Entry.wireSize).getD 0).sum ≤ 492
          ∧ (∀ x rest, t.rpu.sendList = x :: rest →
              (s.entry x).map (fun e => e.state) ≠ some .dirty ∨ run.length = 8
                ∨ run.length = 2048 - s.rpu.inFlight.length
                ∨ 492 < (run.map fun x => ((s.entry x).map Entry.wireSize).getD 0).sum
                    + ((s.entry x).map Entry.wireSize).getD 0)
          ∧ bytes = run.flatMap s.wireOf)
      ∧ t.mbi = { s.mbi with
          inHand := some {
            frame := frame, bytes := encodeFrame kind s.self s.incarnation 0 bytes, lane := l, secondCopy := false,
            completedAny := false, collisions := 0, phase := .waitIdle, stale := false } }
      ∧ (∀ x, t.entry x = (s.entry x).map fun e =>
          if x ∈ run then { e with state := if e.state = .dirty then .sent else .dropSent } else e)
      ∧ t.rpu.inFlight = s.rpu.inFlight ++ run.map (fun x =>
          ({ slot := x, version := ((s.entry x).map fun e => e.version).getD 0, completion := none,
             transmitting := true } : InFlight))
      ∧ t = { s with mbi := t.mbi, smt := { s.smt with table := t.smt.table },
                     rpu := { s.rpu with sendList := t.rpu.sendList, inFlight := t.rpu.inFlight } })
  ∧ (∀ (p : Part) (slot : Slot) (e : Entry), p.entry slot = some e →
      let field (bs : List Byte) (i n : Nat) : Nat := ((bs.drop i).take n).foldl (fun v b => 256 * v + b.toNat) 0
      let pair := p.dropPairOf slot
      pair.length = 4 ∧ field pair 0 2 = slot.toNat ∧ field pair 2 2 = e.version.toNat
      ∧ (e.ok = true →
        let bs := p.wireOf slot
        let size := match e.key.addrs with | .v4 _ _ => 4 | .v6 _ _ => 16
        let natAt := 16 + 2 * size + (if e.key.ports = none then 0 else 4)
        let tcpAt := natAt + (if e.nat = none then 0 else 4 + size)
        let whole := tcpAt + (if e.tcp = none then 0 else 28)
        bs.length = whole ∧ e.wireSize = whole
        ∧ field bs 0 2 = slot.toNat ∧ field bs 2 2 = e.version.toNat
        ∧ field bs 4 1 = (if size = 16 then 128 else 0) + (if e.nat = none then 0 else 64) + (if e.tcp = none then 0 else 32)
            + e.group.toNat
        ∧ field bs 5 1 = e.key.protocol.toNat ∧ field bs 6 1 = e.key.zone.toNat
        ∧ field bs 7 1 = (match e.tcp.map fun x => x.tracking with
            | none => 0 | some .opening => 1 | some .established => 2 | some .closing => 3)
        ∧ field bs 8 4 = min 4294967295 ((p.clock - e.refTick).toNat + e.ageOffset.toNat)
        ∧ field bs 12 2 = e.lifetime.toNat ∧ field bs 14 2 = whole
        ∧ (∀ a b, e.key.addrs = .v4 a b → field bs 16 4 = a.toNat ∧ field bs 20 4 = b.toNat)
        ∧ (∀ a b, e.key.addrs = .v6 a b → field bs 16 16 = a.toNat ∧ field bs 32 16 = b.toNat)
        ∧ (∀ q, e.key.ports = some q →
          field bs (16 + 2 * size) 2 = q.src.toNat ∧ field bs (18 + 2 * size) 2 = q.dst.toNat)
        ∧ (∀ n, e.nat = some n →
          field bs natAt 1 = (match n.kind with | .source => 1 | .destination => 2)
          ∧ field bs (natAt + 1) 1 = (if e.key.ports = none then 0 else 1)
          ∧ field bs (natAt + 2) 2 = (match n.port with | some x => x.toNat | none => 0)
          ∧ field bs (natAt + 4) size = (match n.addr with | .v4 a => a.toNat | .v6 a => a.toNat))
        ∧ (∀ x, e.tcp = some x → ∀ (d : TcpDir) (i : Nat), (d = x.fwd ∧ i = tcpAt ∨ d = x.rev ∧ i = tcpAt + 14) →
          field bs i 4 = d.seqHi.toNat ∧ field bs (i + 4) 4 = d.ackHi.toNat ∧ field bs (i + 8) 4 = d.window.toNat
          ∧ field bs (i + 12) 2 = d.rate.toNat)
        ∧ ∃ w, readWire bs = some (w, whole) ∧ w.slot = slot ∧ w.version = e.version
          ∧ w.age.toNat = min 4294967295 ((p.clock - e.refTick).toNat + e.ageOffset.toNat)
          ∧ w.session = { group := e.group, key := e.key, nat := e.nat, tcp := e.tcp, lifetime := e.lifetime }))

/-- FRAME_START, COLLISION and BACKOFF_END (R98, R99): the waiting frame starts; its collision n, 1 to 7, steps the register once and
draws a backoff below 2^k, k the smaller of n and 4; after the backoff it waits for idle again. Each leaves a frame in another phase
as it is, the model's choice (log 2). -/
def Obligations.CollisionsDrawABackoff : Prop :=
  ∀ (s : State) (h : InHand), s.evp.resetHeld = false → s.mbi.inHand = some h →
    (h.phase = .waitIdle → exec .frameStart s
      = .next { s with mbi := { s.mbi with inHand := some { h with phase := .sending } } })
    ∧ (h.phase ≠ .waitIdle → exec .frameStart s = .next s)
    ∧ (h.phase = .sending → h.collisions < 7 →
      ∃ t x r, exec .collision s = .next t
        ∧ x = (s.mbi.lfsr <<< 1) ||| (BitVec.ofBool
            (s.mbi.lfsr.getLsbD 15 ^^ s.mbi.lfsr.getLsbD 13 ^^ s.mbi.lfsr.getLsbD 12 ^^ s.mbi.lfsr.getLsbD 10)).setWidth 16
        ∧ r = x.toNat % 2 ^ (min (h.collisions + 1) 4) ∧ r < 16
        ∧ t = { s with mbi := { s.mbi with
            lfsr := x, inHand := some { h with collisions := h.collisions + 1, phase := .backoff r } } })
    ∧ (h.phase ≠ .sending → exec .collision s = .next s)
    ∧ (∀ r, h.phase = .backoff r → exec .backoffEnd s
      = .next { s with mbi := { s.mbi with inHand := some { h with phase := .waitIdle } } })
    ∧ ((∀ r, h.phase ≠ .backoff r) → exec .backoffEnd s = .next s)

/-- The end of a DELTA or DROP (R45 to R47, R20, R100): completion starts the receipt timer of each of its records, and for a DELTA sets
peer-may-hold and notes the entries that a refresh walk under way has not yet passed; a frame with a recall mark then returns its slots
to the tail of the Send List in frame order, DIRTY or DROP_DUE with the attempts count at 0. The eighth collision abandons it: its slots go
back to the head of the Send List in frame order, and the mark is discarded. -/
def Obligations.SessionFrameEnds : Prop :=
  ∀ (s : State) (h : InHand), s.evp.resetHeld = false → s.mbi.inHand = some h → (h.frame = .delta ∨ h.frame = .drop) →
    h.secondCopy = false → h.completedAny = false → h.phase = .sending → s.listsAgree = true →
    let slots := (s.rpu.inFlight.filter fun r => r.transmitting).map fun r => r.slot
    let back (e : Entry) : EntryState := if e.state = .sent ∨ e.state = .changed then .dirty else .dropDue
    let completed (x : Slot) (e : Entry) : Entry :=
      if h.frame = .delta ∧ x ∈ slots then
        { e with peerMayHold := true, noted := e.noted || s.smt.refreshWalk.any fun c => decide (c ≤ x.toNat) }
      else e
    let ended (t : State) : State :=
      { s with mbi := { s.mbi with inHand := none }, rpu := t.rpu, smt := { s.smt with table := t.smt.table } }
    (s.rpu.recallMark = false → ∃ t, exec .frameComplete s = .next t
      ∧ t.rpu = { s.rpu with inFlight := s.rpu.inFlight.map fun r =>
          if r.transmitting then { r with transmitting := false, completion := some s.clock } else r }
      ∧ (∀ x, t.entry x = (s.entry x).map (completed x))
      ∧ t = ended t)
    ∧ (s.rpu.recallMark = true → ∃ t, exec .frameComplete s = .next t
      ∧ t.rpu = { s.rpu with
          sendList := s.rpu.sendList ++ slots
          inFlight := s.rpu.inFlight.filter fun r => !r.transmitting
          recallMark := false }
      ∧ (∀ x, t.entry x = (s.entry x).map fun e =>
          if x ∈ slots then { completed x e with state := back e, attempts := 0 } else e)
      ∧ t = ended t)
    ∧ (h.collisions = 7 → ∃ t, exec .collision s = .next t
      ∧ t.rpu = { s.rpu with
          sendList := slots ++ s.rpu.sendList
          inFlight := s.rpu.inFlight.filter fun r => !r.transmitting
          recallMark := false }
      ∧ (∀ x, t.entry x = (s.entry x).map fun e => if x ∈ slots then { e with state := back e } else e)
      ∧ t = ended t)

/-- The end of a frame in hand (R96, R100, R108, R116, R122, R132, R149, R73). After the first copy of a role frame, completed or abandoned,
the copy on the other lane follows where that lane is then UP or DEGRADED (log 21); the last copy ends the frame, which has succeeded if
any copy completed. A CLAIM that has succeeded starts the dead time of its claim, and a PREEMPT claim that holds a CONCEDE by then keeps to the
dead time alone (log 11); a CLAIM whose copies all failed is queued again with the latched merit, as an ANSWER or YIELD of a member is,
in the place of a newer one of its subject that waits (R97; log 17); one whose group has changed role since, which the model keeps as a
flag of the frame in hand (log 17), is dropped. A witness queues an abandoned VOTE again while its grant stands and an abandoned DENY unless
an ANSWER for its subject waits, and neither once its latch is set (R149, R151). A completed PULSE makes its merits the sent merits of a
member. A frame other than an ALIGN whose lane leaves UP and DEGRADED by a line fault ends as it does by its eighth collision (R100). -/
def Obligations.RoleFrameEndsWithItsLastCopy : Prop :=
  (∀ (s : State) (h : InHand), s.evp.resetHeld = false → s.mbi.inHand = some h → h.phase = .sending →
    let ended : State := { s with mbi := { s.mbi with inHand := none } }
    let follows (any : Bool) : State := { s with mbi := { s.mbi with inHand := some { h with
      lane := h.lane.other, secondCopy := false, completedAny := any, collisions := 0, phase := .waitIdle } } }
    (h.secondCopy = true → s.laneUsable h.lane.other = true →
      exec .frameComplete s = .next (follows true)
      ∧ (h.collisions = 7 → exec .collision s = .next (follows h.completedAny)))
    ∧ (h.secondCopy = false ∨ s.laneUsable h.lane.other = false →
      (∀ f c, h.frame = .claim f → (s.group f.group).claim = some c → c.number = f.number →
        exec .frameComplete s = .next (ended.withPart (ended.toPart.setGroup f.group { s.group f.group with
          claim := some { c with
            txTick := some s.clock
            deadline := some (s.clock + BitVec.ofNat 32
              (if c.kind = .preempt ∧ c.activeVerdict = none then s.handoverTimeout + s.deadTime else s.deadTime)) }
          deadTimer := some (s.clock + BitVec.ofNat 32 s.deadTime) })))
      ∧ (∀ f, h.frame = .claim f → (∀ c, (s.group f.group).claim = some c → c.number ≠ f.number) →
        exec .frameComplete s = .next ended)
      ∧ (∀ m, h.frame = .pulse m → s.isMember = true → ∃ t, exec .frameComplete s = .next t
        ∧ (∀ g, t.group g = { (s.group g) with sentMerit := m.get g }) ∧ t.rcu.pulseSent = true
        ∧ t = { ended with rcu := t.rcu } ∧ t.rcu.fence = s.rcu.fence ∧ t.rcu.latch = s.rcu.latch
        ∧ t.rcu.silence = s.rcu.silence)
      ∧ ((∃ m, h.frame = .pulse m ∧ s.isMember = false) ∨ (∃ l, h.frame = .align l) ∨ (∃ a, h.frame = .answer a)
          ∨ (∃ g, h.frame = .yield g) →
        exec .frameComplete s = .next ended)
      ∧ (h.frame = .receipt → exec .frameComplete s = .next { ended with
        rpu := { s.rpu with receipts := s.rpu.receipts.filter fun r => !r.transmitting } })
      ∧ (h.collisions = 7 → h.completedAny = true → exec .collision s = exec .frameComplete s)
      ∧ (h.collisions = 7 → h.completedAny = false →
        (∀ f c, h.frame = .claim f → (s.group f.group).claim = some c → c.number = f.number →
          exec .collision s = .next (ended.withPart (ended.toPart.queueClaim { f with merit := s.ppu.merits.get f.group })))
        ∧ (∀ f, h.frame = .claim f → (∀ c, (s.group f.group).claim = some c → c.number ≠ f.number) →
          exec .collision s = .next ended)
        ∧ (∀ g, h.frame = .yield g →
          (h.stale = false → exec .collision s = .next (ended.withPart (ended.toPart.queueYield g)))
          ∧ (h.stale = true → exec .collision s = .next ended))
        ∧ (∀ a, h.frame = .answer a → s.isWitness = false →
          (h.stale = false → exec .collision s = .next (ended.withPart (ended.toPart.queueAnswer a)))
          ∧ (h.stale = true → exec .collision s = .next ended))
        ∧ (∀ a, h.frame = .answer a → s.isWitness = true →
          let granted := ∃ x, (s.vote a.group).grant = some x ∧ x.grantee = a.claimer ∧ x.number = a.number
          let waits := ∃ x ∈ s.mbi.answers, x.group = a.group ∧ x.claimer = a.claimer
          (s.rcu.latch = true ∨ (a.verdict = .vote ∧ ¬ granted) ∨ (a.verdict ≠ .vote ∧ waits) →
            exec .collision s = .next ended)
          ∧ (s.rcu.latch = false → (a.verdict = .vote ∧ granted) ∨ (a.verdict ≠ .vote ∧ ¬ waits) →
            exec .collision s = .next (ended.withPart (ended.toPart.queueAnswer a))))
        ∧ (h.frame = .receipt → exec .collision s = .next { ended with
          rpu := { s.rpu with receipts := s.rpu.receipts.map fun r => { r with transmitting := false } } })
        ∧ ((∃ m, h.frame = .pulse m) ∨ (∃ l, h.frame = .align l) → exec .collision s = .next ended))))
  ∧ (∀ (s : State) (h : InHand) (report : LineReport), s.evp.resetHeld = false → s.mbi.inHand = some h →
      (∀ l, h.frame ≠ .align l) → s.laneUsable h.lane = true → report ≠ .noFault →
      ∃ t u, exec (.lineFault h.lane report) s = .next t
        ∧ exec .collision { s with mbi := { s.mbi with inHand := some { h with phase := .sending, collisions := 7 } } } = .next u
        ∧ t.mbi = { u.mbi with lanes := t.mbi.lanes, workingLane := t.mbi.workingLane }
        ∧ t.rpu = u.rpu ∧ t.smt = u.smt ∧ t.rcu = u.rcu ∧ t.wtu = u.wtu)
  ∧ (∀ (p : Part) (g : Group) (new : Role) (cause : RoleCause),
      (p.setRole g new cause).mbi = { p.mbi with
        answers := p.mbi.answers.filter fun a => decide (a.group ≠ g)
        claims := p.mbi.claims.filter fun c => decide (c.group ≠ g)
        yields := p.mbi.yields.filter fun x => decide (x ≠ g)
        inHand := p.mbi.inHand.map fun h => if h.frame.ofRole g then { h with stale := true } else h })

/-- RECEIPT_TIMER_EXPIRY, PAUSE_TIMER_EXPIRY and RECEIPT_DELAY (R51 to R54, R72). The first In-Flight record that has waited a receipt
timeout leaves the list and its entry goes to the tail of the Send List with one more attempt. The eighth attempt pauses replication
instead: every completed record returns, that entry first, every owned entry's attempts count is 0, a DELTA or DROP in hand takes a
recall mark, and the pause runs for one hold-down. The pause flag clears when its timer has run out. A pair of the
Receipt Queue that has waited 2 ms is noted so, which stays for as long as it is in the queue, and the transmitter looks for a frame at
once (log 24). Before their time none does anything, the model's choice (log 2). -/
def Obligations.ReplicationTimersRunOut : Prop :=
  (∀ (s : State) (early late : List InFlight) (r : InFlight) (t0 : Tick) (e : Entry), s.evp.resetHeld = false →
      (s.rpu.inFlight = early ++ r :: late → (∀ x ∈ early, s.receiptRanOut x = false) → r.transmitting = false →
        r.completion = some t0 → min 500 (max 20 (2 * s.pulseInterval)) ≤ (s.clock - t0).toNat →
        s.entry r.slot = some e → s.listsAgree = true →
        (e.attempts < 7 → ∃ t, exec .receiptTimerExpiry s = .next t
          ∧ (∀ x, t.entry x = if x = r.slot then
              some { e with
                state := if e.state = .sent ∨ e.state = .changed then .dirty else .dropDue
                attempts := e.attempts + 1 }
            else s.entry x)
          ∧ t = { s with
              smt := { s.smt with table := t.smt.table }
              rpu := { s.rpu with
                sendList := s.rpu.sendList ++ [r.slot], inFlight := early ++ late } })
        ∧ (e.attempts = 7 → ∃ t, exec .receiptTimerExpiry s = .next t
          ∧ t.rpu.pauseFlag = true
          ∧ t.rpu.pauseTimer = some (s.clock + BitVec.ofNat 32 s.holdDown)
          ∧ t.rpu.sendList = s.rpu.sendList ++ r.slot ::
              (((early ++ late).filter fun x => !x.transmitting).map fun x => x.slot)
          ∧ t.rpu.inFlight = s.rpu.inFlight.filter (fun x => x.transmitting)
          ∧ (∀ x e', t.entry x = some e' → e'.state.owned = true → e'.attempts = 0)
          ∧ t.rpu.recallMark = (s.rpu.recallMark || (s.mbi.inHand.any fun h => h.frame.session))
          ∧ t.rpu.receipts = s.rpu.receipts ∧ t.rpu.revoke = s.rpu.revoke
          ∧ t = { s with smt := { s.smt with table := t.smt.table }, rpu := t.rpu }))
      ∧ ((∀ x ∈ s.rpu.inFlight, s.receiptRanOut x = false) → exec .receiptTimerExpiry s = .next s))
  ∧ (∀ s : State, s.evp.resetHeld = false →
      (∀ d, s.rpu.pauseTimer = some d →
        (s.reached d = true → exec .pauseTimerExpiry s
          = .next { s with rpu := { s.rpu with pauseFlag := false, pauseTimer := none } })
        ∧ (s.reached d = false → exec .pauseTimerExpiry s = .next s))
      ∧ (s.rpu.pauseTimer = none → exec .pauseTimerExpiry s = .next s)
      ∧ ((∃ r ∈ s.rpu.receipts, r.waited = false ∧ s.reached (r.join + 2) = true) →
        let noted : State := { s with rpu := { s.rpu with
          receipts := s.rpu.receipts.map fun r => { r with waited := r.waited || s.reached (r.join + 2) } } }
        exec .receiptDelay s = exec .transmitterTake noted
        ∧ (s.mbi.inHand ≠ none → exec .receiptDelay s = .next noted))
      ∧ ((∀ r ∈ s.rpu.receipts, r.waited = true ∨ s.reached (r.join + 2) = false) → exec .receiptDelay s = .next s))
  ∧ (∀ (c : Instr) (s t : State), exec c s = .next t → (s.rpu.receipts.map fun r => r.slot).Nodup →
      ∀ x ∈ s.rpu.receipts, x.waited = true → x.join ≠ s.clock →
      ∀ r ∈ t.rpu.receipts, r.slot = x.slot → r.join = x.join → r.waited = true)

/-- LIVENESS_TIMER_EXPIRY (R111, R55, R47, R94, R115, R135, R138): a LIVE record not heard for a hold-down becomes LOST, keeping all else it
holds, with its PEER notice and an empty copy expectation. The loss of the other member returns every completed In-Flight record: its
slot joins the tail of the Send List in In-Flight order and its entry becomes DIRTY or DROP_DUE; the records in transmission stay, a DELTA
or DROP in hand takes a recall mark, every owned entry's attempts count is 0, and nothing else of the Replication Unit moves, the pause
among it. It ends the yielding of a YIELDING group. An open PREEMPT claim that holds no CONCEDE fails with no
hold-off, and its group goes to STANDBY and on to a VACANT claim where the conditions hold; any other claim stands (R125, R126), unless
NO_QUORUM fences it. Where a witness is configured and now neither other station is LIVE, NO_QUORUM fences
an ACTIVE group. A record heard since stays, the model's choice for an event whose condition does not hold (log 2). The state meets the
invariants that the lists agree with the table and that a takeover walk is under way for an ACTIVE group only. -/
def Obligations.SilenceLosesThePeer : Prop :=
  ∀ (s : State) (y : Station) (t0 : Tick), s.evp.resetHeld = false → (s.peer y).state = .live →
    (s.peer y).lastHeard = some t0 →
    (s.holdDown ≤ (s.clock - t0).toNat → ∃ t, exec (.livenessTimerExpiry y) s = .next t
      ∧ t.ppu = { s.ppu with peers := s.ppu.peers.set y { (s.peer y) with state := .lost } }
      ∧ t.mbi.expect.get y = none
      ∧ (s.evp.peerMarks.get y = false → s.evp.egress.length < 64 →
          (s.evp.egress ++ [.peer y .lost (s.peer y).incarnation]) <+: t.evp.egress)
      ∧ (s.isMember = true → y = s.otherMember →
          (s.listsAgree = true → s.walksOk = true →
            let completed := (s.rpu.inFlight.filter fun r => !r.transmitting).map fun r => r.slot
            t.rpu = { s.rpu with
              sendList := s.rpu.sendList ++ completed
              inFlight := s.rpu.inFlight.filter fun r => r.transmitting
              recallMark := s.rpu.recallMark || (s.mbi.inHand.any fun h => h.frame.session) }
            ∧ ∀ x, t.entry x = (s.entry x).map fun e => { e with
                state := if x ∈ completed then if e.state = .sent ∨ e.state = .changed then .dirty else .dropDue else e.state
                attempts := if e.state.owned then 0 else e.attempts })
          ∧ t.rpu.receipts = s.rpu.receipts
          ∧ (∀ g, s.role g = .yielding → t.role g ≠ .yielding ∧ (t.group g).pendingFrame = none)
          ∧ (∀ g own, s.role g = .claiming → (s.group g).claim = some own →
              (s.witnessConfigured = false ∨ s.peerLive .s2 = true ∨ (s.role g.other).serving = false) →
              let stands := own.kind ≠ .preempt ∨ ∃ v, own.activeVerdict = some v ∧ v.verdict = .concede
              let claims := s.ppu.merits.get g ≠ 0 ∧ (s.group g).holdOff = none
                ∧ (s.witnessConfigured = false ∨ (s.peerLive .s2 = true ∧ s.witnessHearsNeither = true))
              (stands → t.group g = s.group g)
              ∧ (¬ stands → (t.group g).holdOff = (s.group g).holdOff
                ∧ (¬ claims → t.role g = .standby ∧ (t.group g).claim = none)
                ∧ (claims → t.role g = .claiming
                  ∧ ((t.group g).claim.map fun c => (c.kind, c.number)) = some (.vacant, (s.group g).claimNumber + 1)))))
      ∧ (s.isMember = true → s.witnessConfigured = true → s.rcu.fence.any = false →
          (s.peerLive s.otherMember = false ∨ y = s.otherMember) → (s.peerLive .s2 = false ∨ y = .s2) →
          ∀ g, s.role g = .active →
          t.role g = .fenced ∧ (t.group g).fp = false ∧ t.rcu.fence.noQuorum = true)
      ∧ t.clock = s.clock ∧ t.profile = s.profile)
    ∧ ((s.clock - t0).toNat < s.holdDown → exec (.livenessTimerExpiry y) s = .next s)

/-- PULSE_EPOCH and ENGINE_SILENCE_TIMER_EXPIRY. The next epoch is one pulse interval on and a PULSE is due; a member latches the pending
health, computes both merits from it and from the lane states, and ENGINE_UNFIT applies exactly while the health is 0 (R102, R103, R105,
R137, R144); a witness does nothing else. The engine silence timer stops and ENGINE_SILENT applies; where it is the first cause every
group that is not DORMANT is FENCED with its FP line low, and one that was ACTIVE starts its forget walk; a further cause moves no role
(R36, R140, R130). Before their time neither does anything, the model's choice (log 2). -/
def Obligations.HealthMeritsAndEngineFences : Prop :=
  (∀ (s : State) (d : Tick) (c : Profile), s.evp.resetHeld = false → s.ppu.epoch = some d → s.profile = some c →
      (s.reached d = true →
        let health := s.ppu.pendingHealth
        let penalty := if (s.lane .a).state ≠ .up ∧ (s.lane .b).state ≠ .up then 32 else 0
        (c.station ≠ .s2 → ∃ t, exec .pulseEpoch s = .next t
          ∧ t.ppu = { s.ppu with
              epoch := some (d + BitVec.ofNat 32 c.pulseInterval)
              currentHealth := health
              merits := { g0 := BitVec.ofNat 8 (c.base.g0.toNat * health.toNat / 100 - penalty)
                          g1 := BitVec.ofNat 8 (c.base.g1.toNat * health.toNat / 100 - penalty) } }
          ∧ t.mbi.pulseDue = true
          ∧ t.rcu.fence.engineUnfit = decide (health = 0)
          ∧ t.rcu.fence.engineSilent = s.rcu.fence.engineSilent
          ∧ (health = 0 → s.rcu.fence.any = false → ∀ g, s.role g ≠ .dormant → s.role g ≠ .fenced →
              t.role g = .fenced ∧ (t.group g).fp = false)
          ∧ t.clock = s.clock)
        ∧ (c.station = .s2 → exec .pulseEpoch s = .next { s with
            mbi := { s.mbi with pulseDue := true }
            ppu := { s.ppu with epoch := some (d + BitVec.ofNat 32 c.pulseInterval) } }))
      ∧ (s.reached d = false → exec .pulseEpoch s = .next s))
  ∧ (∀ (s : State) (d : Tick), s.evp.resetHeld = false → s.rcu.silence = some d →
      (s.reached d = true →
        (s.rcu.fence.any = false → ∃ t, exec .engineSilenceTimerExpiry s = .next t
          ∧ t.rcu.silence = none ∧ t.rcu.fence = { s.rcu.fence with engineSilent := true }
          ∧ (∀ g, s.role g ≠ .dormant → s.role g ≠ .fenced →
              t.role g = .fenced ∧ (t.group g).fp = false ∧ (t.group g).claim = none
              ∧ (t.group g).pendingFrame = none ∧ (t.group g).holdOff = (s.group g).holdOff)
          ∧ (∀ g, s.role g = .active → t.smt.forget.get g = some 0 ∧ t.smt.takeover.get g = none)
          ∧ t.ppu = s.ppu ∧ t.clock = s.clock)
        ∧ (s.rcu.fence.any = true → exec .engineSilenceTimerExpiry s
          = .next { s with rcu := { s.rcu with silence := none, fence := { s.rcu.fence with engineSilent := true } } }))
      ∧ (s.reached d = false → exec .engineSilenceTimerExpiry s = .next s))

/-- LISTEN_TIMER_EXPIRY, VACANCY_TIMER_EXPIRY and HOLD_OFF_EXPIRY (R119, R120, R121, R128): the end of the listen timer claims the
group VACANT where the conditions of R121 hold and goes to STANDBY otherwise; the vacancy timer, run out, lets STANDBY claim; the
hold-off ends and the group is evaluated. Before their time none does anything, the model's choice (log 2). -/
def Obligations.GroupTimersLeadToClaims : Prop :=
  ∀ (s : State) (g : Group) (d : Tick), s.evp.resetHeld = false →
    (s.role g = .listen → (s.group g).listen = some d →
      (s.reached d = true → ∃ t, exec (.listenTimerExpiry g) s = .next t
        ∧ (s.vacantConditions g = true → t.role g = .claiming
            ∧ ((t.group g).claim.map fun c => (c.kind, c.number)) = some (.vacant, (s.group g).claimNumber + 1))
        ∧ (s.vacantConditions g = false → t.role g = if s.preemptConditions g then .claiming else .standby)
        ∧ t.smt = s.smt ∧ t.rpu = s.rpu ∧ t.ppu = s.ppu)
      ∧ (s.reached d = false → exec (.listenTimerExpiry g) s = .next s))
    ∧ (s.role g = .standby → (s.group g).vacancy = .running d →
      (s.reached d = true → ∃ t, exec (.vacancyTimerExpiry g) s = .next t
        ∧ (s.vacancyHolds g = true → s.merit g ≠ 0 → s.heldOff g = false →
            (s.witnessConfigured = false ∨ s.peerLive .s2 = true) → t.role g = .claiming
              ∧ ((t.group g).claim.map fun c => (c.kind, c.number)) = some (.vacant, (s.group g).claimNumber + 1))
        ∧ (s.vacancyHolds g = true → s.merit g = 0 → t.group g = { (s.group g) with vacancy := .runOut })
        ∧ t.smt = s.smt ∧ t.rpu = s.rpu ∧ t.ppu = s.ppu)
      ∧ (s.reached d = false → exec (.vacancyTimerExpiry g) s = .next s))
    ∧ ((s.group g).holdOff = some d →
      (s.reached d = true → ∃ t, exec (.holdOffExpiry g) s = .next t
        ∧ (t.group g).holdOff = none ∧ (t.group g.other).holdOff = (s.group g.other).holdOff
        ∧ (s.role g = .standby → s.otherLive = false → s.merit g ≠ 0 → s.witnessConfigured = false →
            t.role g = .claiming)
        ∧ t.smt = s.smt ∧ t.rpu = s.rpu ∧ t.ppu = s.ppu)
      ∧ (s.reached d = false → exec (.holdOffExpiry g) s = .next s))

/-- DEAD_TIME_EXPIRY (R124 to R126, R128, R129, R117): a claim whose deadline is reached enters ACTIVE, with FPg high and the takeover
walk at slot 0, when it is HANDED, holds a CONCEDE, or is VACANT with no witness configured or with its VOTE; while the forget walk
of the group runs it waits; a VACANT claim without its VOTE and a PREEMPT one without a concession fail with the hold-off. An entry to
ACTIVE where a witness is configured and neither other station is LIVE brings NO_QUORUM, and every group is FENCED at once (R138, R140).
Before its time the event does nothing, the model's choice (log 2). -/
def Obligations.ClaimMeetsItsDeadline : Prop :=
  ∀ (s : State) (g : Group) (c : ClaimRecord) (d t0 : Tick),
    s.evp.resetHeld = false → s.role g = .claiming → (s.group g).claim = some c → c.txTick = some t0 →
    c.deadline = some d → c.held = false →
    let wins := c.kind = .handed
      ∨ (c.kind = .vacant ∧ (s.witnessConfigured = false ∨ c.witnessVerdict = some .vote))
      ∨ (c.kind = .preempt ∧ ∃ v, c.activeVerdict = some v ∧ v.verdict = .concede)
    (s.reached d = true → ∃ t, exec (.deadTimeExpiry g) s = .next t
      ∧ (wins → s.smt.forget.get g = none →
          (s.witnessConfigured = false ∨ s.otherLive = true ∨ s.peerLive .s2 = true) →
          t.role g = .active ∧ (t.group g).fp = true ∧ (t.group g).claim = none ∧ t.rpu = s.rpu ∧ t.ppu = s.ppu
          ∧ t.smt = { s.smt with takeover := s.smt.takeover.set g (some { cursor := 0, wait := .none }) })
      ∧ (wins → s.smt.forget.get g = none → s.isMember = true → s.witnessConfigured = true → s.otherLive = false →
          s.peerLive .s2 = false → s.rcu.fence.any = false →
          t.rcu.fence = { s.rcu.fence with noQuorum := true } ∧ (t.group g).claim = none
          ∧ t.smt.forget.get g = some 0 ∧ t.smt.takeover.get g = none
          ∧ ∀ h, h = g ∨ (s.role h ≠ .dormant ∧ s.role h ≠ .fenced) → t.role h = .fenced ∧ (t.group h).fp = false)
      ∧ (wins → s.smt.forget.get g ≠ none →
          t.role g = .claiming ∧ (t.group g).claim = some { c with held := true } ∧ t.smt = s.smt ∧ t.rpu = s.rpu)
      ∧ (¬ wins → t.role g = .standby ∧ (t.group g).claim = none ∧ t.smt = s.smt ∧ t.rpu = s.rpu
          ∧ (t.group g).holdOff = some (s.clock + BitVec.ofNat 32 (8 * s.pulseInterval))))
    ∧ (s.reached d = false → (∀ x, (s.group g).deadTimer = some x → s.reached x = false) →
      exec (.deadTimeExpiry g) s = .next s)

/-- HANDOVER_TIMER_EXPIRY and the flush test (R134, R142): a YIELDING group with no outstanding entry, or whose handover timer has run
out, goes to STANDBY with its pending frame queued, a CONCEDE with the incomplete flag where the timer ran out; any other group stays.
The other member is LIVE and its standing is STANDBY or CLAIMING. A handover timer that has not run out changes nothing, the model's
choice (log 2). -/
def Obligations.YieldingEndsWithItsFrame : Prop :=
  (∀ (s : State) (g : Group) (d : Tick), s.evp.resetHeld = false → s.role g = .yielding → (s.group g).handover = some d →
      (s.reached d = true → s.otherLive = true → (s.standing g = some .standby ∨ s.standing g = some .claiming) →
        ∃ t, exec (.handoverTimerExpiry g) s = .next t
          ∧ t.role g = .standby ∧ (t.group g).handover = none ∧ (t.group g).pendingFrame = none
          ∧ (∀ claimer number, (s.group g).pendingFrame = some (.concede claimer number) →
              { group := g, claimer := claimer, verdict := .concede, number := number, incomplete := true } ∈ t.mbi.answers)
          ∧ ((s.group g).pendingFrame = some .yield → g ∈ t.mbi.yields)
          ∧ (s.evp.roleMarks.get g = none → s.evp.egress.length < 64 →
              (s.evp.egress ++ [.role g .standby .handoverTimeout false]) <+: t.evp.egress)
          ∧ t.smt = s.smt ∧ t.rpu = s.rpu ∧ t.ppu = s.ppu)
      ∧ (s.reached d = false → exec (.handoverTimerExpiry g) s = .next s))
  ∧ (∀ (p : Part) (g : Group),
      (p.role g ≠ .yielding ∨ p.outstanding g ≠ 0 → p.flushTest g = p)
      ∧ (p.role g = .yielding → p.outstanding g = 0 → p.otherLive = true →
          (p.standing g = some .standby ∨ p.standing g = some .claiming) →
        (p.flushTest g).role g = .standby
        ∧ ((p.flushTest g).group g).pendingFrame = none ∧ ((p.flushTest g).group g).handover = none
        ∧ (p.flushTest g).group g.other = p.group g.other
        ∧ (∀ claimer number, (p.group g).pendingFrame = some (.concede claimer number) →
            { group := g, claimer := claimer, verdict := .concede, number := number, incomplete := false }
              ∈ (p.flushTest g).mbi.answers)
        ∧ ((p.group g).pendingFrame = some .yield → g ∈ (p.flushTest g).mbi.yields)
        ∧ (p.flushTest g).smt = p.smt ∧ (p.flushTest g).rpu = p.rpu ∧ (p.flushTest g).ppu = p.ppu))

/-- The evaluation of a group (R118 to R121): LISTEN goes to STANDBY when the other member serves the group or is LIVE and claims it,
and where the other member is ACTIVE that STANDBY claims at once where the PREEMPT conditions hold; a vacant STANDBY group whose VACANT
conditions hold claims it, and one whose PREEMPT conditions hold claims that; a STANDBY group with merit 0, and every group in another
role, stays. -/
def Obligations.EvaluationOfAGroup : Prop :=
  ∀ (p : Part) (g : Group),
    (p.role g ≠ .listen → p.role g ≠ .standby → p.evaluate g = p)
    ∧ (p.role g = .listen → p.otherLive = false ∨ (p.standing g ≠ some .active ∧ p.standing g ≠ some .yielding
        ∧ p.standing g ≠ some .claiming) → p.evaluate g = p)
    ∧ (p.role g = .listen → p.otherLive = true → (p.standing g = some .yielding ∨ p.standing g = some .claiming) →
        (p.evaluate g).role g = .standby)
    ∧ (∀ c m, p.profile = some c → p.role g = .listen → p.otherLive = true → p.standing g = some .active →
        (p.peer p.otherMember).merits.get g = some m →
        (c.preempt.get g = false ∨ p.merit g < m.toNat + c.margin.toNat ∨ p.heldOff g = true →
          (p.evaluate g).role g = .standby)
        ∧ (c.preempt.get g = true → m.toNat + c.margin.toNat ≤ p.merit g → p.heldOff g = false →
          (p.evaluate g).role g = .claiming
          ∧ (((p.evaluate g).group g).claim.map fun c => (c.kind, c.number)) = some (.preempt, (p.group g).claimNumber + 1)))
    ∧ (p.role g = .standby → p.otherLive = false ∨ (p.group g).rebirthMark = true → p.merit g ≠ 0 →
        p.heldOff g = false → p.witnessConfigured = false ∨ (p.peerLive .s2 = true ∧ p.witnessHearsNeither = true) →
        (p.evaluate g).role g = .claiming
        ∧ (((p.evaluate g).group g).claim.map fun c => (c.kind, c.number)) = some (.vacant, (p.group g).claimNumber + 1)
        ∧ { group := g, kind := .vacant, number := (p.group g).claimNumber + 1, merit := p.ppu.merits.get g }
            ∈ (p.evaluate g).mbi.claims)
    ∧ (∀ c m, p.profile = some c → p.role g = .standby → p.otherLive = true → (p.group g).rebirthMark = false →
        p.standing g = some .active → c.preempt.get g = true → (p.peer p.otherMember).merits.get g = some m →
        m.toNat + c.margin.toNat ≤ p.merit g → p.heldOff g = false →
        (p.evaluate g).role g = .claiming
        ∧ (((p.evaluate g).group g).claim.map fun c => (c.kind, c.number)) = some (.preempt, (p.group g).claimNumber + 1))
    ∧ (p.role g = .standby → p.merit g = 0 → p.margin ≠ 0 → (p.evaluate g).role g = .standby)
    ∧ (p.evaluate g).group g.other = p.group g.other ∧ (p.evaluate g).smt = p.smt ∧ (p.evaluate g).rpu = p.rpu

/-- HEALTH_WINDOW_END, QUIET_EXPIRY, RETRAIN_TIMER_EXPIRY, ALIGN_DUE, LINE_FAULT and LINE_FAULT_CLEAR (R81 to R86, R100). Each window is
followed by the next with a count of 0, and takes a DEGRADED lane with at most 1 bad frame to UP; a lane quiet for a hold-down goes DOWN
where the other lane has taken a valid frame within it, and otherwise stays, until a valid frame of any kind and any sender on the other
lane brings the late evidence that takes it DOWN (R84); 500 ms after DOWN the lane trains again if its monitor then
reports no fault; a lane in TRAINING has an ALIGN due every 10 ms. A line fault takes a lane that is TRAINING, UP or DEGRADED to DOWN; a
lane OFF or DOWN only takes the report. A report of no fault takes a lane that is DOWN past its retrain timer to TRAINING. -/
def Obligations.LanesFollowTimersAndFaults : Prop :=
  (∀ (s : State) (l : Lane), s.evp.resetHeld = false →
      (∀ d, (s.lane l).windowEnd = some d → s.reached d = true →
        ((s.lane l).state = .up ∨ ((s.lane l).state = .degraded ∧ 2 ≤ (s.lane l).badCount) →
          exec (.healthWindowEnd l) s = .next { s with mbi := { s.mbi with
            lanes := s.mbi.lanes.set l { s.lane l with windowEnd := some (d + 1000), badCount := 0 } } })
        ∧ ((s.lane l).state = .degraded → (s.lane l).badCount < 2 → ∃ t, exec (.healthWindowEnd l) s = .next t
          ∧ t.lane l = { (s.lane l) with state := .up, windowEnd := some (d + 1000), badCount := 0 }
          ∧ t.lane l.other = s.lane l.other ∧ t.ppu = s.ppu
          ∧ (s.evp.laneMarks.get l = false → s.evp.egress.length < 64 →
              t.evp = { s.evp with egress := s.evp.egress ++ [.lane l .up] })))
      ∧ (∀ t0, s.laneUsable l = true → (s.lane l).quietElapsed = false → (s.lane l).lastValid = some t0 →
          s.holdDown ≤ (s.clock - t0).toNat →
        ((∀ t1, (s.lane l.other).lastValid = some t1 → s.holdDown ≤ (s.clock - t1).toNat) →
          exec (.quietExpiry l) s = .next { s with mbi := { s.mbi with
            lanes := s.mbi.lanes.set l { s.lane l with quietElapsed := true } } })
        ∧ (∀ t1, (s.lane l.other).lastValid = some t1 → (s.clock - t1).toNat < s.holdDown →
          ∃ t, exec (.quietExpiry l) s = .next t
            ∧ t.lane l = { (s.lane l) with
                state := .down, windowEnd := none, badCount := 0, quietElapsed := false, retrain := some (s.clock + 500),
                alignMark := none, alignDue := false }
            ∧ t.lane l.other = s.lane l.other ∧ t.ppu = s.ppu ∧ t.mbi.workingLane ≠ some l
            ∧ (s.evp.laneMarks.get l = false → s.evp.egress.length < 64 →
                t.evp = { s.evp with egress := s.evp.egress ++ [.lane l .down] })))
      ∧ (∀ d, (s.lane l).state = .down → (s.lane l).retrain = some d → s.reached d = true →
        (∀ report, report ≠ .noFault → exec (.retrainTimerExpiry l report) s = .next { s with mbi := { s.mbi with
          lanes := s.mbi.lanes.set l { s.lane l with retrain := none, monitor := report } } })
        ∧ ∃ t, exec (.retrainTimerExpiry l .noFault) s = .next t
          ∧ t.lane l = { (s.lane l) with
              state := .training, monitor := .noFault, windowEnd := none, badCount := 0, retrain := none,
              alignMark := some (s.clock + 10), alignDue := true }
          ∧ t.lane l.other = s.lane l.other ∧ t.ppu = s.ppu)
      ∧ (∀ d, (s.lane l).state = .training → (s.lane l).alignMark = some d → s.reached d = true →
        exec (.alignDue l) s = .next { s with mbi := { s.mbi with
          lanes := s.mbi.lanes.set l { s.lane l with alignMark := some (d + 10), alignDue := true } } }))
  ∧ (∀ (s : State) (l : Lane) (report : LineReport), s.evp.resetHeld = false → report ≠ .noFault →
      ((s.lane l).state = .off ∨ (s.lane l).state = .down →
        exec (.lineFault l report) s = .next { s with mbi := { s.mbi with
          lanes := s.mbi.lanes.set l { s.lane l with monitor := report } } })
      ∧ ((s.lane l).state ≠ .off → (s.lane l).state ≠ .down → ∃ t, exec (.lineFault l report) s = .next t
        ∧ t.lane l = { (s.lane l) with
            state := .down, monitor := report, windowEnd := none, badCount := 0, quietElapsed := false,
            retrain := some (s.clock + 500), alignMark := none, alignDue := false }
        ∧ t.lane l.other = s.lane l.other ∧ t.ppu = s.ppu ∧ t.mbi.workingLane ≠ some l
        ∧ (∀ h, t.mbi.inHand = some h → s.mbi.inHand = none ∨ h.lane ≠ l)
        ∧ (s.evp.laneMarks.get l = false → s.evp.egress.length < 64 →
            t.evp = { s.evp with egress := s.evp.egress ++ [.lane l .down] }))
      ∧ ((s.lane l).state ≠ .down ∨ (s.lane l).retrain ≠ none →
        exec (.lineFaultClear l) s = .next { s with mbi := { s.mbi with
          lanes := s.mbi.lanes.set l { s.lane l with monitor := .noFault } } })
      ∧ ((s.lane l).state = .down → (s.lane l).retrain = none → ∃ t, exec (.lineFaultClear l) s = .next t
        ∧ t.lane l = { (s.lane l) with
            state := .training, monitor := .noFault, windowEnd := none, badCount := 0, retrain := none,
            alignMark := some (s.clock + 10), alignDue := true }
        ∧ t.lane l.other = s.lane l.other ∧ t.ppu = s.ppu))
  ∧ (∀ (s : State) (l : Lane) (rx : Reception) (f : Frame), s.evp.resetHeld = false → s.takesFrom l rx = true →
      judge rx = .valid f → s.laneUsable l = true → s.laneUsable l.other = true → s.quietFor l.other = true →
      ∃ t, exec (f.content.kind.command l rx) s = .next t
        ∧ t.lane l = { (s.lane l) with lastValid := some s.clock, quietElapsed := false }
        ∧ t.lane l.other = { (s.lane l.other) with
            state := .down, windowEnd := none, badCount := 0, quietElapsed := false, retrain := some (s.clock + 500),
            alignMark := none, alignDue := false }
        ∧ t.mbi.workingLane ≠ some l.other
        ∧ (∀ h, t.mbi.inHand = some h → h.lane ≠ l.other)
        ∧ (s.evp.laneMarks.get l.other = false → s.evp.egress.length < 64 →
            (s.evp.egress ++ [.lane l.other .down]) <+: t.evp.egress))

/-- REFRESH_WALK_VISIT and REFRESH_WALK_END (R16, R19, R20): the visit to the slot at the cursor acts on its entry as R20 gives, with
the flush tests it may meet (R134); past slot 65,535 the walk ends. -/
def Obligations.RefreshWalkMakesEntriesDue : Prop :=
  ∀ (s : State) (c : Nat), s.evp.resetHeld = false → s.smt.refreshWalk = some c →
    (c < 65536 → s.listsAgree = true →
      let slot : Slot := BitVec.ofNat 16 c
      ∃ u : State, exec .refreshWalkVisit s = .next (s.withPart u.toPart.flushTests)
        ∧ (∀ x, u.entry x = if x = slot then (s.entry x).bind fun e =>
            if e.noted then some { e with noted := false }
            else if e.state = .clean then
              some { e with state := .dirty, version := e.version + 1, peerMayHold := false }
            else if e.state = .dirty then some { e with peerMayHold := false }
            else if e.state = .dropDue then none
            else some e
          else s.entry x)
        ∧ u = { s with
            smt := { s.smt with table := u.smt.table, refreshWalk := some (c + 1) }
            rpu := { s.rpu with
              sendList :=
                match s.entry slot with
                | some e =>
                  if e.noted = false ∧ e.state = .clean then s.rpu.sendList ++ [slot]
                  else if e.noted = false ∧ e.state = .dropDue then s.rpu.sendList.filter fun x => decide (x ≠ slot)
                  else s.rpu.sendList
                | none => s.rpu.sendList } })
    ∧ (65536 ≤ c → exec .refreshWalkEnd s = .next { s with smt := { s.smt with refreshWalk := none } })

/-- TAKEOVER_WALK_VISIT and TAKEOVER_WALK_END (R153 to R158, R161 to R163). The visit passes a slot whose entry does not concern the group's
walk, but while the walk waits the cursor stays, whatever has become of the entry (R162); it waits for the release of the buffer that
holds the slot, or for a FREE buffer it lacks; it disposes of an expired entry, also while the walk waits for a FREE buffer, which is the
model's reading of R154 against R162 (log 43); otherwise it adopts a
SHADOW and writes the install record into the walk's FILLING buffer, else into the lowest FREE one, and the sixteenth record posts it.
Past slot 65,535 the walk posts its FILLING buffer, or the lowest FREE one with no record, with the final flag set, and ends; it waits
where it has neither; before that its end changes nothing, the model's choice (log 2). That a visit to a slot held in a non-FREE buffer
waits even where its entry has expired is the model's reading of R162 against R154 (log 16). An act that has made a buffer FREE serves a
walk that waits: it takes its visit on the entry as it then stands, or its end, but one that waits for the release of the buffer that
holds its slot waits for that buffer (R162, R164); of two that wait either may be first (log 8). -/
def Obligations.TakeoverWalkVisitsAndEnds : Prop :=
  (∀ (s : State) (g : Group) (w : TakeoverWalk), s.evp.resetHeld = false → s.smt.takeover.get g = some w → w.cursor < 65536 →
      s.listsAgree = true →
      let slot : Slot := BitVec.ofNat 16 w.cursor
      let past (t : State) : Prop := t.smt.takeover = s.smt.takeover.set g (some { cursor := w.cursor + 1, wait := .none })
      ((∀ e, s.entry slot = some e → e.group ≠ g ∨ e.installed = true ∨ e.state.closing = true) →
        (w.wait = .none → exec (.takeoverWalkVisit g) s = .next { s with smt := { s.smt with
          takeover := s.smt.takeover.set g (some { cursor := w.cursor + 1, wait := .none }) } })
        ∧ (w.wait ≠ .none → exec (.takeoverWalkVisit g) s = .next s))
      ∧ (∀ e, s.entry slot = some e → e.group = g → e.installed = false → e.state.closing = false →
        (s.slotBuffered slot = true → exec (.takeoverWalkVisit g) s = .next { s with smt := { s.smt with
            takeover := s.smt.takeover.set g (some { cursor := w.cursor, wait := .release }) } })
        ∧ (s.slotBuffered slot = false → s.expired e = false → s.fillingBuffer g = none → s.freeBuffer = none →
          exec (.takeoverWalkVisit g) s = .next { s with smt := { s.smt with
            takeover := s.smt.takeover.set g (some { cursor := w.cursor, wait := .buffer }) } })
        ∧ (s.slotBuffered slot = false → s.expired e = true → ∃ t, exec (.takeoverWalkVisit g) s = .next t ∧ past t
          ∧ t.tku = s.tku
          ∧ (∀ x, t.entry x = if x = slot then
              if e.state = .shadow then
                some { e with state := .dropDue, version := e.version + 1, peerMayHold := true, attempts := 0 }
              else if e.state = .dirty ∧ e.peerMayHold = false then none
              else some { e with
                state := if e.state = .clean ∨ e.state = .dirty then .dropDue else .dropWait, version := e.version + 1 }
            else s.entry x)
          ∧ t.rpu = { s.rpu with sendList :=
              if e.state = .shadow ∨ e.state = .clean then s.rpu.sendList ++ [slot]
              else if e.state = .dirty ∧ e.peerMayHold = false then s.rpu.sendList.filter fun x => decide (x ≠ slot)
              else s.rpu.sendList })
        ∧ (∀ i recs, s.slotBuffered slot = false → s.expired e = false →
            (s.fillingBuffer g = some i ∧ s.buffer i = .filling g recs
              ∨ s.fillingBuffer g = none ∧ s.freeBuffer = some i ∧ recs = []) →
          ∃ t, exec (.takeoverWalkVisit g) s = .next t ∧ past t
            ∧ (∀ x, t.entry x = if x = slot ∧ e.state = .shadow then
                some { e with state := .dirty, version := e.version + 1, peerMayHold := true, attempts := 0 }
              else s.entry x)
            ∧ t.rpu = { s.rpu with
                sendList := if e.state = .shadow then s.rpu.sendList ++ [slot] else s.rpu.sendList }
            ∧ (recs.length < 15 → t.tku = { s.tku with
                buffers := s.tku.buffers.set i
                  (.filling g (recs ++ [{ record := s.installRecord slot e, taken := false }])) })
            ∧ (recs.length = 15 → t.tku = {
                buffers := s.tku.buffers.set i
                  (.posted g (recs ++ [{ record := s.installRecord slot e, taken := false }]) false false false)
                postOrder := s.tku.postOrder ++ [i] }))))
  ∧ (∀ (s : State) (g : Group) (w : TakeoverWalk), s.evp.resetHeld = false → s.smt.takeover.get g = some w →
      (w.cursor < 65536 → exec (.takeoverWalkEnd g) s = .next s)
      ∧ (65536 ≤ w.cursor →
        (∀ i recs, (s.fillingBuffer g = some i ∧ s.buffer i = .filling g recs
              ∨ s.fillingBuffer g = none ∧ s.freeBuffer = some i ∧ recs = []) →
          exec (.takeoverWalkEnd g) s = .next { s with
            smt := { s.smt with takeover := s.smt.takeover.set g none }
            tku := { buffers := s.tku.buffers.set i (.posted g recs true false false), postOrder := s.tku.postOrder ++ [i] } })
        ∧ (s.fillingBuffer g = none → s.freeBuffer = none → exec (.takeoverWalkEnd g) s = .next { s with smt := { s.smt with
            takeover := s.smt.takeover.set g (some { cursor := w.cursor, wait := .buffer }) } })))
  ∧ (∀ p before : Part,
      (p.freeBuffers ≤ before.freeBuffers → p.serveFreed before = p)
      ∧ (before.freeBuffers < p.freeBuffers →
        (p.walkIsWaiting .g0 = false → p.walkIsWaiting .g1 = false → p.serveFreed before = p)
        ∧ (∀ (g : Group) (w : TakeoverWalk), p.smt.takeover.get g = some w → w.waiting = true →
            p.walkIsWaiting g.other = false →
            let held := w.wait = .release ∧ p.slotBuffered (BitVec.ofNat 16 w.cursor) = true
            (held → p.serveFreed before = p)
            ∧ (¬ held → p.serveFreed before =
                if w.cursor < 65536 then (p.walkTo g w.cursor).takeoverVisit g else (p.walkTo g w.cursor).takeoverEnd g))
        ∧ (p.walkIsWaiting .g0 = true → p.walkIsWaiting .g1 = true →
            ∃ g : Group, p.serveFreed before = (p.drawn.retryWalk g).retryWalk g.other)))

/-- Expiry and windows (R155, R6, R158 to R160). An entry is expired when its idle time, the milliseconds since its reference tick plus its
offset, held at 4,294,967,295, is at least its lifetime multiplied by 1,000, a product of at most 65,535,000. Each TCP direction of an
install record carries its ack_hi and a window from seq_hi less W to seq_hi plus slack plus W, modulo 2^32, whose span is 2W + slack and
below 2^31. An install record carries the entry's slot, group, key, NAT part and tracking state, and what is left of the lifetime in
seconds, rounded up and at least 1. -/
def Obligations.ExpiryAndTakeoverWindows : Prop :=
  (∀ (p : Part) (e : Entry),
      (p.expired e = true ↔
        e.lifetime.toNat * 1000 ≤ min 4294967295 ((p.clock - e.refTick).toNat + e.ageOffset.toNat))
      ∧ e.lifetime.toNat * 1000 ≤ 65535000)
  ∧ (∀ (p : Part) (slot : Slot) (e : Entry),
      let r := p.installRecord slot e
      r.slot = slot ∧ r.group = e.group ∧ r.key = e.key ∧ r.nat = e.nat ∧ (e.tcp = none → r.tcp = none)
      ∧ 1 ≤ r.remaining.toNat
      ∧ (p.expired e = false →
          let left := e.lifetime.toNat * 1000 - min 4294967295 ((p.clock - e.refTick).toNat + e.ageOffset.toNat)
          left ≤ r.remaining.toNat * 1000 ∧ r.remaining.toNat * 1000 < left + 1000))
  ∧ (∀ (p : Part) (slot : Slot) (e : Entry) (t : TcpPart) (c : Profile), e.tcp = some t → p.profile = some c →
      ∃ r, (p.installRecord slot e).tcp = some r ∧ r.tracking = t.tracking
        ∧ ∀ (d o : TcpDir) (x : InstallDir), (d = t.fwd ∧ o = t.rev ∧ x = r.fwd ∨ d = t.rev ∧ o = t.fwd ∧ x = r.rev) →
          let w := min 536870912 (max 8192 o.window.toNat)
          let idle := min 4294967295 ((p.clock - e.refTick).toNat + e.ageOffset.toNat)
          let slack := min w (d.rate.toNat * min 65535 (idle + c.transit))
          x.ackHi = d.ackHi
          ∧ x.low = d.seqHi - BitVec.ofNat 32 w
          ∧ x.high = d.seqHi + BitVec.ofNat 32 slack + BitVec.ofNat 32 w
          ∧ (x.high - x.low).toNat = 2 * w + slack
          ∧ 2 * w + slack < 2147483648)

/-- Invariant: FPg follows the role (R117, R129, R130). -/
def Obligations.ForwardingPermitFollowsTheRole : Prop :=
  ∀ s t : State, s.fpFollows = true → step s = .next t → t.fpFollows = true

/-- Invariant: the FIFOs and lists keep to their places (R44, R61, R71, R75, R171, R178). -/
def Obligations.ListsKeepToTheirPlaces : Prop :=
  ∀ s t : State, s.bounded = true → step s = .next t → t.bounded = true

/-- Invariant: the session table keeps its canonical form, each entry what its state says (R3 to R6, R10 to R12), and the clear walk
leaves nothing behind it while the rest of the part is at its reset state (R17, R176). -/
def Obligations.SessionTableStaysWellFormed : Prop :=
  ∀ s t : State, s.tableOk = true → s.entriesOk = true → s.clearing = true → step s = .next t →
    t.tableOk = true ∧ t.entriesOk = true ∧ t.clearing = true

/-- Invariant: outside the clear walk the Send List and the In-Flight List hold exactly the slots that R37 and R44 say (R14). -/
def Obligations.ReplicationListsAgreeWithTheTable : Prop :=
  ∀ s t : State, s.tableOk = true → s.clearing = true → (s.smt.clearWalk = none → s.listsAgree = true) →
    step s = .next t → t.smt.clearWalk = none → t.listsAgree = true

/-- Invariant: each group holds what its role says, and the roles are FENCED exactly while some cause applies (R116, R137, R140,
R141). -/
def Obligations.RolesAndFencesAgree : Prop :=
  ∀ s t : State, s.groupsOk = true → s.fencesOk = true → step s = .next t → t.groupsOk = true ∧ t.fencesOk = true

/-- Invariant: an installed mark stands only on an entry of a group that is ACTIVE here or whose forget walk has not yet passed the
slot (R169). -/
def Obligations.InstalledMarksBelongToActiveGroups : Prop :=
  ∀ s t : State, s.groupsOk = true → s.fencesOk = true → s.tableOk = true → s.clearing = true →
    (s.smt.clearWalk = none → s.marksOk = true) → step s = .next t → t.smt.clearWalk = none → t.marksOk = true

/-- Invariant: the install buffers keep their sizes, one is FILLING at most for each group, the list of those waiting to be emitted names
each POSTED one not yet emitted once, and a slot appears in one buffer at most (R161, R163). They wait in the order they were posted: a
command emits the first of the list at most, and those posted join at its end (R163). A takeover walk is under way only for an ACTIVE
group, and a buffer is FILLING only for a group whose walk is under way (R153, R161, R166). -/
def Obligations.InstallBuffersStayInOrder : Prop :=
  (∀ s t : State, s.buffersOk = true → s.bufferSlotsOk = true → step s = .next t →
      t.buffersOk = true ∧ t.bufferSlotsOk = true)
  ∧ (∀ (c : Instr) (s t : State), exec c s = .next t → c ≠ .reset →
      ∃ k, k ≤ 1 ∧ s.tku.postOrder.drop k <+: t.tku.postOrder)
  ∧ (∀ s t : State, s.groupsOk = true → s.fencesOk = true → s.buffersOk = true → s.walksOk = true → step s = .next t →
      t.walksOk = true)

/-- Invariant: each lane holds what its state says, both are OFF before the PROFILE (R80 to R85, R101), and the working lane is UP or
DEGRADED and is there exactly while some lane is (R95). In an act that changes a lane's state, the other member's record to or from LIVE,
or, on a member, the heard-lanes that the other member reports, the working lane is the one that R95's steps give: the first UP lane on
which a LIVE other member reports hearing this member, else the first UP lane, else the first DEGRADED one. An act that takes a rebirth
of a LIVE record is left out: the rebirth alone brings no new choice (R112). -/
def Obligations.LanesAndWorkingLaneAgree : Prop :=
  (∀ s t : State, s.lanesOk = true → s.workingLaneOk = true → step s = .next t →
    t.lanesOk = true ∧ t.workingLaneOk = true)
  ∧ (∀ (c : Instr) (s t : State), exec c s = .next t → c ≠ .reset → s.profile ≠ none →
      let before := s.peer s.otherMember
      let now := t.peer t.otherMember
      ((∃ l, (t.lane l).state ≠ (s.lane l).state) ∨ now.state ≠ before.state
        ∨ (s.isMember = true ∧ now.heardLanes ≠ before.heardLanes ∧ now.heardLanes ≠ none)) →
      ¬ (before.state = .live ∧ before.heardLanes ≠ none ∧ now.heardLanes = none) →
      let confirmed (l : Lane) : Bool := t.isMember && decide (now.state = .live) && decide ((t.lane l).state = .up)
        && now.heardLanes.any fun h => heardBit h t.self l
      t.mbi.workingLane =
        if confirmed .a then some .a else if confirmed .b then some .b
        else if (t.lane .a).state = .up then some .a else if (t.lane .b).state = .up then some .b
        else if (t.lane .a).state = .degraded then some .a else if (t.lane .b).state = .degraded then some .b
        else none)

/-- The reset state meets every invariant. -/
def Obligations.ResetMeetsTheInvariants : Prop :=
  State.reset.fpFollows = true ∧ State.reset.bounded = true ∧ State.reset.tableOk = true ∧ State.reset.entriesOk = true
    ∧ State.reset.clearing = true ∧ State.reset.listsAgree = true ∧ State.reset.groupsOk = true
    ∧ State.reset.fencesOk = true ∧ State.reset.marksOk = true ∧ State.reset.buffersOk = true
    ∧ State.reset.bufferSlotsOk = true ∧ State.reset.walksOk = true ∧ State.reset.lanesOk = true ∧ State.reset.workingLaneOk = true

/-- Only the end of a claim's dead time, or the end of the forget walk that held it, raises FPg (R117, R129): whatever else comes, a
line that is low stays low, and a claim for the group had been made and its CLAIM sent; of a claim that the forget walk held, its CLAIM
had been sent in every state that meets the invariant of RolesAndFencesAgree. -/
def Obligations.OnlyAClaimAtItsDeadlineRaisesFp : Prop :=
  ∀ (c : Instr) (s t : State) (g : Group), exec c s = .next t → (s.group g).fp = false → (t.group g).fp = true →
    ∃ r, (s.group g).claim = some r
      ∧ ((c = .deadTimeExpiry g ∧ r.txTick.isSome = true ∧ s.ranOut r.deadline = true ∧ s.smt.forget.get g = none)
        ∨ (c = .forgetWalkEnd g ∧ r.held = true ∧ s.smt.forget.get g ≠ none
          ∧ (s.groupsOk = true → r.txTick.isSome = true)))

/-- Every exit from ACTIVE (R117, R130, R142, R166), whatever command brings it and whatever role follows: in the act by which the role
leaves ACTIVE, FPg is low, the forget walk stands at slot 0, the takeover walk has stopped, no buffer of the group is FILLING and every
POSTED one is void, and the engine is told: where the group holds no mark, a new ROLE notice, with the role that followed ACTIVE, its
cause and changes-skipped clear, stands behind all that the egress FIFO held, less the record that the engine takes in the act; where
it holds one, or the FIFO is full, the notice is coalesced into the mark, which has its left-ACTIVE flag set and the cause of the last
change of the act (R180). A reset is no exit. The state meets the invariants of RolesAndFencesAgree. -/
def Obligations.EveryExitFromActiveDropsFp : Prop :=
  ∀ (c : Instr) (s t : State) (g : Group), s.groupsOk = true → s.fencesOk = true → exec c s = .next t → c ≠ .reset →
    s.role g = .active → t.role g ≠ .active →
    (t.group g).fp = false ∧ t.smt.forget.get g = some 0 ∧ t.smt.takeover.get g = none ∧ t.fillingBuffer g = none
    ∧ (∀ i recs final emitted void, t.buffer i = .posted g recs final emitted void → void = true)
    ∧ (let told (role : Role) (cause : RoleCause) : Prop :=
        (role = .yielding ∧ (cause = .preempted ∨ cause = .handover))
          ∨ (role = .standby ∧ (cause = .splitBrain ∨ cause = .handedAway)) ∨ (role = .fenced ∧ cause = .fence)
      (s.evp.roleMarks.get g = none
        ∧ ∃ role cause added, told role cause ∧ EgressRecord.role g role cause false ∈ added
          ∧ t.evp.egress = s.evp.egress.drop (if c = .egressRecordTaken then 1 else 0) ++ added)
      ∨ ((s.evp.roleMarks.get g ≠ none ∨ 64 ≤ t.evp.egress.length)
        ∧ ∃ m, t.evp.roleMarks.get g = some m ∧ m.leftActive = true
          ∧ (told (t.role g) m.cause ∨ (t.role g = .standby ∧ m.cause = .flushed)
            ∨ (t.role g = .claiming ∧ (m.cause = .vacant ∨ m.cause = .preempt)))))

/-- A grant never passes from one member to the other in one act (R146, R147): a grant that a command makes goes to a member; while
one stands, a VOTE for the group goes to no other member, and it ends only by its lapse or by a reset. -/
def Obligations.AGrantNeverChangesHands : Prop :=
  ∀ (c : Instr) (s t : State) (g : Group), exec c s = .next t → (∀ x, (s.vote g).grant = some x → x.grantee ≠ .s2) →
    (∀ y, (t.vote g).grant = some y → y.grantee ≠ .s2)
    ∧ (∀ x, (s.vote g).grant = some x →
      (∀ y, (t.vote g).grant = some y → y.grantee = x.grantee)
      ∧ ((t.vote g).grant = none → c = .reset ∨ (c = .grantLapse g ∧ s.holdDown ≤ (s.clock - x.tick).toNat)))

/-- Until the next reset the configuration is locked and the duplicate-station latch stays set (R114, R174). -/
def Obligations.ConfigurationAndLatchLastUntilReset : Prop :=
  ∀ (c : Instr) (s t : State), exec c s = .next t → c ≠ .reset →
    (∀ cfg, s.profile = some cfg → t.profile = some cfg) ∧ (s.rcu.latch = true → t.rcu.latch = true)
end

