-- ==== Sys2Proof/Laws/State.lean ====
section
/-! SUPPORT. One lemma for each field and each plain update of the part, true by rfl, so that no proof unfolds a record update;
and reading after writing of the containers and of the records of groups, lanes, peers, buffers and votes. -/

namespace Sys2Proof

@[simp] theorem PerGroup.get_set_same {α : Type} (x : PerGroup α) (g : Group) (v : α) : (x.set g v).get g = v := by
  cases g <;> rfl

theorem PerGroup.get_set_ne {α : Type} (x : PerGroup α) {g h : Group} (v : α) (hne : h ≠ g) :
    (x.set g v).get h = x.get h := by
  cases g <;> cases h <;> first | rfl | exact absurd rfl hne

theorem PerGroup.get_set {α : Type} (x : PerGroup α) (g h : Group) (v : α) :
    (x.set g v).get h = if h = g then v else x.get h := by
  cases g <;> cases h <;> rfl

@[simp] theorem PerGroup.get_both {α : Type} (v : α) (g : Group) : (PerGroup.both v).get g = v := by cases g <;> rfl

@[simp] theorem PerLane.get_set_same {α : Type} (x : PerLane α) (l : Lane) (v : α) : (x.set l v).get l = v := by
  cases l <;> rfl

theorem PerLane.get_set {α : Type} (x : PerLane α) (l m : Lane) (v : α) :
    (x.set l v).get m = if m = l then v else x.get m := by
  cases l <;> cases m <;> rfl

@[simp] theorem PerLane.get_both {α : Type} (v : α) (l : Lane) : (PerLane.both v).get l = v := by cases l <;> rfl

@[simp] theorem PerStation.get_set_same {α : Type} (x : PerStation α) (y : Station) (v : α) : (x.set y v).get y = v := by
  cases y <;> rfl

theorem PerStation.get_set {α : Type} (x : PerStation α) (y z : Station) (v : α) :
    (x.set y v).get z = if z = y then v else x.get z := by
  cases y <;> cases z <;> rfl

@[simp] theorem PerStation.get_all {α : Type} (v : α) (y : Station) : (PerStation.all v).get y = v := by cases y <;> rfl

@[simp] theorem Lane.other_other (l : Lane) : l.other.other = l := by cases l <;> rfl

@[simp] theorem Lane.other_ne (l : Lane) : l.other ≠ l := by cases l <;> decide

namespace Machine

variable (p : Part)

@[simp] theorem Part.setTable_evp (slot : Slot) (e : Option Entry) : (p.setTable slot e).evp = p.evp := rfl
@[simp] theorem Part.setTable_profile (slot : Slot) (e : Option Entry) : (p.setTable slot e).profile = p.profile := rfl
@[simp] theorem Part.setTable_clock (slot : Slot) (e : Option Entry) : (p.setTable slot e).clock = p.clock := rfl
@[simp] theorem Part.setTable_rpu (slot : Slot) (e : Option Entry) : (p.setTable slot e).rpu = p.rpu := rfl
@[simp] theorem Part.setTable_mbi (slot : Slot) (e : Option Entry) : (p.setTable slot e).mbi = p.mbi := rfl
@[simp] theorem Part.setTable_ppu (slot : Slot) (e : Option Entry) : (p.setTable slot e).ppu = p.ppu := rfl
@[simp] theorem Part.setTable_rcu (slot : Slot) (e : Option Entry) : (p.setTable slot e).rcu = p.rcu := rfl
@[simp] theorem Part.setTable_wtu (slot : Slot) (e : Option Entry) : (p.setTable slot e).wtu = p.wtu := rfl
@[simp] theorem Part.setTable_tku (slot : Slot) (e : Option Entry) : (p.setTable slot e).tku = p.tku := rfl
@[simp] theorem Part.setTable_draws (slot : Slot) (e : Option Entry) : (p.setTable slot e).draws = p.draws := rfl

@[simp] theorem Part.setGroup_evp (g : Group) (r : GroupRec) : (p.setGroup g r).evp = p.evp := rfl
@[simp] theorem Part.setGroup_profile (g : Group) (r : GroupRec) : (p.setGroup g r).profile = p.profile := rfl
@[simp] theorem Part.setGroup_clock (g : Group) (r : GroupRec) : (p.setGroup g r).clock = p.clock := rfl
@[simp] theorem Part.setGroup_smt (g : Group) (r : GroupRec) : (p.setGroup g r).smt = p.smt := rfl
@[simp] theorem Part.setGroup_rpu (g : Group) (r : GroupRec) : (p.setGroup g r).rpu = p.rpu := rfl
@[simp] theorem Part.setGroup_mbi (g : Group) (r : GroupRec) : (p.setGroup g r).mbi = p.mbi := rfl
@[simp] theorem Part.setGroup_ppu (g : Group) (r : GroupRec) : (p.setGroup g r).ppu = p.ppu := rfl
@[simp] theorem Part.setGroup_wtu (g : Group) (r : GroupRec) : (p.setGroup g r).wtu = p.wtu := rfl
@[simp] theorem Part.setGroup_tku (g : Group) (r : GroupRec) : (p.setGroup g r).tku = p.tku := rfl
@[simp] theorem Part.setGroup_draws (g : Group) (r : GroupRec) : (p.setGroup g r).draws = p.draws := rfl

@[simp] theorem Part.setLane_evp (l : Lane) (r : LaneRec) : (p.setLane l r).evp = p.evp := rfl
@[simp] theorem Part.setLane_profile (l : Lane) (r : LaneRec) : (p.setLane l r).profile = p.profile := rfl
@[simp] theorem Part.setLane_clock (l : Lane) (r : LaneRec) : (p.setLane l r).clock = p.clock := rfl
@[simp] theorem Part.setLane_smt (l : Lane) (r : LaneRec) : (p.setLane l r).smt = p.smt := rfl
@[simp] theorem Part.setLane_rpu (l : Lane) (r : LaneRec) : (p.setLane l r).rpu = p.rpu := rfl
@[simp] theorem Part.setLane_ppu (l : Lane) (r : LaneRec) : (p.setLane l r).ppu = p.ppu := rfl
@[simp] theorem Part.setLane_rcu (l : Lane) (r : LaneRec) : (p.setLane l r).rcu = p.rcu := rfl
@[simp] theorem Part.setLane_wtu (l : Lane) (r : LaneRec) : (p.setLane l r).wtu = p.wtu := rfl
@[simp] theorem Part.setLane_tku (l : Lane) (r : LaneRec) : (p.setLane l r).tku = p.tku := rfl
@[simp] theorem Part.setLane_draws (l : Lane) (r : LaneRec) : (p.setLane l r).draws = p.draws := rfl

@[simp] theorem Part.setPeer_evp (y : Station) (r : PeerRec) : (p.setPeer y r).evp = p.evp := rfl
@[simp] theorem Part.setPeer_profile (y : Station) (r : PeerRec) : (p.setPeer y r).profile = p.profile := rfl
@[simp] theorem Part.setPeer_clock (y : Station) (r : PeerRec) : (p.setPeer y r).clock = p.clock := rfl
@[simp] theorem Part.setPeer_smt (y : Station) (r : PeerRec) : (p.setPeer y r).smt = p.smt := rfl
@[simp] theorem Part.setPeer_rpu (y : Station) (r : PeerRec) : (p.setPeer y r).rpu = p.rpu := rfl
@[simp] theorem Part.setPeer_mbi (y : Station) (r : PeerRec) : (p.setPeer y r).mbi = p.mbi := rfl
@[simp] theorem Part.setPeer_rcu (y : Station) (r : PeerRec) : (p.setPeer y r).rcu = p.rcu := rfl
@[simp] theorem Part.setPeer_wtu (y : Station) (r : PeerRec) : (p.setPeer y r).wtu = p.wtu := rfl
@[simp] theorem Part.setPeer_tku (y : Station) (r : PeerRec) : (p.setPeer y r).tku = p.tku := rfl
@[simp] theorem Part.setPeer_draws (y : Station) (r : PeerRec) : (p.setPeer y r).draws = p.draws := rfl

@[simp] theorem Part.setBuffer_evp (i : Fin 8) (b : Buffer) : (p.setBuffer i b).evp = p.evp := rfl
@[simp] theorem Part.setBuffer_profile (i : Fin 8) (b : Buffer) : (p.setBuffer i b).profile = p.profile := rfl
@[simp] theorem Part.setBuffer_clock (i : Fin 8) (b : Buffer) : (p.setBuffer i b).clock = p.clock := rfl
@[simp] theorem Part.setBuffer_smt (i : Fin 8) (b : Buffer) : (p.setBuffer i b).smt = p.smt := rfl
@[simp] theorem Part.setBuffer_rpu (i : Fin 8) (b : Buffer) : (p.setBuffer i b).rpu = p.rpu := rfl
@[simp] theorem Part.setBuffer_mbi (i : Fin 8) (b : Buffer) : (p.setBuffer i b).mbi = p.mbi := rfl
@[simp] theorem Part.setBuffer_ppu (i : Fin 8) (b : Buffer) : (p.setBuffer i b).ppu = p.ppu := rfl
@[simp] theorem Part.setBuffer_rcu (i : Fin 8) (b : Buffer) : (p.setBuffer i b).rcu = p.rcu := rfl
@[simp] theorem Part.setBuffer_wtu (i : Fin 8) (b : Buffer) : (p.setBuffer i b).wtu = p.wtu := rfl
@[simp] theorem Part.setBuffer_draws (i : Fin 8) (b : Buffer) : (p.setBuffer i b).draws = p.draws := rfl

@[simp] theorem Part.setVote_evp (g : Group) (v : VoteRecord) : (p.setVote g v).evp = p.evp := rfl
@[simp] theorem Part.setVote_profile (g : Group) (v : VoteRecord) : (p.setVote g v).profile = p.profile := rfl
@[simp] theorem Part.setVote_clock (g : Group) (v : VoteRecord) : (p.setVote g v).clock = p.clock := rfl
@[simp] theorem Part.setVote_smt (g : Group) (v : VoteRecord) : (p.setVote g v).smt = p.smt := rfl
@[simp] theorem Part.setVote_rpu (g : Group) (v : VoteRecord) : (p.setVote g v).rpu = p.rpu := rfl
@[simp] theorem Part.setVote_mbi (g : Group) (v : VoteRecord) : (p.setVote g v).mbi = p.mbi := rfl
@[simp] theorem Part.setVote_ppu (g : Group) (v : VoteRecord) : (p.setVote g v).ppu = p.ppu := rfl
@[simp] theorem Part.setVote_rcu (g : Group) (v : VoteRecord) : (p.setVote g v).rcu = p.rcu := rfl
@[simp] theorem Part.setVote_tku (g : Group) (v : VoteRecord) : (p.setVote g v).tku = p.tku := rfl
@[simp] theorem Part.setVote_draws (g : Group) (v : VoteRecord) : (p.setVote g v).draws = p.draws := rfl

@[simp] theorem Part.setExpect_evp (x : Station) (v : Option (Lane × List Byte)) : (p.setExpect x v).evp = p.evp := rfl
@[simp] theorem Part.setExpect_profile (x : Station) (v : Option (Lane × List Byte)) : (p.setExpect x v).profile = p.profile := rfl
@[simp] theorem Part.setExpect_clock (x : Station) (v : Option (Lane × List Byte)) : (p.setExpect x v).clock = p.clock := rfl
@[simp] theorem Part.setExpect_smt (x : Station) (v : Option (Lane × List Byte)) : (p.setExpect x v).smt = p.smt := rfl
@[simp] theorem Part.setExpect_rpu (x : Station) (v : Option (Lane × List Byte)) : (p.setExpect x v).rpu = p.rpu := rfl
@[simp] theorem Part.setExpect_ppu (x : Station) (v : Option (Lane × List Byte)) : (p.setExpect x v).ppu = p.ppu := rfl
@[simp] theorem Part.setExpect_rcu (x : Station) (v : Option (Lane × List Byte)) : (p.setExpect x v).rcu = p.rcu := rfl
@[simp] theorem Part.setExpect_wtu (x : Station) (v : Option (Lane × List Byte)) : (p.setExpect x v).wtu = p.wtu := rfl
@[simp] theorem Part.setExpect_tku (x : Station) (v : Option (Lane × List Byte)) : (p.setExpect x v).tku = p.tku := rfl
@[simp] theorem Part.setExpect_draws (x : Station) (v : Option (Lane × List Byte)) : (p.setExpect x v).draws = p.draws := rfl

@[simp] theorem Part.setWalk_evp (g : Group) (w : Option TakeoverWalk) : (p.setWalk g w).evp = p.evp := rfl
@[simp] theorem Part.setWalk_profile (g : Group) (w : Option TakeoverWalk) : (p.setWalk g w).profile = p.profile := rfl
@[simp] theorem Part.setWalk_clock (g : Group) (w : Option TakeoverWalk) : (p.setWalk g w).clock = p.clock := rfl
@[simp] theorem Part.setWalk_rpu (g : Group) (w : Option TakeoverWalk) : (p.setWalk g w).rpu = p.rpu := rfl
@[simp] theorem Part.setWalk_mbi (g : Group) (w : Option TakeoverWalk) : (p.setWalk g w).mbi = p.mbi := rfl
@[simp] theorem Part.setWalk_ppu (g : Group) (w : Option TakeoverWalk) : (p.setWalk g w).ppu = p.ppu := rfl
@[simp] theorem Part.setWalk_rcu (g : Group) (w : Option TakeoverWalk) : (p.setWalk g w).rcu = p.rcu := rfl
@[simp] theorem Part.setWalk_wtu (g : Group) (w : Option TakeoverWalk) : (p.setWalk g w).wtu = p.wtu := rfl
@[simp] theorem Part.setWalk_tku (g : Group) (w : Option TakeoverWalk) : (p.setWalk g w).tku = p.tku := rfl
@[simp] theorem Part.setWalk_draws (g : Group) (w : Option TakeoverWalk) : (p.setWalk g w).draws = p.draws := rfl

@[simp] theorem Part.setForget_evp (g : Group) (c : Option Nat) : (p.setForget g c).evp = p.evp := rfl
@[simp] theorem Part.setForget_profile (g : Group) (c : Option Nat) : (p.setForget g c).profile = p.profile := rfl
@[simp] theorem Part.setForget_clock (g : Group) (c : Option Nat) : (p.setForget g c).clock = p.clock := rfl
@[simp] theorem Part.setForget_rpu (g : Group) (c : Option Nat) : (p.setForget g c).rpu = p.rpu := rfl
@[simp] theorem Part.setForget_mbi (g : Group) (c : Option Nat) : (p.setForget g c).mbi = p.mbi := rfl
@[simp] theorem Part.setForget_ppu (g : Group) (c : Option Nat) : (p.setForget g c).ppu = p.ppu := rfl
@[simp] theorem Part.setForget_rcu (g : Group) (c : Option Nat) : (p.setForget g c).rcu = p.rcu := rfl
@[simp] theorem Part.setForget_wtu (g : Group) (c : Option Nat) : (p.setForget g c).wtu = p.wtu := rfl
@[simp] theorem Part.setForget_tku (g : Group) (c : Option Nat) : (p.setForget g c).tku = p.tku := rfl
@[simp] theorem Part.setForget_draws (g : Group) (c : Option Nat) : (p.setForget g c).draws = p.draws := rfl

@[simp] theorem Part.setFence_evp (f : FenceCauses) : (p.setFence f).evp = p.evp := rfl
@[simp] theorem Part.setFence_profile (f : FenceCauses) : (p.setFence f).profile = p.profile := rfl
@[simp] theorem Part.setFence_clock (f : FenceCauses) : (p.setFence f).clock = p.clock := rfl
@[simp] theorem Part.setFence_smt (f : FenceCauses) : (p.setFence f).smt = p.smt := rfl
@[simp] theorem Part.setFence_rpu (f : FenceCauses) : (p.setFence f).rpu = p.rpu := rfl
@[simp] theorem Part.setFence_mbi (f : FenceCauses) : (p.setFence f).mbi = p.mbi := rfl
@[simp] theorem Part.setFence_ppu (f : FenceCauses) : (p.setFence f).ppu = p.ppu := rfl
@[simp] theorem Part.setFence_wtu (f : FenceCauses) : (p.setFence f).wtu = p.wtu := rfl
@[simp] theorem Part.setFence_tku (f : FenceCauses) : (p.setFence f).tku = p.tku := rfl
@[simp] theorem Part.setFence_draws (f : FenceCauses) : (p.setFence f).draws = p.draws := rfl

@[simp] theorem Part.setPhase_evp (h : InHand) (x : TxPhase) : (p.setPhase h x).evp = p.evp := rfl
@[simp] theorem Part.setPhase_profile (h : InHand) (x : TxPhase) : (p.setPhase h x).profile = p.profile := rfl
@[simp] theorem Part.setPhase_clock (h : InHand) (x : TxPhase) : (p.setPhase h x).clock = p.clock := rfl
@[simp] theorem Part.setPhase_smt (h : InHand) (x : TxPhase) : (p.setPhase h x).smt = p.smt := rfl
@[simp] theorem Part.setPhase_rpu (h : InHand) (x : TxPhase) : (p.setPhase h x).rpu = p.rpu := rfl
@[simp] theorem Part.setPhase_ppu (h : InHand) (x : TxPhase) : (p.setPhase h x).ppu = p.ppu := rfl
@[simp] theorem Part.setPhase_rcu (h : InHand) (x : TxPhase) : (p.setPhase h x).rcu = p.rcu := rfl
@[simp] theorem Part.setPhase_wtu (h : InHand) (x : TxPhase) : (p.setPhase h x).wtu = p.wtu := rfl
@[simp] theorem Part.setPhase_tku (h : InHand) (x : TxPhase) : (p.setPhase h x).tku = p.tku := rfl
@[simp] theorem Part.setPhase_draws (h : InHand) (x : TxPhase) : (p.setPhase h x).draws = p.draws := rfl

@[simp] theorem Part.putEntry_evp (slot : Slot) (e : Option Entry) : (p.putEntry slot e).evp = p.evp := rfl
@[simp] theorem Part.putEntry_profile (slot : Slot) (e : Option Entry) : (p.putEntry slot e).profile = p.profile := rfl
@[simp] theorem Part.putEntry_clock (slot : Slot) (e : Option Entry) : (p.putEntry slot e).clock = p.clock := rfl
@[simp] theorem Part.putEntry_mbi (slot : Slot) (e : Option Entry) : (p.putEntry slot e).mbi = p.mbi := rfl
@[simp] theorem Part.putEntry_ppu (slot : Slot) (e : Option Entry) : (p.putEntry slot e).ppu = p.ppu := rfl
@[simp] theorem Part.putEntry_rcu (slot : Slot) (e : Option Entry) : (p.putEntry slot e).rcu = p.rcu := rfl
@[simp] theorem Part.putEntry_wtu (slot : Slot) (e : Option Entry) : (p.putEntry slot e).wtu = p.wtu := rfl
@[simp] theorem Part.putEntry_tku (slot : Slot) (e : Option Entry) : (p.putEntry slot e).tku = p.tku := rfl
@[simp] theorem Part.putEntry_draws (slot : Slot) (e : Option Entry) : (p.putEntry slot e).draws = p.draws := rfl

@[simp] theorem Part.revokeAppend_evp (slot : Slot) : (p.revokeAppend slot).evp = p.evp := rfl
@[simp] theorem Part.revokeAppend_profile (slot : Slot) : (p.revokeAppend slot).profile = p.profile := rfl
@[simp] theorem Part.revokeAppend_clock (slot : Slot) : (p.revokeAppend slot).clock = p.clock := rfl
@[simp] theorem Part.revokeAppend_smt (slot : Slot) : (p.revokeAppend slot).smt = p.smt := rfl
@[simp] theorem Part.revokeAppend_mbi (slot : Slot) : (p.revokeAppend slot).mbi = p.mbi := rfl
@[simp] theorem Part.revokeAppend_ppu (slot : Slot) : (p.revokeAppend slot).ppu = p.ppu := rfl
@[simp] theorem Part.revokeAppend_rcu (slot : Slot) : (p.revokeAppend slot).rcu = p.rcu := rfl
@[simp] theorem Part.revokeAppend_wtu (slot : Slot) : (p.revokeAppend slot).wtu = p.wtu := rfl
@[simp] theorem Part.revokeAppend_tku (slot : Slot) : (p.revokeAppend slot).tku = p.tku := rfl
@[simp] theorem Part.revokeAppend_draws (slot : Slot) : (p.revokeAppend slot).draws = p.draws := rfl

@[simp] theorem Part.mapEntries_evp (f : Entry → Entry) : (p.mapEntries f).evp = p.evp := rfl
@[simp] theorem Part.mapEntries_profile (f : Entry → Entry) : (p.mapEntries f).profile = p.profile := rfl
@[simp] theorem Part.mapEntries_clock (f : Entry → Entry) : (p.mapEntries f).clock = p.clock := rfl
@[simp] theorem Part.mapEntries_rpu (f : Entry → Entry) : (p.mapEntries f).rpu = p.rpu := rfl
@[simp] theorem Part.mapEntries_mbi (f : Entry → Entry) : (p.mapEntries f).mbi = p.mbi := rfl
@[simp] theorem Part.mapEntries_ppu (f : Entry → Entry) : (p.mapEntries f).ppu = p.ppu := rfl
@[simp] theorem Part.mapEntries_rcu (f : Entry → Entry) : (p.mapEntries f).rcu = p.rcu := rfl
@[simp] theorem Part.mapEntries_wtu (f : Entry → Entry) : (p.mapEntries f).wtu = p.wtu := rfl
@[simp] theorem Part.mapEntries_tku (f : Entry → Entry) : (p.mapEntries f).tku = p.tku := rfl
@[simp] theorem Part.mapEntries_draws (f : Entry → Entry) : (p.mapEntries f).draws = p.draws := rfl

@[simp] theorem Part.drawn_evp : (p.drawn).evp = p.evp := rfl
@[simp] theorem Part.drawn_profile : (p.drawn).profile = p.profile := rfl
@[simp] theorem Part.drawn_clock : (p.drawn).clock = p.clock := rfl
@[simp] theorem Part.drawn_smt : (p.drawn).smt = p.smt := rfl
@[simp] theorem Part.drawn_rpu : (p.drawn).rpu = p.rpu := rfl
@[simp] theorem Part.drawn_mbi : (p.drawn).mbi = p.mbi := rfl
@[simp] theorem Part.drawn_ppu : (p.drawn).ppu = p.ppu := rfl
@[simp] theorem Part.drawn_rcu : (p.drawn).rcu = p.rcu := rfl
@[simp] theorem Part.drawn_wtu : (p.drawn).wtu = p.wtu := rfl
@[simp] theorem Part.drawn_tku : (p.drawn).tku = p.tku := rfl

@[simp] theorem Part.place_profile (r : EgressRecord) : (p.place r).profile = p.profile := rfl
@[simp] theorem Part.place_clock (r : EgressRecord) : (p.place r).clock = p.clock := rfl
@[simp] theorem Part.place_smt (r : EgressRecord) : (p.place r).smt = p.smt := rfl
@[simp] theorem Part.place_rpu (r : EgressRecord) : (p.place r).rpu = p.rpu := rfl
@[simp] theorem Part.place_mbi (r : EgressRecord) : (p.place r).mbi = p.mbi := rfl
@[simp] theorem Part.place_ppu (r : EgressRecord) : (p.place r).ppu = p.ppu := rfl
@[simp] theorem Part.place_rcu (r : EgressRecord) : (p.place r).rcu = p.rcu := rfl
@[simp] theorem Part.place_wtu (r : EgressRecord) : (p.place r).wtu = p.wtu := rfl
@[simp] theorem Part.place_tku (r : EgressRecord) : (p.place r).tku = p.tku := rfl
@[simp] theorem Part.place_draws (r : EgressRecord) : (p.place r).draws = p.draws := rfl

@[simp] theorem Part.placeAt_profile (n : Nat) (r : EgressRecord) : (p.placeAt n r).profile = p.profile := rfl
@[simp] theorem Part.placeAt_clock (n : Nat) (r : EgressRecord) : (p.placeAt n r).clock = p.clock := rfl
@[simp] theorem Part.placeAt_smt (n : Nat) (r : EgressRecord) : (p.placeAt n r).smt = p.smt := rfl
@[simp] theorem Part.placeAt_rpu (n : Nat) (r : EgressRecord) : (p.placeAt n r).rpu = p.rpu := rfl
@[simp] theorem Part.placeAt_mbi (n : Nat) (r : EgressRecord) : (p.placeAt n r).mbi = p.mbi := rfl
@[simp] theorem Part.placeAt_ppu (n : Nat) (r : EgressRecord) : (p.placeAt n r).ppu = p.ppu := rfl
@[simp] theorem Part.placeAt_rcu (n : Nat) (r : EgressRecord) : (p.placeAt n r).rcu = p.rcu := rfl
@[simp] theorem Part.placeAt_wtu (n : Nat) (r : EgressRecord) : (p.placeAt n r).wtu = p.wtu := rfl
@[simp] theorem Part.placeAt_tku (n : Nat) (r : EgressRecord) : (p.placeAt n r).tku = p.tku := rfl
@[simp] theorem Part.placeAt_draws (n : Nat) (r : EgressRecord) : (p.placeAt n r).draws = p.draws := rfl

@[simp] theorem Part.popIngress_profile : (p.popIngress).profile = p.profile := rfl
@[simp] theorem Part.popIngress_clock : (p.popIngress).clock = p.clock := rfl
@[simp] theorem Part.popIngress_smt : (p.popIngress).smt = p.smt := rfl
@[simp] theorem Part.popIngress_rpu : (p.popIngress).rpu = p.rpu := rfl
@[simp] theorem Part.popIngress_mbi : (p.popIngress).mbi = p.mbi := rfl
@[simp] theorem Part.popIngress_ppu : (p.popIngress).ppu = p.ppu := rfl
@[simp] theorem Part.popIngress_rcu : (p.popIngress).rcu = p.rcu := rfl
@[simp] theorem Part.popIngress_wtu : (p.popIngress).wtu = p.wtu := rfl
@[simp] theorem Part.popIngress_tku : (p.popIngress).tku = p.tku := rfl
@[simp] theorem Part.popIngress_draws : (p.popIngress).draws = p.draws := rfl

@[simp] theorem Part.queueAnswer_evp (a : AnswerFrame) : (p.queueAnswer a).evp = p.evp := rfl
@[simp] theorem Part.queueAnswer_profile (a : AnswerFrame) : (p.queueAnswer a).profile = p.profile := rfl
@[simp] theorem Part.queueAnswer_clock (a : AnswerFrame) : (p.queueAnswer a).clock = p.clock := rfl
@[simp] theorem Part.queueAnswer_smt (a : AnswerFrame) : (p.queueAnswer a).smt = p.smt := rfl
@[simp] theorem Part.queueAnswer_rpu (a : AnswerFrame) : (p.queueAnswer a).rpu = p.rpu := rfl
@[simp] theorem Part.queueAnswer_ppu (a : AnswerFrame) : (p.queueAnswer a).ppu = p.ppu := rfl
@[simp] theorem Part.queueAnswer_rcu (a : AnswerFrame) : (p.queueAnswer a).rcu = p.rcu := rfl
@[simp] theorem Part.queueAnswer_wtu (a : AnswerFrame) : (p.queueAnswer a).wtu = p.wtu := rfl
@[simp] theorem Part.queueAnswer_tku (a : AnswerFrame) : (p.queueAnswer a).tku = p.tku := rfl
@[simp] theorem Part.queueAnswer_draws (a : AnswerFrame) : (p.queueAnswer a).draws = p.draws := rfl

@[simp] theorem Part.queueClaim_evp (c : ClaimFrame) : (p.queueClaim c).evp = p.evp := rfl
@[simp] theorem Part.queueClaim_profile (c : ClaimFrame) : (p.queueClaim c).profile = p.profile := rfl
@[simp] theorem Part.queueClaim_clock (c : ClaimFrame) : (p.queueClaim c).clock = p.clock := rfl
@[simp] theorem Part.queueClaim_smt (c : ClaimFrame) : (p.queueClaim c).smt = p.smt := rfl
@[simp] theorem Part.queueClaim_rpu (c : ClaimFrame) : (p.queueClaim c).rpu = p.rpu := rfl
@[simp] theorem Part.queueClaim_ppu (c : ClaimFrame) : (p.queueClaim c).ppu = p.ppu := rfl
@[simp] theorem Part.queueClaim_rcu (c : ClaimFrame) : (p.queueClaim c).rcu = p.rcu := rfl
@[simp] theorem Part.queueClaim_wtu (c : ClaimFrame) : (p.queueClaim c).wtu = p.wtu := rfl
@[simp] theorem Part.queueClaim_tku (c : ClaimFrame) : (p.queueClaim c).tku = p.tku := rfl
@[simp] theorem Part.queueClaim_draws (c : ClaimFrame) : (p.queueClaim c).draws = p.draws := rfl

@[simp] theorem Part.queueYield_evp (g : Group) : (p.queueYield g).evp = p.evp := rfl
@[simp] theorem Part.queueYield_profile (g : Group) : (p.queueYield g).profile = p.profile := rfl
@[simp] theorem Part.queueYield_clock (g : Group) : (p.queueYield g).clock = p.clock := rfl
@[simp] theorem Part.queueYield_smt (g : Group) : (p.queueYield g).smt = p.smt := rfl
@[simp] theorem Part.queueYield_rpu (g : Group) : (p.queueYield g).rpu = p.rpu := rfl
@[simp] theorem Part.queueYield_ppu (g : Group) : (p.queueYield g).ppu = p.ppu := rfl
@[simp] theorem Part.queueYield_rcu (g : Group) : (p.queueYield g).rcu = p.rcu := rfl
@[simp] theorem Part.queueYield_wtu (g : Group) : (p.queueYield g).wtu = p.wtu := rfl
@[simp] theorem Part.queueYield_tku (g : Group) : (p.queueYield g).tku = p.tku := rfl
@[simp] theorem Part.queueYield_draws (g : Group) : (p.queueYield g).draws = p.draws := rfl

@[simp] theorem Part.withdrawRoleFrames_evp (g : Group) : (p.withdrawRoleFrames g).evp = p.evp := rfl
@[simp] theorem Part.withdrawRoleFrames_profile (g : Group) : (p.withdrawRoleFrames g).profile = p.profile := rfl
@[simp] theorem Part.withdrawRoleFrames_clock (g : Group) : (p.withdrawRoleFrames g).clock = p.clock := rfl
@[simp] theorem Part.withdrawRoleFrames_smt (g : Group) : (p.withdrawRoleFrames g).smt = p.smt := rfl
@[simp] theorem Part.withdrawRoleFrames_rpu (g : Group) : (p.withdrawRoleFrames g).rpu = p.rpu := rfl
@[simp] theorem Part.withdrawRoleFrames_ppu (g : Group) : (p.withdrawRoleFrames g).ppu = p.ppu := rfl
@[simp] theorem Part.withdrawRoleFrames_rcu (g : Group) : (p.withdrawRoleFrames g).rcu = p.rcu := rfl
@[simp] theorem Part.withdrawRoleFrames_wtu (g : Group) : (p.withdrawRoleFrames g).wtu = p.wtu := rfl
@[simp] theorem Part.withdrawRoleFrames_tku (g : Group) : (p.withdrawRoleFrames g).tku = p.tku := rfl
@[simp] theorem Part.withdrawRoleFrames_draws (g : Group) : (p.withdrawRoleFrames g).draws = p.draws := rfl

@[simp] theorem Part.handEmptied_evp : (p.handEmptied).evp = p.evp := rfl
@[simp] theorem Part.handEmptied_profile : (p.handEmptied).profile = p.profile := rfl
@[simp] theorem Part.handEmptied_clock : (p.handEmptied).clock = p.clock := rfl
@[simp] theorem Part.handEmptied_smt : (p.handEmptied).smt = p.smt := rfl
@[simp] theorem Part.handEmptied_rpu : (p.handEmptied).rpu = p.rpu := rfl
@[simp] theorem Part.handEmptied_ppu : (p.handEmptied).ppu = p.ppu := rfl
@[simp] theorem Part.handEmptied_rcu : (p.handEmptied).rcu = p.rcu := rfl
@[simp] theorem Part.handEmptied_wtu : (p.handEmptied).wtu = p.wtu := rfl
@[simp] theorem Part.handEmptied_tku : (p.handEmptied).tku = p.tku := rfl
@[simp] theorem Part.handEmptied_draws : (p.handEmptied).draws = p.draws := rfl

@[simp] theorem Part.chooseLane_evp : (p.chooseLane).evp = p.evp := rfl
@[simp] theorem Part.chooseLane_profile : (p.chooseLane).profile = p.profile := rfl
@[simp] theorem Part.chooseLane_clock : (p.chooseLane).clock = p.clock := rfl
@[simp] theorem Part.chooseLane_smt : (p.chooseLane).smt = p.smt := rfl
@[simp] theorem Part.chooseLane_rpu : (p.chooseLane).rpu = p.rpu := rfl
@[simp] theorem Part.chooseLane_ppu : (p.chooseLane).ppu = p.ppu := rfl
@[simp] theorem Part.chooseLane_rcu : (p.chooseLane).rcu = p.rcu := rfl
@[simp] theorem Part.chooseLane_wtu : (p.chooseLane).wtu = p.wtu := rfl
@[simp] theorem Part.chooseLane_tku : (p.chooseLane).tku = p.tku := rfl
@[simp] theorem Part.chooseLane_draws : (p.chooseLane).draws = p.draws := rfl

@[simp] theorem Part.hold_evp (f : TxFrame) (bs : List Byte) (l : Lane) (b : Bool) : (p.hold f bs l b).evp = p.evp := rfl
@[simp] theorem Part.hold_profile (f : TxFrame) (bs : List Byte) (l : Lane) (b : Bool) : (p.hold f bs l b).profile = p.profile := rfl
@[simp] theorem Part.hold_clock (f : TxFrame) (bs : List Byte) (l : Lane) (b : Bool) : (p.hold f bs l b).clock = p.clock := rfl
@[simp] theorem Part.hold_smt (f : TxFrame) (bs : List Byte) (l : Lane) (b : Bool) : (p.hold f bs l b).smt = p.smt := rfl
@[simp] theorem Part.hold_rpu (f : TxFrame) (bs : List Byte) (l : Lane) (b : Bool) : (p.hold f bs l b).rpu = p.rpu := rfl
@[simp] theorem Part.hold_ppu (f : TxFrame) (bs : List Byte) (l : Lane) (b : Bool) : (p.hold f bs l b).ppu = p.ppu := rfl
@[simp] theorem Part.hold_rcu (f : TxFrame) (bs : List Byte) (l : Lane) (b : Bool) : (p.hold f bs l b).rcu = p.rcu := rfl
@[simp] theorem Part.hold_wtu (f : TxFrame) (bs : List Byte) (l : Lane) (b : Bool) : (p.hold f bs l b).wtu = p.wtu := rfl
@[simp] theorem Part.hold_tku (f : TxFrame) (bs : List Byte) (l : Lane) (b : Bool) : (p.hold f bs l b).tku = p.tku := rfl
@[simp] theorem Part.hold_draws (f : TxFrame) (bs : List Byte) (l : Lane) (b : Bool) : (p.hold f bs l b).draws = p.draws := rfl

@[simp] theorem Part.recallCleared_evp : (p.recallCleared).evp = p.evp := rfl
@[simp] theorem Part.recallCleared_profile : (p.recallCleared).profile = p.profile := rfl
@[simp] theorem Part.recallCleared_clock : (p.recallCleared).clock = p.clock := rfl
@[simp] theorem Part.recallCleared_smt : (p.recallCleared).smt = p.smt := rfl
@[simp] theorem Part.recallCleared_mbi : (p.recallCleared).mbi = p.mbi := rfl
@[simp] theorem Part.recallCleared_ppu : (p.recallCleared).ppu = p.ppu := rfl
@[simp] theorem Part.recallCleared_rcu : (p.recallCleared).rcu = p.rcu := rfl
@[simp] theorem Part.recallCleared_wtu : (p.recallCleared).wtu = p.wtu := rfl
@[simp] theorem Part.recallCleared_tku : (p.recallCleared).tku = p.tku := rfl
@[simp] theorem Part.recallCleared_draws : (p.recallCleared).draws = p.draws := rfl

@[simp] theorem Part.stampCompletion_evp : (p.stampCompletion).evp = p.evp := rfl
@[simp] theorem Part.stampCompletion_profile : (p.stampCompletion).profile = p.profile := rfl
@[simp] theorem Part.stampCompletion_clock : (p.stampCompletion).clock = p.clock := rfl
@[simp] theorem Part.stampCompletion_smt : (p.stampCompletion).smt = p.smt := rfl
@[simp] theorem Part.stampCompletion_mbi : (p.stampCompletion).mbi = p.mbi := rfl
@[simp] theorem Part.stampCompletion_ppu : (p.stampCompletion).ppu = p.ppu := rfl
@[simp] theorem Part.stampCompletion_rcu : (p.stampCompletion).rcu = p.rcu := rfl
@[simp] theorem Part.stampCompletion_wtu : (p.stampCompletion).wtu = p.wtu := rfl
@[simp] theorem Part.stampCompletion_tku : (p.stampCompletion).tku = p.tku := rfl
@[simp] theorem Part.stampCompletion_draws : (p.stampCompletion).draws = p.draws := rfl

@[simp] theorem Part.startPause_evp : (p.startPause).evp = p.evp := rfl
@[simp] theorem Part.startPause_profile : (p.startPause).profile = p.profile := rfl
@[simp] theorem Part.startPause_clock : (p.startPause).clock = p.clock := rfl
@[simp] theorem Part.startPause_smt : (p.startPause).smt = p.smt := rfl
@[simp] theorem Part.startPause_mbi : (p.startPause).mbi = p.mbi := rfl
@[simp] theorem Part.startPause_ppu : (p.startPause).ppu = p.ppu := rfl
@[simp] theorem Part.startPause_rcu : (p.startPause).rcu = p.rcu := rfl
@[simp] theorem Part.startPause_wtu : (p.startPause).wtu = p.wtu := rfl
@[simp] theorem Part.startPause_tku : (p.startPause).tku = p.tku := rfl
@[simp] theorem Part.startPause_draws : (p.startPause).draws = p.draws := rfl

@[simp] theorem Part.endPause_evp : (p.endPause).evp = p.evp := rfl
@[simp] theorem Part.endPause_profile : (p.endPause).profile = p.profile := rfl
@[simp] theorem Part.endPause_clock : (p.endPause).clock = p.clock := rfl
@[simp] theorem Part.endPause_smt : (p.endPause).smt = p.smt := rfl
@[simp] theorem Part.endPause_mbi : (p.endPause).mbi = p.mbi := rfl
@[simp] theorem Part.endPause_ppu : (p.endPause).ppu = p.ppu := rfl
@[simp] theorem Part.endPause_rcu : (p.endPause).rcu = p.rcu := rfl
@[simp] theorem Part.endPause_wtu : (p.endPause).wtu = p.wtu := rfl
@[simp] theorem Part.endPause_tku : (p.endPause).tku = p.tku := rfl
@[simp] theorem Part.endPause_draws : (p.endPause).draws = p.draws := rfl

@[simp] theorem Part.makeReceipt_evp (slot : Slot) (v : Version) : (p.makeReceipt slot v).evp = p.evp := rfl
@[simp] theorem Part.makeReceipt_profile (slot : Slot) (v : Version) : (p.makeReceipt slot v).profile = p.profile := rfl
@[simp] theorem Part.makeReceipt_clock (slot : Slot) (v : Version) : (p.makeReceipt slot v).clock = p.clock := rfl
@[simp] theorem Part.makeReceipt_smt (slot : Slot) (v : Version) : (p.makeReceipt slot v).smt = p.smt := rfl
@[simp] theorem Part.makeReceipt_mbi (slot : Slot) (v : Version) : (p.makeReceipt slot v).mbi = p.mbi := rfl
@[simp] theorem Part.makeReceipt_ppu (slot : Slot) (v : Version) : (p.makeReceipt slot v).ppu = p.ppu := rfl
@[simp] theorem Part.makeReceipt_rcu (slot : Slot) (v : Version) : (p.makeReceipt slot v).rcu = p.rcu := rfl
@[simp] theorem Part.makeReceipt_wtu (slot : Slot) (v : Version) : (p.makeReceipt slot v).wtu = p.wtu := rfl
@[simp] theorem Part.makeReceipt_tku (slot : Slot) (v : Version) : (p.makeReceipt slot v).tku = p.tku := rfl
@[simp] theorem Part.makeReceipt_draws (slot : Slot) (v : Version) : (p.makeReceipt slot v).draws = p.draws := rfl

@[simp] theorem Part.emptyReceipts_evp : (p.emptyReceipts).evp = p.evp := rfl
@[simp] theorem Part.emptyReceipts_profile : (p.emptyReceipts).profile = p.profile := rfl
@[simp] theorem Part.emptyReceipts_clock : (p.emptyReceipts).clock = p.clock := rfl
@[simp] theorem Part.emptyReceipts_smt : (p.emptyReceipts).smt = p.smt := rfl
@[simp] theorem Part.emptyReceipts_mbi : (p.emptyReceipts).mbi = p.mbi := rfl
@[simp] theorem Part.emptyReceipts_ppu : (p.emptyReceipts).ppu = p.ppu := rfl
@[simp] theorem Part.emptyReceipts_rcu : (p.emptyReceipts).rcu = p.rcu := rfl
@[simp] theorem Part.emptyReceipts_wtu : (p.emptyReceipts).wtu = p.wtu := rfl
@[simp] theorem Part.emptyReceipts_tku : (p.emptyReceipts).tku = p.tku := rfl
@[simp] theorem Part.emptyReceipts_draws : (p.emptyReceipts).draws = p.draws := rfl

@[simp] theorem Part.noteWaited_evp : (p.noteWaited).evp = p.evp := rfl
@[simp] theorem Part.noteWaited_profile : (p.noteWaited).profile = p.profile := rfl
@[simp] theorem Part.noteWaited_clock : (p.noteWaited).clock = p.clock := rfl
@[simp] theorem Part.noteWaited_smt : (p.noteWaited).smt = p.smt := rfl
@[simp] theorem Part.noteWaited_mbi : (p.noteWaited).mbi = p.mbi := rfl
@[simp] theorem Part.noteWaited_ppu : (p.noteWaited).ppu = p.ppu := rfl
@[simp] theorem Part.noteWaited_rcu : (p.noteWaited).rcu = p.rcu := rfl
@[simp] theorem Part.noteWaited_wtu : (p.noteWaited).wtu = p.wtu := rfl
@[simp] theorem Part.noteWaited_tku : (p.noteWaited).tku = p.tku := rfl
@[simp] theorem Part.noteWaited_draws : (p.noteWaited).draws = p.draws := rfl

@[simp] theorem Part.receiptEnded_evp (b : Bool) : (p.receiptEnded b).evp = p.evp := rfl
@[simp] theorem Part.receiptEnded_profile (b : Bool) : (p.receiptEnded b).profile = p.profile := rfl
@[simp] theorem Part.receiptEnded_clock (b : Bool) : (p.receiptEnded b).clock = p.clock := rfl
@[simp] theorem Part.receiptEnded_smt (b : Bool) : (p.receiptEnded b).smt = p.smt := rfl
@[simp] theorem Part.receiptEnded_mbi (b : Bool) : (p.receiptEnded b).mbi = p.mbi := rfl
@[simp] theorem Part.receiptEnded_ppu (b : Bool) : (p.receiptEnded b).ppu = p.ppu := rfl
@[simp] theorem Part.receiptEnded_rcu (b : Bool) : (p.receiptEnded b).rcu = p.rcu := rfl
@[simp] theorem Part.receiptEnded_wtu (b : Bool) : (p.receiptEnded b).wtu = p.wtu := rfl
@[simp] theorem Part.receiptEnded_tku (b : Bool) : (p.receiptEnded b).tku = p.tku := rfl
@[simp] theorem Part.receiptEnded_draws (b : Bool) : (p.receiptEnded b).draws = p.draws := rfl

@[simp] theorem Part.startRefresh_evp : (p.startRefresh).evp = p.evp := rfl
@[simp] theorem Part.startRefresh_profile : (p.startRefresh).profile = p.profile := rfl
@[simp] theorem Part.startRefresh_clock : (p.startRefresh).clock = p.clock := rfl
@[simp] theorem Part.startRefresh_rpu : (p.startRefresh).rpu = p.rpu := rfl
@[simp] theorem Part.startRefresh_mbi : (p.startRefresh).mbi = p.mbi := rfl
@[simp] theorem Part.startRefresh_ppu : (p.startRefresh).ppu = p.ppu := rfl
@[simp] theorem Part.startRefresh_rcu : (p.startRefresh).rcu = p.rcu := rfl
@[simp] theorem Part.startRefresh_wtu : (p.startRefresh).wtu = p.wtu := rfl
@[simp] theorem Part.startRefresh_tku : (p.startRefresh).tku = p.tku := rfl
@[simp] theorem Part.startRefresh_draws : (p.startRefresh).draws = p.draws := rfl

@[simp] theorem Part.noteTaken_evp (slot : Slot) : (p.noteTaken slot).evp = p.evp := rfl
@[simp] theorem Part.noteTaken_profile (slot : Slot) : (p.noteTaken slot).profile = p.profile := rfl
@[simp] theorem Part.noteTaken_clock (slot : Slot) : (p.noteTaken slot).clock = p.clock := rfl
@[simp] theorem Part.noteTaken_smt (slot : Slot) : (p.noteTaken slot).smt = p.smt := rfl
@[simp] theorem Part.noteTaken_rpu (slot : Slot) : (p.noteTaken slot).rpu = p.rpu := rfl
@[simp] theorem Part.noteTaken_mbi (slot : Slot) : (p.noteTaken slot).mbi = p.mbi := rfl
@[simp] theorem Part.noteTaken_ppu (slot : Slot) : (p.noteTaken slot).ppu = p.ppu := rfl
@[simp] theorem Part.noteTaken_rcu (slot : Slot) : (p.noteTaken slot).rcu = p.rcu := rfl
@[simp] theorem Part.noteTaken_wtu (slot : Slot) : (p.noteTaken slot).wtu = p.wtu := rfl
@[simp] theorem Part.noteTaken_draws (slot : Slot) : (p.noteTaken slot).draws = p.draws := rfl

@[simp] theorem Part.post_evp (i : Fin 8) (g : Group) (rs : List BufferRec) (b : Bool) : (p.post i g rs b).evp = p.evp := rfl
@[simp] theorem Part.post_profile (i : Fin 8) (g : Group) (rs : List BufferRec) (b : Bool) : (p.post i g rs b).profile = p.profile := rfl
@[simp] theorem Part.post_clock (i : Fin 8) (g : Group) (rs : List BufferRec) (b : Bool) : (p.post i g rs b).clock = p.clock := rfl
@[simp] theorem Part.post_smt (i : Fin 8) (g : Group) (rs : List BufferRec) (b : Bool) : (p.post i g rs b).smt = p.smt := rfl
@[simp] theorem Part.post_rpu (i : Fin 8) (g : Group) (rs : List BufferRec) (b : Bool) : (p.post i g rs b).rpu = p.rpu := rfl
@[simp] theorem Part.post_mbi (i : Fin 8) (g : Group) (rs : List BufferRec) (b : Bool) : (p.post i g rs b).mbi = p.mbi := rfl
@[simp] theorem Part.post_ppu (i : Fin 8) (g : Group) (rs : List BufferRec) (b : Bool) : (p.post i g rs b).ppu = p.ppu := rfl
@[simp] theorem Part.post_rcu (i : Fin 8) (g : Group) (rs : List BufferRec) (b : Bool) : (p.post i g rs b).rcu = p.rcu := rfl
@[simp] theorem Part.post_wtu (i : Fin 8) (g : Group) (rs : List BufferRec) (b : Bool) : (p.post i g rs b).wtu = p.wtu := rfl
@[simp] theorem Part.post_draws (i : Fin 8) (g : Group) (rs : List BufferRec) (b : Bool) : (p.post i g rs b).draws = p.draws := rfl

/-! Reading after writing. -/

@[simp] theorem Part.group_setGroup (g h : Group) (r : GroupRec) :
    (p.setGroup g r).group h = if h = g then r else p.group h := PerGroup.get_set _ _ _ _

@[simp] theorem Part.lane_setLane (l m : Lane) (r : LaneRec) :
    (p.setLane l r).lane m = if m = l then r else p.lane m := PerLane.get_set _ _ _ _

@[simp] theorem Part.peer_setPeer (y z : Station) (r : PeerRec) :
    (p.setPeer y r).peer z = if z = y then r else p.peer z := PerStation.get_set _ _ _ _

@[simp] theorem Part.vote_setVote (g h : Group) (v : VoteRecord) :
    (p.setVote g v).vote h = if h = g then v else p.vote h := PerGroup.get_set _ _ _ _

theorem Part.buffer_setBuffer (i j : Fin 8) (b : Buffer) :
    (p.setBuffer i b).buffer j = if i = j then b else p.buffer j := by
  simp only [Part.buffer, Part.setBuffer, Fin.getElem_fin, Vector.getElem_set, Fin.val_inj]

@[simp] theorem Part.buffer_setBuffer_same (i : Fin 8) (b : Buffer) : (p.setBuffer i b).buffer i = b := by
  simp [Part.buffer_setBuffer]

@[simp] theorem Part.place_egress (r : EgressRecord) : (p.place r).evp.egress = p.evp.egress ++ [r] := rfl

/-- A running part: what `whileRunning` answers. -/
theorem State.whileRunning_running {s : State} (f : Part → Part) (h : s.evp.resetHeld = false) :
    s.whileRunning f = .next { s with toPart := f s.toPart } := by
  simp [State.whileRunning, h]

/-- A held part: what `whileRunning` answers. -/
theorem State.whileRunning_held {s : State} (f : Part → Part) (h : s.evp.resetHeld = true) :
    s.whileRunning f = .next s := by
  simp [State.whileRunning, h]

end Machine

end Sys2Proof
end

