-- ==== Sys2Proof/Laws/Table.lean ====
section
/-! SUPPORT. The session table: reading after writing, and that every operation on it keeps its canonical form. -/

namespace Sys2Proof.Machine

/-- Reading a slot that has just been written. -/
@[simp] theorem tableGet_insert_same (table : List (Slot × Entry)) (slot : Slot) (e : Entry) :
    tableGet (tableInsert table slot e) slot = some e := by
  induction table with
  | nil => simp [tableInsert, tableGet]
  | cons x rest ih =>
    obtain ⟨k, y⟩ := x
    simp only [tableInsert]
    split
    · simp [tableGet]
    · split
      · simp [tableGet]
      · rename_i h
        simp [tableGet, h, ih]

/-- Reading any other slot. -/
theorem tableGet_insert_ne (table : List (Slot × Entry)) {slot other : Slot} (e : Entry) (hne : other ≠ slot) :
    tableGet (tableInsert table slot e) other = tableGet table other := by
  have hne' : ¬ slot = other := fun h => hne h.symm
  induction table with
  | nil => simp [tableInsert, tableGet, hne']
  | cons x rest ih =>
    obtain ⟨k, y⟩ := x
    simp only [tableInsert]
    split
    · simp [tableGet, hne']
    · split
      · rename_i h
        simp [tableGet, h, hne']
      · simp only [tableGet, ih]

/-- Reading a slot that has just been freed. -/
@[simp] theorem tableGet_erase_same (table : List (Slot × Entry)) (slot : Slot) :
    tableGet (tableErase table slot) slot = none := by
  induction table with
  | nil => rfl
  | cons x rest ih =>
    obtain ⟨k, y⟩ := x
    by_cases h : k = slot
    · simpa [tableErase, h] using ih
    · simpa [tableErase, h, tableGet] using ih

/-- Reading any other slot. -/
theorem tableGet_erase_ne (table : List (Slot × Entry)) {slot other : Slot} (hne : other ≠ slot) :
    tableGet (tableErase table slot) other = tableGet table other := by
  induction table with
  | nil => rfl
  | cons x rest ih =>
    obtain ⟨k, y⟩ := x
    have ih' : tableGet (List.filter (fun x => decide (x.1 ≠ slot)) rest) other = tableGet rest other := ih
    by_cases h : k = slot
    · have hk : ¬ k = other := fun hk => hne (hk ▸ h)
      simp only [tableErase, h, ne_eq, not_true_eq_false, decide_false, Bool.false_eq_true, not_false_eq_true,
        List.filter_cons_of_neg, tableGet]
      rw [if_neg (h ▸ hk)]
      exact ih'
    · rw [tableErase, List.filter_cons_of_pos (by simpa using h)]
      simp only [tableGet, ih']

/-- Reading after any write. -/
theorem tableGet_set (table : List (Slot × Entry)) (slot other : Slot) (e : Option Entry) :
    tableGet (tableSet table slot e) other = if other = slot then e else tableGet table other := by
  by_cases h : other = slot
  · subst h; cases e <;> simp [tableSet]
  · cases e with
    | none => simp [tableSet, h, tableGet_erase_ne]
    | some v => simp [tableSet, h, tableGet_insert_ne]

/-- Reading after an act on an entry. -/
@[simp] theorem Part.entry_putEntry (p : Part) (slot other : Slot) (e : Option Entry) :
    (p.putEntry slot e).entry other = if other = slot then e else p.entry other := tableGet_set _ _ _ _

/-- Reading after a change of an entry that moves no list. -/
@[simp] theorem Part.entry_setTable (p : Part) (slot other : Slot) (e : Option Entry) :
    (p.setTable slot e).entry other = if other = slot then e else p.entry other := tableGet_set _ _ _ _

/-- The canonical form, as an order on the slots. -/
theorem tableWf_iff (table : List (Slot × Entry)) :
    tableWf table = true ↔ (table.map fun x => x.1.toNat).Pairwise (· < ·) := by
  induction table with
  | nil => simp [tableWf]
  | cons x rest ih =>
    obtain ⟨k, y⟩ := x
    cases rest with
    | nil => simp [tableWf]
    | cons z rest =>
      obtain ⟨l, w⟩ := z
      simp only [tableWf, Bool.and_eq_true, decide_eq_true_eq, ih, List.map_cons, List.pairwise_cons, List.mem_cons,
        forall_eq_or_imp]
      constructor
      · rintro ⟨h, h1, h2⟩
        exact ⟨⟨h, fun a ha => lt_trans h (h1 a ha)⟩, h1, h2⟩
      · rintro ⟨⟨h, -⟩, h1, h2⟩
        exact ⟨h, h1, h2⟩

/-- The slots of a table after an insertion. -/
theorem mem_tableInsert {table : List (Slot × Entry)} {slot : Slot} {e : Entry} {x : Slot × Entry}
    (h : x ∈ tableInsert table slot e) : x = (slot, e) ∨ x ∈ table := by
  induction table with
  | nil => simpa [tableInsert] using h
  | cons z rest ih =>
    obtain ⟨k, y⟩ := z
    simp only [tableInsert] at h
    split at h
    · simpa using h
    · split at h
      · rcases List.mem_cons.1 h with h | h
        · exact .inl h
        · exact .inr (List.mem_cons_of_mem _ h)
      · rcases List.mem_cons.1 h with h | h
        · exact .inr (h ▸ List.mem_cons_self)
        · rcases ih h with h | h
          · exact .inl h
          · exact .inr (List.mem_cons_of_mem _ h)

/-- An insertion keeps the canonical form. -/
theorem tableWf_insert {table : List (Slot × Entry)} (slot : Slot) (e : Entry) (h : tableWf table = true) :
    tableWf (tableInsert table slot e) = true := by
  rw [tableWf_iff] at h ⊢
  induction table with
  | nil => simp [tableInsert]
  | cons z rest ih =>
    obtain ⟨k, y⟩ := z
    simp only [List.map_cons, List.pairwise_cons] at h
    simp only [tableInsert]
    split
    · rename_i hk
      simp only [List.map_cons, List.pairwise_cons, List.mem_cons, forall_eq_or_imp]
      exact ⟨⟨hk, fun a ha => lt_trans hk (h.1 a ha)⟩, h⟩
    · split
      · rename_i hk
        subst hk
        simpa using h
      · rename_i hk1 hk2
        simp only [List.map_cons, List.pairwise_cons]
        refine ⟨fun a ha => ?_, ih h.2⟩
        obtain ⟨x, hx, rfl⟩ := List.mem_map.1 ha
        rcases mem_tableInsert hx with hx | hx
        · subst hx
          have : k.toNat ≠ slot.toNat := fun hn => hk2 (BitVec.eq_of_toNat_eq hn)
          change k.toNat < slot.toNat
          omega
        · exact h.1 _ (List.mem_map.2 ⟨x, hx, rfl⟩)

/-- A removal keeps the canonical form. -/
theorem tableWf_erase {table : List (Slot × Entry)} (slot : Slot) (h : tableWf table = true) :
    tableWf (tableErase table slot) = true := by
  rw [tableWf_iff] at h ⊢
  exact h.sublist (List.Sublist.map _ List.filter_sublist)

/-- Every write keeps the canonical form. -/
theorem tableWf_set {table : List (Slot × Entry)} (slot : Slot) (e : Option Entry) (h : tableWf table = true) :
    tableWf (tableSet table slot e) = true := by
  cases e with
  | none => exact tableWf_erase slot h
  | some v => exact tableWf_insert slot v h

/-- A change of every entry in place keeps the canonical form. -/
theorem tableWf_map {table : List (Slot × Entry)} (f : Entry → Entry) (h : tableWf table = true) :
    tableWf (table.map fun x => (x.1, f x.2)) = true := by
  rw [tableWf_iff] at h ⊢
  simpa [List.map_map, Function.comp_def] using h

/-- An act on an entry keeps the canonical form. -/
theorem Part.tableOk_putEntry {p : Part} (slot : Slot) (e : Option Entry) (h : p.tableOk = true) :
    (p.putEntry slot e).tableOk = true := tableWf_set slot e h

/-- A change of an entry that moves no list keeps the canonical form. -/
theorem Part.tableOk_setTable {p : Part} (slot : Slot) (e : Option Entry) (h : p.tableOk = true) :
    (p.setTable slot e).tableOk = true := tableWf_set slot e h

/-- A change of every entry in place keeps the canonical form. -/
theorem Part.tableOk_mapEntries {p : Part} (f : Entry → Entry) (h : p.tableOk = true) :
    (p.mapEntries f).tableOk = true := tableWf_map f h

/-- What is read after a change of every entry in place. -/
@[simp] theorem Part.entry_mapEntries (p : Part) (f : Entry → Entry) (slot : Slot) :
    (p.mapEntries f).entry slot = (p.entry slot).map f := by
  show tableGet (p.smt.table.map fun x => (x.1, f x.2)) slot = (tableGet p.smt.table slot).map f
  induction p.smt.table with
  | nil => rfl
  | cons x rest ih =>
    obtain ⟨k, y⟩ := x
    by_cases h : k = slot <;> simp [tableGet, h, ih]

end Sys2Proof.Machine
end

