-- ==== Sys2Proof/Laws/Exec.lean ====
section
/-! SUPPORT. Every command but RESET and RESET_END is an act on the part: `exec` of it is that act on a part that is not held in
reset, and leaves a held one alone. A lemma about `exec` of every command is one about `Part.act`. -/

namespace Sys2Proof.Machine

/-- The act of a command on a part that is not held in reset; RESET and RESET_END, which act on a held part too, have none. -/
def Part.act (p : Part) (i : Instr) : Part :=
  match i with
  | .reset => p
  | .clearWalkVisit => p.clearVisit
  | .clearWalkEnd => p.clearEnd
  | .profileRecord => p.takeRecord (some .profile) Part.takeProfile
  | .openRecord => p.takeRecord (some .open) Part.takeOpen
  | .updateRecord => p.takeRecord (some .update) Part.takeUpdate
  | .closeRecord => p.takeRecord (some .close) Part.takeClose
  | .aliveRecord => p.takeRecord (some .alive) Part.takeAlive
  | .releaseRecord => p.takeRecord (some .release) Part.takeRelease
  | .handoverRecord => p.takeRecord (some .handover) Part.takeHandover
  | .statusRecord => p.takeRecord (some .status) Part.takeStatus
  | .malformedRecord => p.takeRecord none fun q ws => (q, refusal ws .malformed)
  | .egressRecordTaken => p.egressTaken
  | .revokedRecord => p.placeRevoked
  | .batchRecord => p.placeBatch
  | .alignFrame lane rx => p.receive .align lane rx
  | .pulseFrame lane rx => p.receive .pulse lane rx
  | .deltaFrame lane rx => p.receive .delta lane rx
  | .dropFrame lane rx => p.receive .drop lane rx
  | .receiptFrame lane rx => p.receive .receipt lane rx
  | .claimFrame lane rx => p.receive .claim lane rx
  | .answerFrame lane rx => p.receive .answer lane rx
  | .yieldFrame lane rx => p.receive .yield lane rx
  | .badFrame lane rx => p.receiveBad lane rx
  | .fragment _ _ => p
  | .transmitterTake => p.transmitterTake
  | .frameStart => p.startFrame
  | .collision => p.collision
  | .backoffEnd => p.backoffOver
  | .frameComplete => p.frameDone
  | .receiptTimerExpiry => p.receiptTimer
  | .pauseTimerExpiry => p.onlyIf (p.ranOut p.rpu.pauseTimer) Part.endPause
  | .receiptDelay => p.onlyIf p.receiptDelayDue Part.receiptDelay
  | .livenessTimerExpiry station => p.onlyIf (p.silentFor station) fun q => q.lose station
  | .pulseEpoch => p.epochNow
  | .engineSilenceTimerExpiry => p.onlyIf (p.ranOut p.rcu.silence) Part.engineSilence
  | .listenTimerExpiry group => p.onlyIf (p.listenDue group) fun q => q.listenEnd group
  | .vacancyTimerExpiry group => p.onlyIf (p.vacancyDue group) fun q => q.vacancyEnd group
  | .deadTimeExpiry group => p.onlyIf (p.deadTimeDue group) fun q => q.deadTimeEnd group
  | .holdOffExpiry group => p.onlyIf (p.ranOut (p.group group).holdOff) fun q => q.holdOffEnd group
  | .handoverTimerExpiry group => p.onlyIf (p.handoverDue group) fun q => q.handoverEnd group
  | .healthWindowEnd lane => p.windowNow lane
  | .quietExpiry lane => p.onlyIf (p.quietDue lane) fun q => q.quietExpiry lane
  | .retrainTimerExpiry lane report => p.onlyIf (p.retrainDue lane) fun q => q.retrain lane report
  | .lineFault lane report => p.onlyIf (decide (report ≠ .noFault)) fun q => q.lineFault lane report
  | .lineFaultClear lane => p.lineClear lane
  | .alignDue lane => p.alignNow lane
  | .grantLapse group => p.onlyIf (p.grantLapsed group) fun q => q.lapseGrant group
  | .refreshWalkVisit => p.refreshVisit
  | .refreshWalkEnd => p.refreshEnd
  | .takeoverWalkVisit group => p.takeoverVisit group
  | .takeoverWalkEnd group => p.takeoverEnd group
  | .forgetWalkVisit group => p.forgetVisit group
  | .forgetWalkEnd group => p.forgetEnd group
  | .ingressRecordArrival words => p.pushWords words
  | .resetEnd => p

/-- `exec` of a command that is not RESET or RESET_END. -/
theorem exec_eq_act {i : Instr} (h : i ≠ .reset) (h' : i ≠ .resetEnd) (s : State) :
    exec i s = s.whileRunning fun p => p.act i := by
  cases i <;> first | rfl | contradiction

/-- The same, on a part that is not held. -/
theorem exec_of_running {i : Instr} (h : i ≠ .reset) (h' : i ≠ .resetEnd) {s : State} (hs : s.evp.resetHeld = false) :
    exec i s = .next { s with toPart := s.toPart.act i } := by
  rw [exec_eq_act h h', State.whileRunning, hs]; rfl

/-- The same, with the act computed. -/
theorem exec_of_act {i : Instr} {s : State} {q : Part} (hs : s.evp.resetHeld = false) (ha : s.toPart.act i = q)
    (h : i ≠ .reset := by simp) (h' : i ≠ .resetEnd := by simp) : exec i s = .next { s with toPart := q } := by
  rw [exec_of_running h h' hs, ha]

/-- A held part keeps its state whatever comes, but for RESET and RESET_END (R176). -/
theorem exec_of_held {i : Instr} (h : i ≠ .reset) (h' : i ≠ .resetEnd) {s : State} (hs : s.evp.resetHeld = true) :
    exec i s = .next s := by
  rw [exec_eq_act h h', State.whileRunning, hs]; rfl

/-- What `exec` can answer: the state of a RESET, of a RESET_END, the act of the command, or the same state. -/
theorem exec_cases {i : Instr} {s t : State} (h : exec i s = .next t) :
    i = .reset ∨ i = .resetEnd ∨ t = s ∨ (s.evp.resetHeld = false ∧ t = { s with toPart := s.toPart.act i }) := by
  by_cases h1 : i = .reset
  · exact .inl h1
  by_cases h2 : i = .resetEnd
  · exact .inr (.inl h2)
  rcases hs : s.evp.resetHeld with _ | _
  · rw [exec_of_running h1 h2 hs] at h; exact .inr (.inr (.inr ⟨rfl, by cases h; rfl⟩))
  · rw [exec_of_held h1 h2 hs] at h; exact .inr (.inr (.inl (by cases h; rfl)))

/-- What `step` can answer: the same state, a tick, or `exec` of a command on the state with the queue's rest. -/
theorem step_cases {s t : State} (h : step s = .next t) :
    t = s ∨ t = s.tick ∨ ∃ i q, exec i { s with pending := q } = .next t := by
  unfold step at h
  split at h
  · unfold State.idle at h
    split at h
    · cases h; exact .inl rfl
    · split at h
      · rename_i i _; exact .inr (.inr ⟨i, s.pending, h⟩)
      · cases h; exact .inr (.inl rfl)
  · exact .inr (.inr ⟨_, _, h⟩)

end Sys2Proof.Machine
end

