-- ==== Sys2Proof/Laws/Frames.lean ====
section
/-! SUPPORT. What each shared operation leaves alone: one lemma for each field of the part that the operation does not touch. -/

namespace Sys2Proof.Machine

/-- A field that no step of a left fold touches is not touched by the fold. -/
theorem foldl_keeps {α β : Type} (f : Part → α → Part) (field : Part → β) (h : ∀ q a, field (f q a) = field q)
    (xs : List α) (p : Part) : field (xs.foldl f p) = field p := by
  induction xs generalizing p with
  | nil => rfl
  | cons x xs ih => rw [List.foldl_cons, ih, h]

/-- The same for a right fold. -/
theorem foldr_keeps {α β : Type} (f : α → Part → Part) (field : Part → β) (h : ∀ q a, field (f a q) = field q)
    (xs : List α) (p : Part) : field (xs.foldr f p) = field p := by
  induction xs with
  | nil => rfl
  | cons x xs ih => rw [List.foldr_cons, h, ih]

variable (p : Part)

@[simp] theorem Part.roleNotice_profile (g : Group) (o n : Role) (c : RoleCause) :
    (p.roleNotice g o n c).profile = p.profile := by
  unfold Part.roleNotice; split <;> (try split) <;> simp
@[simp] theorem Part.roleNotice_clock (g : Group) (o n : Role) (c : RoleCause) :
    (p.roleNotice g o n c).clock = p.clock := by
  unfold Part.roleNotice; split <;> (try split) <;> simp
@[simp] theorem Part.roleNotice_smt (g : Group) (o n : Role) (c : RoleCause) :
    (p.roleNotice g o n c).smt = p.smt := by
  unfold Part.roleNotice; split <;> (try split) <;> simp
@[simp] theorem Part.roleNotice_rpu (g : Group) (o n : Role) (c : RoleCause) :
    (p.roleNotice g o n c).rpu = p.rpu := by
  unfold Part.roleNotice; split <;> (try split) <;> simp
@[simp] theorem Part.roleNotice_mbi (g : Group) (o n : Role) (c : RoleCause) :
    (p.roleNotice g o n c).mbi = p.mbi := by
  unfold Part.roleNotice; split <;> (try split) <;> simp
@[simp] theorem Part.roleNotice_ppu (g : Group) (o n : Role) (c : RoleCause) :
    (p.roleNotice g o n c).ppu = p.ppu := by
  unfold Part.roleNotice; split <;> (try split) <;> simp
@[simp] theorem Part.roleNotice_rcu (g : Group) (o n : Role) (c : RoleCause) :
    (p.roleNotice g o n c).rcu = p.rcu := by
  unfold Part.roleNotice; split <;> (try split) <;> simp
@[simp] theorem Part.roleNotice_wtu (g : Group) (o n : Role) (c : RoleCause) :
    (p.roleNotice g o n c).wtu = p.wtu := by
  unfold Part.roleNotice; split <;> (try split) <;> simp
@[simp] theorem Part.roleNotice_tku (g : Group) (o n : Role) (c : RoleCause) :
    (p.roleNotice g o n c).tku = p.tku := by
  unfold Part.roleNotice; split <;> (try split) <;> simp
@[simp] theorem Part.roleNotice_draws (g : Group) (o n : Role) (c : RoleCause) :
    (p.roleNotice g o n c).draws = p.draws := by
  unfold Part.roleNotice; split <;> (try split) <;> simp

@[simp] theorem Part.peerNotice_profile (y : Station) : (p.peerNotice y).profile = p.profile := by
  unfold Part.peerNotice; split <;> simp
@[simp] theorem Part.peerNotice_clock (y : Station) : (p.peerNotice y).clock = p.clock := by
  unfold Part.peerNotice; split <;> simp
@[simp] theorem Part.peerNotice_smt (y : Station) : (p.peerNotice y).smt = p.smt := by
  unfold Part.peerNotice; split <;> simp
@[simp] theorem Part.peerNotice_rpu (y : Station) : (p.peerNotice y).rpu = p.rpu := by
  unfold Part.peerNotice; split <;> simp
@[simp] theorem Part.peerNotice_mbi (y : Station) : (p.peerNotice y).mbi = p.mbi := by
  unfold Part.peerNotice; split <;> simp
@[simp] theorem Part.peerNotice_ppu (y : Station) : (p.peerNotice y).ppu = p.ppu := by
  unfold Part.peerNotice; split <;> simp
@[simp] theorem Part.peerNotice_rcu (y : Station) : (p.peerNotice y).rcu = p.rcu := by
  unfold Part.peerNotice; split <;> simp
@[simp] theorem Part.peerNotice_wtu (y : Station) : (p.peerNotice y).wtu = p.wtu := by
  unfold Part.peerNotice; split <;> simp
@[simp] theorem Part.peerNotice_tku (y : Station) : (p.peerNotice y).tku = p.tku := by
  unfold Part.peerNotice; split <;> simp
@[simp] theorem Part.peerNotice_draws (y : Station) : (p.peerNotice y).draws = p.draws := by
  unfold Part.peerNotice; split <;> simp

@[simp] theorem Part.laneNotice_profile (l : Lane) : (p.laneNotice l).profile = p.profile := by
  unfold Part.laneNotice; split <;> simp
@[simp] theorem Part.laneNotice_clock (l : Lane) : (p.laneNotice l).clock = p.clock := by
  unfold Part.laneNotice; split <;> simp
@[simp] theorem Part.laneNotice_smt (l : Lane) : (p.laneNotice l).smt = p.smt := by
  unfold Part.laneNotice; split <;> simp
@[simp] theorem Part.laneNotice_rpu (l : Lane) : (p.laneNotice l).rpu = p.rpu := by
  unfold Part.laneNotice; split <;> simp
@[simp] theorem Part.laneNotice_mbi (l : Lane) : (p.laneNotice l).mbi = p.mbi := by
  unfold Part.laneNotice; split <;> simp
@[simp] theorem Part.laneNotice_ppu (l : Lane) : (p.laneNotice l).ppu = p.ppu := by
  unfold Part.laneNotice; split <;> simp
@[simp] theorem Part.laneNotice_rcu (l : Lane) : (p.laneNotice l).rcu = p.rcu := by
  unfold Part.laneNotice; split <;> simp
@[simp] theorem Part.laneNotice_wtu (l : Lane) : (p.laneNotice l).wtu = p.wtu := by
  unfold Part.laneNotice; split <;> simp
@[simp] theorem Part.laneNotice_tku (l : Lane) : (p.laneNotice l).tku = p.tku := by
  unfold Part.laneNotice; split <;> simp
@[simp] theorem Part.laneNotice_draws (l : Lane) : (p.laneNotice l).draws = p.draws := by
  unfold Part.laneNotice; split <;> simp

@[simp] theorem Part.setRole_profile (g : Group) (r : Role) (c : RoleCause) :
    (p.setRole g r c).profile = p.profile := by
  unfold Part.setRole; simp
@[simp] theorem Part.setRole_clock (g : Group) (r : Role) (c : RoleCause) :
    (p.setRole g r c).clock = p.clock := by
  unfold Part.setRole; simp
@[simp] theorem Part.setRole_smt (g : Group) (r : Role) (c : RoleCause) : (p.setRole g r c).smt = p.smt := by
  unfold Part.setRole; simp
@[simp] theorem Part.setRole_rpu (g : Group) (r : Role) (c : RoleCause) : (p.setRole g r c).rpu = p.rpu := by
  unfold Part.setRole; simp
@[simp] theorem Part.setRole_ppu (g : Group) (r : Role) (c : RoleCause) : (p.setRole g r c).ppu = p.ppu := by
  unfold Part.setRole; simp
@[simp] theorem Part.setRole_wtu (g : Group) (r : Role) (c : RoleCause) : (p.setRole g r c).wtu = p.wtu := by
  unfold Part.setRole; simp
@[simp] theorem Part.setRole_tku (g : Group) (r : Role) (c : RoleCause) : (p.setRole g r c).tku = p.tku := by
  unfold Part.setRole; simp
@[simp] theorem Part.setRole_draws (g : Group) (r : Role) (c : RoleCause) :
    (p.setRole g r c).draws = p.draws := by
  unfold Part.setRole; simp

@[simp] theorem Part.updateVacancy_evp (g : Group) : (p.updateVacancy g).evp = p.evp := by
  unfold Part.updateVacancy; dsimp only; (repeat' split) <;> simp
@[simp] theorem Part.updateVacancy_profile (g : Group) : (p.updateVacancy g).profile = p.profile := by
  unfold Part.updateVacancy; dsimp only; (repeat' split) <;> simp
@[simp] theorem Part.updateVacancy_clock (g : Group) : (p.updateVacancy g).clock = p.clock := by
  unfold Part.updateVacancy; dsimp only; (repeat' split) <;> simp
@[simp] theorem Part.updateVacancy_smt (g : Group) : (p.updateVacancy g).smt = p.smt := by
  unfold Part.updateVacancy; dsimp only; (repeat' split) <;> simp
@[simp] theorem Part.updateVacancy_rpu (g : Group) : (p.updateVacancy g).rpu = p.rpu := by
  unfold Part.updateVacancy; dsimp only; (repeat' split) <;> simp
@[simp] theorem Part.updateVacancy_mbi (g : Group) : (p.updateVacancy g).mbi = p.mbi := by
  unfold Part.updateVacancy; dsimp only; (repeat' split) <;> simp
@[simp] theorem Part.updateVacancy_ppu (g : Group) : (p.updateVacancy g).ppu = p.ppu := by
  unfold Part.updateVacancy; dsimp only; (repeat' split) <;> simp
@[simp] theorem Part.updateVacancy_wtu (g : Group) : (p.updateVacancy g).wtu = p.wtu := by
  unfold Part.updateVacancy; dsimp only; (repeat' split) <;> simp
@[simp] theorem Part.updateVacancy_tku (g : Group) : (p.updateVacancy g).tku = p.tku := by
  unfold Part.updateVacancy; dsimp only; (repeat' split) <;> simp
@[simp] theorem Part.updateVacancy_draws (g : Group) : (p.updateVacancy g).draws = p.draws := by
  unfold Part.updateVacancy; dsimp only; (repeat' split) <;> simp

@[simp] theorem Part.makeClaim_profile (g : Group) (k : ClaimKind) :
    (p.makeClaim g k).profile = p.profile := by
  unfold Part.makeClaim; simp
@[simp] theorem Part.makeClaim_clock (g : Group) (k : ClaimKind) : (p.makeClaim g k).clock = p.clock := by
  unfold Part.makeClaim; simp
@[simp] theorem Part.makeClaim_smt (g : Group) (k : ClaimKind) : (p.makeClaim g k).smt = p.smt := by
  unfold Part.makeClaim; simp
@[simp] theorem Part.makeClaim_rpu (g : Group) (k : ClaimKind) : (p.makeClaim g k).rpu = p.rpu := by
  unfold Part.makeClaim; simp
@[simp] theorem Part.makeClaim_ppu (g : Group) (k : ClaimKind) : (p.makeClaim g k).ppu = p.ppu := by
  unfold Part.makeClaim; simp
@[simp] theorem Part.makeClaim_wtu (g : Group) (k : ClaimKind) : (p.makeClaim g k).wtu = p.wtu := by
  unfold Part.makeClaim; simp
@[simp] theorem Part.makeClaim_tku (g : Group) (k : ClaimKind) : (p.makeClaim g k).tku = p.tku := by
  unfold Part.makeClaim; simp
@[simp] theorem Part.makeClaim_draws (g : Group) (k : ClaimKind) : (p.makeClaim g k).draws = p.draws := by
  unfold Part.makeClaim; simp

@[simp] theorem Part.evalStandby_profile (g : Group) : (p.evalStandby g).profile = p.profile := by
  unfold Part.evalStandby; dsimp only; (repeat' split) <;> simp
@[simp] theorem Part.evalStandby_clock (g : Group) : (p.evalStandby g).clock = p.clock := by
  unfold Part.evalStandby; dsimp only; (repeat' split) <;> simp
@[simp] theorem Part.evalStandby_smt (g : Group) : (p.evalStandby g).smt = p.smt := by
  unfold Part.evalStandby; dsimp only; (repeat' split) <;> simp
@[simp] theorem Part.evalStandby_rpu (g : Group) : (p.evalStandby g).rpu = p.rpu := by
  unfold Part.evalStandby; dsimp only; (repeat' split) <;> simp
@[simp] theorem Part.evalStandby_ppu (g : Group) : (p.evalStandby g).ppu = p.ppu := by
  unfold Part.evalStandby; dsimp only; (repeat' split) <;> simp
@[simp] theorem Part.evalStandby_wtu (g : Group) : (p.evalStandby g).wtu = p.wtu := by
  unfold Part.evalStandby; dsimp only; (repeat' split) <;> simp
@[simp] theorem Part.evalStandby_tku (g : Group) : (p.evalStandby g).tku = p.tku := by
  unfold Part.evalStandby; dsimp only; (repeat' split) <;> simp
@[simp] theorem Part.evalStandby_draws (g : Group) : (p.evalStandby g).draws = p.draws := by
  unfold Part.evalStandby; dsimp only; (repeat' split) <;> simp

@[simp] theorem Part.enterStandby_profile (g : Group) (c : RoleCause) :
    (p.enterStandby g c).profile = p.profile := by
  unfold Part.enterStandby; simp
@[simp] theorem Part.enterStandby_clock (g : Group) (c : RoleCause) :
    (p.enterStandby g c).clock = p.clock := by
  unfold Part.enterStandby; simp
@[simp] theorem Part.enterStandby_smt (g : Group) (c : RoleCause) : (p.enterStandby g c).smt = p.smt := by
  unfold Part.enterStandby; simp
@[simp] theorem Part.enterStandby_rpu (g : Group) (c : RoleCause) : (p.enterStandby g c).rpu = p.rpu := by
  unfold Part.enterStandby; simp
@[simp] theorem Part.enterStandby_ppu (g : Group) (c : RoleCause) : (p.enterStandby g c).ppu = p.ppu := by
  unfold Part.enterStandby; simp
@[simp] theorem Part.enterStandby_wtu (g : Group) (c : RoleCause) : (p.enterStandby g c).wtu = p.wtu := by
  unfold Part.enterStandby; simp
@[simp] theorem Part.enterStandby_tku (g : Group) (c : RoleCause) : (p.enterStandby g c).tku = p.tku := by
  unfold Part.enterStandby; simp
@[simp] theorem Part.enterStandby_draws (g : Group) (c : RoleCause) :
    (p.enterStandby g c).draws = p.draws := by
  unfold Part.enterStandby; simp

@[simp] theorem Part.evaluate_profile (g : Group) : (p.evaluate g).profile = p.profile := by
  unfold Part.evaluate; split <;> (try split) <;> simp
@[simp] theorem Part.evaluate_clock (g : Group) : (p.evaluate g).clock = p.clock := by
  unfold Part.evaluate; split <;> (try split) <;> simp
@[simp] theorem Part.evaluate_smt (g : Group) : (p.evaluate g).smt = p.smt := by
  unfold Part.evaluate; split <;> (try split) <;> simp
@[simp] theorem Part.evaluate_rpu (g : Group) : (p.evaluate g).rpu = p.rpu := by
  unfold Part.evaluate; split <;> (try split) <;> simp
@[simp] theorem Part.evaluate_ppu (g : Group) : (p.evaluate g).ppu = p.ppu := by
  unfold Part.evaluate; split <;> (try split) <;> simp
@[simp] theorem Part.evaluate_wtu (g : Group) : (p.evaluate g).wtu = p.wtu := by
  unfold Part.evaluate; split <;> (try split) <;> simp
@[simp] theorem Part.evaluate_tku (g : Group) : (p.evaluate g).tku = p.tku := by
  unfold Part.evaluate; split <;> (try split) <;> simp
@[simp] theorem Part.evaluate_draws (g : Group) : (p.evaluate g).draws = p.draws := by
  unfold Part.evaluate; split <;> (try split) <;> simp

@[simp] theorem Part.evaluateAll_profile : (p.evaluateAll).profile = p.profile := by
  unfold Part.evaluateAll; simp
@[simp] theorem Part.evaluateAll_clock : (p.evaluateAll).clock = p.clock := by
  unfold Part.evaluateAll; simp
@[simp] theorem Part.evaluateAll_smt : (p.evaluateAll).smt = p.smt := by
  unfold Part.evaluateAll; simp
@[simp] theorem Part.evaluateAll_rpu : (p.evaluateAll).rpu = p.rpu := by
  unfold Part.evaluateAll; simp
@[simp] theorem Part.evaluateAll_ppu : (p.evaluateAll).ppu = p.ppu := by
  unfold Part.evaluateAll; simp
@[simp] theorem Part.evaluateAll_wtu : (p.evaluateAll).wtu = p.wtu := by
  unfold Part.evaluateAll; simp
@[simp] theorem Part.evaluateAll_tku : (p.evaluateAll).tku = p.tku := by
  unfold Part.evaluateAll; simp
@[simp] theorem Part.evaluateAll_draws : (p.evaluateAll).draws = p.draws := by
  unfold Part.evaluateAll; simp

@[simp] theorem Part.failClaim_profile (g : Group) (b : Bool) : (p.failClaim g b).profile = p.profile := by
  unfold Part.failClaim; split <;> simp
@[simp] theorem Part.failClaim_clock (g : Group) (b : Bool) : (p.failClaim g b).clock = p.clock := by
  unfold Part.failClaim; split <;> simp
@[simp] theorem Part.failClaim_smt (g : Group) (b : Bool) : (p.failClaim g b).smt = p.smt := by
  unfold Part.failClaim; split <;> simp
@[simp] theorem Part.failClaim_rpu (g : Group) (b : Bool) : (p.failClaim g b).rpu = p.rpu := by
  unfold Part.failClaim; split <;> simp
@[simp] theorem Part.failClaim_ppu (g : Group) (b : Bool) : (p.failClaim g b).ppu = p.ppu := by
  unfold Part.failClaim; split <;> simp
@[simp] theorem Part.failClaim_wtu (g : Group) (b : Bool) : (p.failClaim g b).wtu = p.wtu := by
  unfold Part.failClaim; split <;> simp
@[simp] theorem Part.failClaim_tku (g : Group) (b : Bool) : (p.failClaim g b).tku = p.tku := by
  unfold Part.failClaim; split <;> simp
@[simp] theorem Part.failClaim_draws (g : Group) (b : Bool) : (p.failClaim g b).draws = p.draws := by
  unfold Part.failClaim; split <;> simp

@[simp] theorem Part.startListen_profile (g : Group) (c : RoleCause) :
    (p.startListen g c).profile = p.profile := by
  unfold Part.startListen; simp
@[simp] theorem Part.startListen_clock (g : Group) (c : RoleCause) : (p.startListen g c).clock = p.clock := by
  unfold Part.startListen; simp
@[simp] theorem Part.startListen_smt (g : Group) (c : RoleCause) : (p.startListen g c).smt = p.smt := by
  unfold Part.startListen; simp
@[simp] theorem Part.startListen_rpu (g : Group) (c : RoleCause) : (p.startListen g c).rpu = p.rpu := by
  unfold Part.startListen; simp
@[simp] theorem Part.startListen_ppu (g : Group) (c : RoleCause) : (p.startListen g c).ppu = p.ppu := by
  unfold Part.startListen; simp
@[simp] theorem Part.startListen_wtu (g : Group) (c : RoleCause) : (p.startListen g c).wtu = p.wtu := by
  unfold Part.startListen; simp
@[simp] theorem Part.startListen_tku (g : Group) (c : RoleCause) : (p.startListen g c).tku = p.tku := by
  unfold Part.startListen; simp
@[simp] theorem Part.startListen_draws (g : Group) (c : RoleCause) : (p.startListen g c).draws = p.draws := by
  unfold Part.startListen; simp

@[simp] theorem Part.unfenceGroup_profile (g : Group) : (p.unfenceGroup g).profile = p.profile := by
  unfold Part.unfenceGroup; split <;> simp
@[simp] theorem Part.unfenceGroup_clock (g : Group) : (p.unfenceGroup g).clock = p.clock := by
  unfold Part.unfenceGroup; split <;> simp
@[simp] theorem Part.unfenceGroup_smt (g : Group) : (p.unfenceGroup g).smt = p.smt := by
  unfold Part.unfenceGroup; split <;> simp
@[simp] theorem Part.unfenceGroup_rpu (g : Group) : (p.unfenceGroup g).rpu = p.rpu := by
  unfold Part.unfenceGroup; split <;> simp
@[simp] theorem Part.unfenceGroup_ppu (g : Group) : (p.unfenceGroup g).ppu = p.ppu := by
  unfold Part.unfenceGroup; split <;> simp
@[simp] theorem Part.unfenceGroup_wtu (g : Group) : (p.unfenceGroup g).wtu = p.wtu := by
  unfold Part.unfenceGroup; split <;> simp
@[simp] theorem Part.unfenceGroup_tku (g : Group) : (p.unfenceGroup g).tku = p.tku := by
  unfold Part.unfenceGroup; split <;> simp
@[simp] theorem Part.unfenceGroup_draws (g : Group) : (p.unfenceGroup g).draws = p.draws := by
  unfold Part.unfenceGroup; split <;> simp

@[simp] theorem Part.unfence_profile : (p.unfence).profile = p.profile := by
  unfold Part.unfence; simp
@[simp] theorem Part.unfence_clock : (p.unfence).clock = p.clock := by
  unfold Part.unfence; simp
@[simp] theorem Part.unfence_smt : (p.unfence).smt = p.smt := by
  unfold Part.unfence; simp
@[simp] theorem Part.unfence_rpu : (p.unfence).rpu = p.rpu := by
  unfold Part.unfence; simp
@[simp] theorem Part.unfence_ppu : (p.unfence).ppu = p.ppu := by
  unfold Part.unfence; simp
@[simp] theorem Part.unfence_wtu : (p.unfence).wtu = p.wtu := by
  unfold Part.unfence; simp
@[simp] theorem Part.unfence_tku : (p.unfence).tku = p.tku := by
  unfold Part.unfence; simp
@[simp] theorem Part.unfence_draws : (p.unfence).draws = p.draws := by
  unfold Part.unfence; simp

@[simp] theorem Part.clearFence_profile (f : FenceCauses) : (p.clearFence f).profile = p.profile := by
  unfold Part.clearFence; split <;> simp
@[simp] theorem Part.clearFence_clock (f : FenceCauses) : (p.clearFence f).clock = p.clock := by
  unfold Part.clearFence; split <;> simp
@[simp] theorem Part.clearFence_smt (f : FenceCauses) : (p.clearFence f).smt = p.smt := by
  unfold Part.clearFence; split <;> simp
@[simp] theorem Part.clearFence_rpu (f : FenceCauses) : (p.clearFence f).rpu = p.rpu := by
  unfold Part.clearFence; split <;> simp
@[simp] theorem Part.clearFence_ppu (f : FenceCauses) : (p.clearFence f).ppu = p.ppu := by
  unfold Part.clearFence; split <;> simp
@[simp] theorem Part.clearFence_wtu (f : FenceCauses) : (p.clearFence f).wtu = p.wtu := by
  unfold Part.clearFence; split <;> simp
@[simp] theorem Part.clearFence_tku (f : FenceCauses) : (p.clearFence f).tku = p.tku := by
  unfold Part.clearFence; split <;> simp
@[simp] theorem Part.clearFence_draws (f : FenceCauses) : (p.clearFence f).draws = p.draws := by
  unfold Part.clearFence; split <;> simp

@[simp] theorem Part.clearNoQuorum_profile : (p.clearNoQuorum).profile = p.profile := by
  unfold Part.clearNoQuorum; simp
@[simp] theorem Part.clearNoQuorum_clock : (p.clearNoQuorum).clock = p.clock := by
  unfold Part.clearNoQuorum; simp
@[simp] theorem Part.clearNoQuorum_smt : (p.clearNoQuorum).smt = p.smt := by
  unfold Part.clearNoQuorum; simp
@[simp] theorem Part.clearNoQuorum_rpu : (p.clearNoQuorum).rpu = p.rpu := by
  unfold Part.clearNoQuorum; simp
@[simp] theorem Part.clearNoQuorum_ppu : (p.clearNoQuorum).ppu = p.ppu := by
  unfold Part.clearNoQuorum; simp
@[simp] theorem Part.clearNoQuorum_wtu : (p.clearNoQuorum).wtu = p.wtu := by
  unfold Part.clearNoQuorum; simp
@[simp] theorem Part.clearNoQuorum_tku : (p.clearNoQuorum).tku = p.tku := by
  unfold Part.clearNoQuorum; simp
@[simp] theorem Part.clearNoQuorum_draws : (p.clearNoQuorum).draws = p.draws := by
  unfold Part.clearNoQuorum; simp

@[simp] theorem Part.stopTakeover_evp (g : Group) : (p.stopTakeover g).evp = p.evp := rfl
@[simp] theorem Part.stopTakeover_profile (g : Group) : (p.stopTakeover g).profile = p.profile := rfl
@[simp] theorem Part.stopTakeover_clock (g : Group) : (p.stopTakeover g).clock = p.clock := rfl
@[simp] theorem Part.stopTakeover_rpu (g : Group) : (p.stopTakeover g).rpu = p.rpu := rfl
@[simp] theorem Part.stopTakeover_mbi (g : Group) : (p.stopTakeover g).mbi = p.mbi := rfl
@[simp] theorem Part.stopTakeover_ppu (g : Group) : (p.stopTakeover g).ppu = p.ppu := rfl
@[simp] theorem Part.stopTakeover_rcu (g : Group) : (p.stopTakeover g).rcu = p.rcu := rfl
@[simp] theorem Part.stopTakeover_wtu (g : Group) : (p.stopTakeover g).wtu = p.wtu := rfl
@[simp] theorem Part.stopTakeover_draws (g : Group) : (p.stopTakeover g).draws = p.draws := rfl

@[simp] theorem Part.exitActive_profile (g : Group) (r : Role) (c : RoleCause) :
    (p.exitActive g r c).profile = p.profile := by
  unfold Part.exitActive; simp
@[simp] theorem Part.exitActive_clock (g : Group) (r : Role) (c : RoleCause) :
    (p.exitActive g r c).clock = p.clock := by
  unfold Part.exitActive; simp
@[simp] theorem Part.exitActive_rpu (g : Group) (r : Role) (c : RoleCause) :
    (p.exitActive g r c).rpu = p.rpu := by
  unfold Part.exitActive; simp
@[simp] theorem Part.exitActive_ppu (g : Group) (r : Role) (c : RoleCause) :
    (p.exitActive g r c).ppu = p.ppu := by
  unfold Part.exitActive; simp
@[simp] theorem Part.exitActive_wtu (g : Group) (r : Role) (c : RoleCause) :
    (p.exitActive g r c).wtu = p.wtu := by
  unfold Part.exitActive; simp
@[simp] theorem Part.exitActive_draws (g : Group) (r : Role) (c : RoleCause) :
    (p.exitActive g r c).draws = p.draws := by
  unfold Part.exitActive; simp

@[simp] theorem Part.fenceGroup_profile (g : Group) : (p.fenceGroup g).profile = p.profile := by
  unfold Part.fenceGroup; split <;> simp
@[simp] theorem Part.fenceGroup_clock (g : Group) : (p.fenceGroup g).clock = p.clock := by
  unfold Part.fenceGroup; split <;> simp
@[simp] theorem Part.fenceGroup_rpu (g : Group) : (p.fenceGroup g).rpu = p.rpu := by
  unfold Part.fenceGroup; split <;> simp
@[simp] theorem Part.fenceGroup_ppu (g : Group) : (p.fenceGroup g).ppu = p.ppu := by
  unfold Part.fenceGroup; split <;> simp
@[simp] theorem Part.fenceGroup_wtu (g : Group) : (p.fenceGroup g).wtu = p.wtu := by
  unfold Part.fenceGroup; split <;> simp
@[simp] theorem Part.fenceGroup_draws (g : Group) : (p.fenceGroup g).draws = p.draws := by
  unfold Part.fenceGroup; split <;> simp

@[simp] theorem Part.closeEntry_evp (slot : Slot) (e : Entry) : (p.closeEntry slot e).evp = p.evp := by
  unfold Part.closeEntry; split <;> (try split) <;> simp
@[simp] theorem Part.closeEntry_profile (slot : Slot) (e : Entry) :
    (p.closeEntry slot e).profile = p.profile := by
  unfold Part.closeEntry; split <;> (try split) <;> simp
@[simp] theorem Part.closeEntry_clock (slot : Slot) (e : Entry) : (p.closeEntry slot e).clock = p.clock := by
  unfold Part.closeEntry; split <;> (try split) <;> simp
@[simp] theorem Part.closeEntry_mbi (slot : Slot) (e : Entry) : (p.closeEntry slot e).mbi = p.mbi := by
  unfold Part.closeEntry; split <;> (try split) <;> simp
@[simp] theorem Part.closeEntry_ppu (slot : Slot) (e : Entry) : (p.closeEntry slot e).ppu = p.ppu := by
  unfold Part.closeEntry; split <;> (try split) <;> simp
@[simp] theorem Part.closeEntry_rcu (slot : Slot) (e : Entry) : (p.closeEntry slot e).rcu = p.rcu := by
  unfold Part.closeEntry; split <;> (try split) <;> simp
@[simp] theorem Part.closeEntry_wtu (slot : Slot) (e : Entry) : (p.closeEntry slot e).wtu = p.wtu := by
  unfold Part.closeEntry; split <;> (try split) <;> simp
@[simp] theorem Part.closeEntry_tku (slot : Slot) (e : Entry) : (p.closeEntry slot e).tku = p.tku := by
  unfold Part.closeEntry; split <;> (try split) <;> simp
@[simp] theorem Part.closeEntry_draws (slot : Slot) (e : Entry) : (p.closeEntry slot e).draws = p.draws := by
  unfold Part.closeEntry; split <;> (try split) <;> simp

@[simp] theorem Part.disposeExpired_evp (slot : Slot) (e : Entry) :
    (p.disposeExpired slot e).evp = p.evp := by
  unfold Part.disposeExpired; split <;> simp
@[simp] theorem Part.disposeExpired_profile (slot : Slot) (e : Entry) :
    (p.disposeExpired slot e).profile = p.profile := by
  unfold Part.disposeExpired; split <;> simp
@[simp] theorem Part.disposeExpired_clock (slot : Slot) (e : Entry) :
    (p.disposeExpired slot e).clock = p.clock := by
  unfold Part.disposeExpired; split <;> simp
@[simp] theorem Part.disposeExpired_mbi (slot : Slot) (e : Entry) :
    (p.disposeExpired slot e).mbi = p.mbi := by
  unfold Part.disposeExpired; split <;> simp
@[simp] theorem Part.disposeExpired_ppu (slot : Slot) (e : Entry) :
    (p.disposeExpired slot e).ppu = p.ppu := by
  unfold Part.disposeExpired; split <;> simp
@[simp] theorem Part.disposeExpired_rcu (slot : Slot) (e : Entry) :
    (p.disposeExpired slot e).rcu = p.rcu := by
  unfold Part.disposeExpired; split <;> simp
@[simp] theorem Part.disposeExpired_wtu (slot : Slot) (e : Entry) :
    (p.disposeExpired slot e).wtu = p.wtu := by
  unfold Part.disposeExpired; split <;> simp
@[simp] theorem Part.disposeExpired_tku (slot : Slot) (e : Entry) :
    (p.disposeExpired slot e).tku = p.tku := by
  unfold Part.disposeExpired; split <;> simp
@[simp] theorem Part.disposeExpired_draws (slot : Slot) (e : Entry) :
    (p.disposeExpired slot e).draws = p.draws := by
  unfold Part.disposeExpired; split <;> simp

@[simp] theorem Part.adopt_evp (slot : Slot) (e : Entry) : (p.adopt slot e).evp = p.evp := by
  unfold Part.adopt; split <;> simp
@[simp] theorem Part.adopt_profile (slot : Slot) (e : Entry) : (p.adopt slot e).profile = p.profile := by
  unfold Part.adopt; split <;> simp
@[simp] theorem Part.adopt_clock (slot : Slot) (e : Entry) : (p.adopt slot e).clock = p.clock := by
  unfold Part.adopt; split <;> simp
@[simp] theorem Part.adopt_mbi (slot : Slot) (e : Entry) : (p.adopt slot e).mbi = p.mbi := by
  unfold Part.adopt; split <;> simp
@[simp] theorem Part.adopt_ppu (slot : Slot) (e : Entry) : (p.adopt slot e).ppu = p.ppu := by
  unfold Part.adopt; split <;> simp
@[simp] theorem Part.adopt_rcu (slot : Slot) (e : Entry) : (p.adopt slot e).rcu = p.rcu := by
  unfold Part.adopt; split <;> simp
@[simp] theorem Part.adopt_wtu (slot : Slot) (e : Entry) : (p.adopt slot e).wtu = p.wtu := by
  unfold Part.adopt; split <;> simp
@[simp] theorem Part.adopt_tku (slot : Slot) (e : Entry) : (p.adopt slot e).tku = p.tku := by
  unfold Part.adopt; split <;> simp
@[simp] theorem Part.adopt_draws (slot : Slot) (e : Entry) : (p.adopt slot e).draws = p.draws := by
  unfold Part.adopt; split <;> simp

@[simp] theorem Part.writeRecord_evp (g : Group) (i : Fin 8) (rs : List BufferRec) (r : InstallRecord) :
    (p.writeRecord g i rs r).evp = p.evp := by
  unfold Part.writeRecord; dsimp only; split <;> simp
@[simp] theorem Part.writeRecord_profile (g : Group) (i : Fin 8) (rs : List BufferRec) (r : InstallRecord) :
    (p.writeRecord g i rs r).profile = p.profile := by
  unfold Part.writeRecord; dsimp only; split <;> simp
@[simp] theorem Part.writeRecord_clock (g : Group) (i : Fin 8) (rs : List BufferRec) (r : InstallRecord) :
    (p.writeRecord g i rs r).clock = p.clock := by
  unfold Part.writeRecord; dsimp only; split <;> simp
@[simp] theorem Part.writeRecord_smt (g : Group) (i : Fin 8) (rs : List BufferRec) (r : InstallRecord) :
    (p.writeRecord g i rs r).smt = p.smt := by
  unfold Part.writeRecord; dsimp only; split <;> simp
@[simp] theorem Part.writeRecord_rpu (g : Group) (i : Fin 8) (rs : List BufferRec) (r : InstallRecord) :
    (p.writeRecord g i rs r).rpu = p.rpu := by
  unfold Part.writeRecord; dsimp only; split <;> simp
@[simp] theorem Part.writeRecord_mbi (g : Group) (i : Fin 8) (rs : List BufferRec) (r : InstallRecord) :
    (p.writeRecord g i rs r).mbi = p.mbi := by
  unfold Part.writeRecord; dsimp only; split <;> simp
@[simp] theorem Part.writeRecord_ppu (g : Group) (i : Fin 8) (rs : List BufferRec) (r : InstallRecord) :
    (p.writeRecord g i rs r).ppu = p.ppu := by
  unfold Part.writeRecord; dsimp only; split <;> simp
@[simp] theorem Part.writeRecord_rcu (g : Group) (i : Fin 8) (rs : List BufferRec) (r : InstallRecord) :
    (p.writeRecord g i rs r).rcu = p.rcu := by
  unfold Part.writeRecord; dsimp only; split <;> simp
@[simp] theorem Part.writeRecord_wtu (g : Group) (i : Fin 8) (rs : List BufferRec) (r : InstallRecord) :
    (p.writeRecord g i rs r).wtu = p.wtu := by
  unfold Part.writeRecord; dsimp only; split <;> simp
@[simp] theorem Part.writeRecord_draws (g : Group) (i : Fin 8) (rs : List BufferRec) (r : InstallRecord) :
    (p.writeRecord g i rs r).draws = p.draws := by
  unfold Part.writeRecord; dsimp only; split <;> simp

@[simp] theorem Part.walkTo_evp (g : Group) (c : Nat) : (p.walkTo g c).evp = p.evp := rfl
@[simp] theorem Part.walkTo_profile (g : Group) (c : Nat) : (p.walkTo g c).profile = p.profile := rfl
@[simp] theorem Part.walkTo_clock (g : Group) (c : Nat) : (p.walkTo g c).clock = p.clock := rfl
@[simp] theorem Part.walkTo_rpu (g : Group) (c : Nat) : (p.walkTo g c).rpu = p.rpu := rfl
@[simp] theorem Part.walkTo_mbi (g : Group) (c : Nat) : (p.walkTo g c).mbi = p.mbi := rfl
@[simp] theorem Part.walkTo_ppu (g : Group) (c : Nat) : (p.walkTo g c).ppu = p.ppu := rfl
@[simp] theorem Part.walkTo_rcu (g : Group) (c : Nat) : (p.walkTo g c).rcu = p.rcu := rfl
@[simp] theorem Part.walkTo_wtu (g : Group) (c : Nat) : (p.walkTo g c).wtu = p.wtu := rfl
@[simp] theorem Part.walkTo_tku (g : Group) (c : Nat) : (p.walkTo g c).tku = p.tku := rfl
@[simp] theorem Part.walkTo_draws (g : Group) (c : Nat) : (p.walkTo g c).draws = p.draws := rfl

@[simp] theorem Part.walkPast_evp (g : Group) (c : Nat) : (p.walkPast g c).evp = p.evp := rfl
@[simp] theorem Part.walkPast_profile (g : Group) (c : Nat) : (p.walkPast g c).profile = p.profile := rfl
@[simp] theorem Part.walkPast_clock (g : Group) (c : Nat) : (p.walkPast g c).clock = p.clock := rfl
@[simp] theorem Part.walkPast_rpu (g : Group) (c : Nat) : (p.walkPast g c).rpu = p.rpu := rfl
@[simp] theorem Part.walkPast_mbi (g : Group) (c : Nat) : (p.walkPast g c).mbi = p.mbi := rfl
@[simp] theorem Part.walkPast_ppu (g : Group) (c : Nat) : (p.walkPast g c).ppu = p.ppu := rfl
@[simp] theorem Part.walkPast_rcu (g : Group) (c : Nat) : (p.walkPast g c).rcu = p.rcu := rfl
@[simp] theorem Part.walkPast_wtu (g : Group) (c : Nat) : (p.walkPast g c).wtu = p.wtu := rfl
@[simp] theorem Part.walkPast_tku (g : Group) (c : Nat) : (p.walkPast g c).tku = p.tku := rfl
@[simp] theorem Part.walkPast_draws (g : Group) (c : Nat) : (p.walkPast g c).draws = p.draws := rfl

@[simp] theorem Part.walkWaits_evp (g : Group) (c : Nat) (x : WalkWait) : (p.walkWaits g c x).evp = p.evp := rfl
@[simp] theorem Part.walkWaits_profile (g : Group) (c : Nat) (x : WalkWait) : (p.walkWaits g c x).profile = p.profile := rfl
@[simp] theorem Part.walkWaits_clock (g : Group) (c : Nat) (x : WalkWait) : (p.walkWaits g c x).clock = p.clock := rfl
@[simp] theorem Part.walkWaits_rpu (g : Group) (c : Nat) (x : WalkWait) : (p.walkWaits g c x).rpu = p.rpu := rfl
@[simp] theorem Part.walkWaits_mbi (g : Group) (c : Nat) (x : WalkWait) : (p.walkWaits g c x).mbi = p.mbi := rfl
@[simp] theorem Part.walkWaits_ppu (g : Group) (c : Nat) (x : WalkWait) : (p.walkWaits g c x).ppu = p.ppu := rfl
@[simp] theorem Part.walkWaits_rcu (g : Group) (c : Nat) (x : WalkWait) : (p.walkWaits g c x).rcu = p.rcu := rfl
@[simp] theorem Part.walkWaits_wtu (g : Group) (c : Nat) (x : WalkWait) : (p.walkWaits g c x).wtu = p.wtu := rfl
@[simp] theorem Part.walkWaits_tku (g : Group) (c : Nat) (x : WalkWait) : (p.walkWaits g c x).tku = p.tku := rfl
@[simp] theorem Part.walkWaits_draws (g : Group) (c : Nat) (x : WalkWait) : (p.walkWaits g c x).draws = p.draws := rfl

@[simp] theorem Part.visitEntry_evp (g : Group) (c : Nat) (e : Entry) : (p.visitEntry g c e).evp = p.evp := by
  unfold Part.visitEntry; dsimp only; (repeat' split) <;> simp
@[simp] theorem Part.visitEntry_profile (g : Group) (c : Nat) (e : Entry) :
    (p.visitEntry g c e).profile = p.profile := by
  unfold Part.visitEntry; dsimp only; (repeat' split) <;> simp
@[simp] theorem Part.visitEntry_clock (g : Group) (c : Nat) (e : Entry) :
    (p.visitEntry g c e).clock = p.clock := by
  unfold Part.visitEntry; dsimp only; (repeat' split) <;> simp
@[simp] theorem Part.visitEntry_mbi (g : Group) (c : Nat) (e : Entry) : (p.visitEntry g c e).mbi = p.mbi := by
  unfold Part.visitEntry; dsimp only; (repeat' split) <;> simp
@[simp] theorem Part.visitEntry_ppu (g : Group) (c : Nat) (e : Entry) : (p.visitEntry g c e).ppu = p.ppu := by
  unfold Part.visitEntry; dsimp only; (repeat' split) <;> simp
@[simp] theorem Part.visitEntry_rcu (g : Group) (c : Nat) (e : Entry) : (p.visitEntry g c e).rcu = p.rcu := by
  unfold Part.visitEntry; dsimp only; (repeat' split) <;> simp
@[simp] theorem Part.visitEntry_wtu (g : Group) (c : Nat) (e : Entry) : (p.visitEntry g c e).wtu = p.wtu := by
  unfold Part.visitEntry; dsimp only; (repeat' split) <;> simp
@[simp] theorem Part.visitEntry_draws (g : Group) (c : Nat) (e : Entry) :
    (p.visitEntry g c e).draws = p.draws := by
  unfold Part.visitEntry; dsimp only; (repeat' split) <;> simp

@[simp] theorem Part.takeoverVisit_evp (g : Group) : (p.takeoverVisit g).evp = p.evp := by
  unfold Part.takeoverVisit; (repeat' split) <;> simp
@[simp] theorem Part.takeoverVisit_profile (g : Group) : (p.takeoverVisit g).profile = p.profile := by
  unfold Part.takeoverVisit; (repeat' split) <;> simp
@[simp] theorem Part.takeoverVisit_clock (g : Group) : (p.takeoverVisit g).clock = p.clock := by
  unfold Part.takeoverVisit; (repeat' split) <;> simp
@[simp] theorem Part.takeoverVisit_mbi (g : Group) : (p.takeoverVisit g).mbi = p.mbi := by
  unfold Part.takeoverVisit; (repeat' split) <;> simp
@[simp] theorem Part.takeoverVisit_ppu (g : Group) : (p.takeoverVisit g).ppu = p.ppu := by
  unfold Part.takeoverVisit; (repeat' split) <;> simp
@[simp] theorem Part.takeoverVisit_rcu (g : Group) : (p.takeoverVisit g).rcu = p.rcu := by
  unfold Part.takeoverVisit; (repeat' split) <;> simp
@[simp] theorem Part.takeoverVisit_wtu (g : Group) : (p.takeoverVisit g).wtu = p.wtu := by
  unfold Part.takeoverVisit; (repeat' split) <;> simp
@[simp] theorem Part.takeoverVisit_draws (g : Group) : (p.takeoverVisit g).draws = p.draws := by
  unfold Part.takeoverVisit; (repeat' split) <;> simp

@[simp] theorem Part.takeoverEnd_evp (g : Group) : (p.takeoverEnd g).evp = p.evp := by
  unfold Part.takeoverEnd; (repeat' split) <;> simp
@[simp] theorem Part.takeoverEnd_profile (g : Group) : (p.takeoverEnd g).profile = p.profile := by
  unfold Part.takeoverEnd; (repeat' split) <;> simp
@[simp] theorem Part.takeoverEnd_clock (g : Group) : (p.takeoverEnd g).clock = p.clock := by
  unfold Part.takeoverEnd; (repeat' split) <;> simp
@[simp] theorem Part.takeoverEnd_rpu (g : Group) : (p.takeoverEnd g).rpu = p.rpu := by
  unfold Part.takeoverEnd; (repeat' split) <;> simp
@[simp] theorem Part.takeoverEnd_mbi (g : Group) : (p.takeoverEnd g).mbi = p.mbi := by
  unfold Part.takeoverEnd; (repeat' split) <;> simp
@[simp] theorem Part.takeoverEnd_ppu (g : Group) : (p.takeoverEnd g).ppu = p.ppu := by
  unfold Part.takeoverEnd; (repeat' split) <;> simp
@[simp] theorem Part.takeoverEnd_rcu (g : Group) : (p.takeoverEnd g).rcu = p.rcu := by
  unfold Part.takeoverEnd; (repeat' split) <;> simp
@[simp] theorem Part.takeoverEnd_wtu (g : Group) : (p.takeoverEnd g).wtu = p.wtu := by
  unfold Part.takeoverEnd; (repeat' split) <;> simp
@[simp] theorem Part.takeoverEnd_draws (g : Group) : (p.takeoverEnd g).draws = p.draws := by
  unfold Part.takeoverEnd; (repeat' split) <;> simp

@[simp] theorem Part.retryWalk_evp (g : Group) : (p.retryWalk g).evp = p.evp := by
  unfold Part.retryWalk; (repeat' split) <;> simp
@[simp] theorem Part.retryWalk_profile (g : Group) : (p.retryWalk g).profile = p.profile := by
  unfold Part.retryWalk; (repeat' split) <;> simp
@[simp] theorem Part.retryWalk_clock (g : Group) : (p.retryWalk g).clock = p.clock := by
  unfold Part.retryWalk; (repeat' split) <;> simp
@[simp] theorem Part.retryWalk_mbi (g : Group) : (p.retryWalk g).mbi = p.mbi := by
  unfold Part.retryWalk; (repeat' split) <;> simp
@[simp] theorem Part.retryWalk_ppu (g : Group) : (p.retryWalk g).ppu = p.ppu := by
  unfold Part.retryWalk; (repeat' split) <;> simp
@[simp] theorem Part.retryWalk_rcu (g : Group) : (p.retryWalk g).rcu = p.rcu := by
  unfold Part.retryWalk; (repeat' split) <;> simp
@[simp] theorem Part.retryWalk_wtu (g : Group) : (p.retryWalk g).wtu = p.wtu := by
  unfold Part.retryWalk; (repeat' split) <;> simp
@[simp] theorem Part.retryWalk_draws (g : Group) : (p.retryWalk g).draws = p.draws := by
  unfold Part.retryWalk; (repeat' split) <;> simp

@[simp] theorem Part.serveWaiting_evp : (p.serveWaiting).evp = p.evp := by
  unfold Part.serveWaiting; split <;> (try split) <;> simp
@[simp] theorem Part.serveWaiting_profile : (p.serveWaiting).profile = p.profile := by
  unfold Part.serveWaiting; split <;> (try split) <;> simp
@[simp] theorem Part.serveWaiting_clock : (p.serveWaiting).clock = p.clock := by
  unfold Part.serveWaiting; split <;> (try split) <;> simp
@[simp] theorem Part.serveWaiting_mbi : (p.serveWaiting).mbi = p.mbi := by
  unfold Part.serveWaiting; split <;> (try split) <;> simp
@[simp] theorem Part.serveWaiting_ppu : (p.serveWaiting).ppu = p.ppu := by
  unfold Part.serveWaiting; split <;> (try split) <;> simp
@[simp] theorem Part.serveWaiting_rcu : (p.serveWaiting).rcu = p.rcu := by
  unfold Part.serveWaiting; split <;> (try split) <;> simp
@[simp] theorem Part.serveWaiting_wtu : (p.serveWaiting).wtu = p.wtu := by
  unfold Part.serveWaiting; split <;> (try split) <;> simp

@[simp] theorem Part.serveFreed_evp (b : Part) : (p.serveFreed b).evp = p.evp := by
  unfold Part.serveFreed; split <;> simp
@[simp] theorem Part.serveFreed_profile (b : Part) : (p.serveFreed b).profile = p.profile := by
  unfold Part.serveFreed; split <;> simp
@[simp] theorem Part.serveFreed_clock (b : Part) : (p.serveFreed b).clock = p.clock := by
  unfold Part.serveFreed; split <;> simp
@[simp] theorem Part.serveFreed_mbi (b : Part) : (p.serveFreed b).mbi = p.mbi := by
  unfold Part.serveFreed; split <;> simp
@[simp] theorem Part.serveFreed_ppu (b : Part) : (p.serveFreed b).ppu = p.ppu := by
  unfold Part.serveFreed; split <;> simp
@[simp] theorem Part.serveFreed_rcu (b : Part) : (p.serveFreed b).rcu = p.rcu := by
  unfold Part.serveFreed; split <;> simp
@[simp] theorem Part.serveFreed_wtu (b : Part) : (p.serveFreed b).wtu = p.wtu := by
  unfold Part.serveFreed; split <;> simp

@[simp] theorem Part.fenceAll_profile : (p.fenceAll).profile = p.profile := by
  unfold Part.fenceAll; simp
@[simp] theorem Part.fenceAll_clock : (p.fenceAll).clock = p.clock := by
  unfold Part.fenceAll; simp
@[simp] theorem Part.fenceAll_ppu : (p.fenceAll).ppu = p.ppu := by
  unfold Part.fenceAll; simp
@[simp] theorem Part.fenceAll_wtu : (p.fenceAll).wtu = p.wtu := by
  unfold Part.fenceAll; simp

@[simp] theorem Part.applyFence_profile (f : FenceCauses) : (p.applyFence f).profile = p.profile := by
  unfold Part.applyFence; split <;> simp
@[simp] theorem Part.applyFence_clock (f : FenceCauses) : (p.applyFence f).clock = p.clock := by
  unfold Part.applyFence; split <;> simp
@[simp] theorem Part.applyFence_ppu (f : FenceCauses) : (p.applyFence f).ppu = p.ppu := by
  unfold Part.applyFence; split <;> simp
@[simp] theorem Part.applyFence_wtu (f : FenceCauses) : (p.applyFence f).wtu = p.wtu := by
  unfold Part.applyFence; split <;> simp

@[simp] theorem Part.testQuorum_profile : (p.testQuorum).profile = p.profile := by
  unfold Part.testQuorum; split <;> simp
@[simp] theorem Part.testQuorum_clock : (p.testQuorum).clock = p.clock := by
  unfold Part.testQuorum; split <;> simp
@[simp] theorem Part.testQuorum_ppu : (p.testQuorum).ppu = p.ppu := by
  unfold Part.testQuorum; split <;> simp
@[simp] theorem Part.testQuorum_wtu : (p.testQuorum).wtu = p.wtu := by
  unfold Part.testQuorum; split <;> simp

@[simp] theorem Part.enterActive_profile (g : Group) (c : RoleCause) :
    (p.enterActive g c).profile = p.profile := by
  unfold Part.enterActive; simp
@[simp] theorem Part.enterActive_clock (g : Group) (c : RoleCause) : (p.enterActive g c).clock = p.clock := by
  unfold Part.enterActive; simp
@[simp] theorem Part.enterActive_ppu (g : Group) (c : RoleCause) : (p.enterActive g c).ppu = p.ppu := by
  unfold Part.enterActive; simp
@[simp] theorem Part.enterActive_wtu (g : Group) (c : RoleCause) : (p.enterActive g c).wtu = p.wtu := by
  unfold Part.enterActive; simp

@[simp] theorem Part.resolveDeadline_profile (g : Group) (c : ClaimRecord) :
    (p.resolveDeadline g c).profile = p.profile := by
  unfold Part.resolveDeadline; split <;> (try split) <;> simp
@[simp] theorem Part.resolveDeadline_clock (g : Group) (c : ClaimRecord) :
    (p.resolveDeadline g c).clock = p.clock := by
  unfold Part.resolveDeadline; split <;> (try split) <;> simp
@[simp] theorem Part.resolveDeadline_ppu (g : Group) (c : ClaimRecord) :
    (p.resolveDeadline g c).ppu = p.ppu := by
  unfold Part.resolveDeadline; split <;> (try split) <;> simp
@[simp] theorem Part.resolveDeadline_wtu (g : Group) (c : ClaimRecord) :
    (p.resolveDeadline g c).wtu = p.wtu := by
  unfold Part.resolveDeadline; split <;> (try split) <;> simp

@[simp] theorem Part.queuePending_evp (g : Group) (b : Bool) (f : PendingFrame) :
    (p.queuePending g b f).evp = p.evp := by
  unfold Part.queuePending; split <;> simp
@[simp] theorem Part.queuePending_profile (g : Group) (b : Bool) (f : PendingFrame) :
    (p.queuePending g b f).profile = p.profile := by
  unfold Part.queuePending; split <;> simp
@[simp] theorem Part.queuePending_clock (g : Group) (b : Bool) (f : PendingFrame) :
    (p.queuePending g b f).clock = p.clock := by
  unfold Part.queuePending; split <;> simp
@[simp] theorem Part.queuePending_smt (g : Group) (b : Bool) (f : PendingFrame) :
    (p.queuePending g b f).smt = p.smt := by
  unfold Part.queuePending; split <;> simp
@[simp] theorem Part.queuePending_rpu (g : Group) (b : Bool) (f : PendingFrame) :
    (p.queuePending g b f).rpu = p.rpu := by
  unfold Part.queuePending; split <;> simp
@[simp] theorem Part.queuePending_ppu (g : Group) (b : Bool) (f : PendingFrame) :
    (p.queuePending g b f).ppu = p.ppu := by
  unfold Part.queuePending; split <;> simp
@[simp] theorem Part.queuePending_rcu (g : Group) (b : Bool) (f : PendingFrame) :
    (p.queuePending g b f).rcu = p.rcu := by
  unfold Part.queuePending; split <;> simp
@[simp] theorem Part.queuePending_wtu (g : Group) (b : Bool) (f : PendingFrame) :
    (p.queuePending g b f).wtu = p.wtu := by
  unfold Part.queuePending; split <;> simp
@[simp] theorem Part.queuePending_tku (g : Group) (b : Bool) (f : PendingFrame) :
    (p.queuePending g b f).tku = p.tku := by
  unfold Part.queuePending; split <;> simp
@[simp] theorem Part.queuePending_draws (g : Group) (b : Bool) (f : PendingFrame) :
    (p.queuePending g b f).draws = p.draws := by
  unfold Part.queuePending; split <;> simp

@[simp] theorem Part.completeYield_profile (g : Group) (b : Bool) :
    (p.completeYield g b).profile = p.profile := by
  unfold Part.completeYield; dsimp only; split <;> simp
@[simp] theorem Part.completeYield_clock (g : Group) (b : Bool) : (p.completeYield g b).clock = p.clock := by
  unfold Part.completeYield; dsimp only; split <;> simp
@[simp] theorem Part.completeYield_smt (g : Group) (b : Bool) : (p.completeYield g b).smt = p.smt := by
  unfold Part.completeYield; dsimp only; split <;> simp
@[simp] theorem Part.completeYield_rpu (g : Group) (b : Bool) : (p.completeYield g b).rpu = p.rpu := by
  unfold Part.completeYield; dsimp only; split <;> simp
@[simp] theorem Part.completeYield_ppu (g : Group) (b : Bool) : (p.completeYield g b).ppu = p.ppu := by
  unfold Part.completeYield; dsimp only; split <;> simp
@[simp] theorem Part.completeYield_wtu (g : Group) (b : Bool) : (p.completeYield g b).wtu = p.wtu := by
  unfold Part.completeYield; dsimp only; split <;> simp
@[simp] theorem Part.completeYield_tku (g : Group) (b : Bool) : (p.completeYield g b).tku = p.tku := by
  unfold Part.completeYield; dsimp only; split <;> simp
@[simp] theorem Part.completeYield_draws (g : Group) (b : Bool) : (p.completeYield g b).draws = p.draws := by
  unfold Part.completeYield; dsimp only; split <;> simp

@[simp] theorem Part.flushTest_profile (g : Group) : (p.flushTest g).profile = p.profile := by
  unfold Part.flushTest; split <;> simp
@[simp] theorem Part.flushTest_clock (g : Group) : (p.flushTest g).clock = p.clock := by
  unfold Part.flushTest; split <;> simp
@[simp] theorem Part.flushTest_smt (g : Group) : (p.flushTest g).smt = p.smt := by
  unfold Part.flushTest; split <;> simp
@[simp] theorem Part.flushTest_rpu (g : Group) : (p.flushTest g).rpu = p.rpu := by
  unfold Part.flushTest; split <;> simp
@[simp] theorem Part.flushTest_ppu (g : Group) : (p.flushTest g).ppu = p.ppu := by
  unfold Part.flushTest; split <;> simp
@[simp] theorem Part.flushTest_wtu (g : Group) : (p.flushTest g).wtu = p.wtu := by
  unfold Part.flushTest; split <;> simp
@[simp] theorem Part.flushTest_tku (g : Group) : (p.flushTest g).tku = p.tku := by
  unfold Part.flushTest; split <;> simp
@[simp] theorem Part.flushTest_draws (g : Group) : (p.flushTest g).draws = p.draws := by
  unfold Part.flushTest; split <;> simp

@[simp] theorem Part.flushTests_profile : (p.flushTests).profile = p.profile := by
  unfold Part.flushTests; simp
@[simp] theorem Part.flushTests_clock : (p.flushTests).clock = p.clock := by
  unfold Part.flushTests; simp
@[simp] theorem Part.flushTests_smt : (p.flushTests).smt = p.smt := by
  unfold Part.flushTests; simp
@[simp] theorem Part.flushTests_rpu : (p.flushTests).rpu = p.rpu := by
  unfold Part.flushTests; simp
@[simp] theorem Part.flushTests_ppu : (p.flushTests).ppu = p.ppu := by
  unfold Part.flushTests; simp
@[simp] theorem Part.flushTests_wtu : (p.flushTests).wtu = p.wtu := by
  unfold Part.flushTests; simp
@[simp] theorem Part.flushTests_tku : (p.flushTests).tku = p.tku := by
  unfold Part.flushTests; simp
@[simp] theorem Part.flushTests_draws : (p.flushTests).draws = p.draws := by
  unfold Part.flushTests; simp

@[simp] theorem Part.enterYielding_profile (g : Group) (c : RoleCause) (f : PendingFrame) :
    (p.enterYielding g c f).profile = p.profile := by
  unfold Part.enterYielding; simp
@[simp] theorem Part.enterYielding_clock (g : Group) (c : RoleCause) (f : PendingFrame) :
    (p.enterYielding g c f).clock = p.clock := by
  unfold Part.enterYielding; simp
@[simp] theorem Part.enterYielding_ppu (g : Group) (c : RoleCause) (f : PendingFrame) :
    (p.enterYielding g c f).ppu = p.ppu := by
  unfold Part.enterYielding; simp
@[simp] theorem Part.enterYielding_wtu (g : Group) (c : RoleCause) (f : PendingFrame) :
    (p.enterYielding g c f).wtu = p.wtu := by
  unfold Part.enterYielding; simp

@[simp] theorem Part.contest_evp (c : ClaimFrame) : (p.contest c).evp = p.evp := rfl
@[simp] theorem Part.contest_profile (c : ClaimFrame) : (p.contest c).profile = p.profile := rfl
@[simp] theorem Part.contest_clock (c : ClaimFrame) : (p.contest c).clock = p.clock := rfl
@[simp] theorem Part.contest_smt (c : ClaimFrame) : (p.contest c).smt = p.smt := rfl
@[simp] theorem Part.contest_rpu (c : ClaimFrame) : (p.contest c).rpu = p.rpu := rfl
@[simp] theorem Part.contest_ppu (c : ClaimFrame) : (p.contest c).ppu = p.ppu := rfl
@[simp] theorem Part.contest_wtu (c : ClaimFrame) : (p.contest c).wtu = p.wtu := rfl
@[simp] theorem Part.contest_tku (c : ClaimFrame) : (p.contest c).tku = p.tku := rfl
@[simp] theorem Part.contest_draws (c : ClaimFrame) : (p.contest c).draws = p.draws := rfl

@[simp] theorem Part.claimMeetsActive_profile (c : ClaimFrame) :
    (p.claimMeetsActive c).profile = p.profile := by
  unfold Part.claimMeetsActive; split <;> (try split) <;> simp
@[simp] theorem Part.claimMeetsActive_clock (c : ClaimFrame) : (p.claimMeetsActive c).clock = p.clock := by
  unfold Part.claimMeetsActive; split <;> (try split) <;> simp
@[simp] theorem Part.claimMeetsActive_ppu (c : ClaimFrame) : (p.claimMeetsActive c).ppu = p.ppu := by
  unfold Part.claimMeetsActive; split <;> (try split) <;> simp
@[simp] theorem Part.claimMeetsActive_wtu (c : ClaimFrame) : (p.claimMeetsActive c).wtu = p.wtu := by
  unfold Part.claimMeetsActive; split <;> (try split) <;> simp

@[simp] theorem Part.claimByRole_profile (c : ClaimFrame) : (p.claimByRole c).profile = p.profile := by
  unfold Part.claimByRole; (repeat' split) <;> simp
@[simp] theorem Part.claimByRole_clock (c : ClaimFrame) : (p.claimByRole c).clock = p.clock := by
  unfold Part.claimByRole; (repeat' split) <;> simp
@[simp] theorem Part.claimByRole_ppu (c : ClaimFrame) : (p.claimByRole c).ppu = p.ppu := by
  unfold Part.claimByRole; (repeat' split) <;> simp
@[simp] theorem Part.claimByRole_wtu (c : ClaimFrame) : (p.claimByRole c).wtu = p.wtu := by
  unfold Part.claimByRole; (repeat' split) <;> simp

@[simp] theorem Part.takeClaim_profile (c : ClaimFrame) : (p.takeClaim c).profile = p.profile := by
  unfold Part.takeClaim; simp
@[simp] theorem Part.takeClaim_clock (c : ClaimFrame) : (p.takeClaim c).clock = p.clock := by
  unfold Part.takeClaim; simp
@[simp] theorem Part.takeClaim_ppu (c : ClaimFrame) : (p.takeClaim c).ppu = p.ppu := by
  unfold Part.takeClaim; simp
@[simp] theorem Part.takeClaim_wtu (c : ClaimFrame) : (p.takeClaim c).wtu = p.wtu := by
  unfold Part.takeClaim; simp

@[simp] theorem Part.takeAnswer_profile (x : Station) (a : AnswerFrame) :
    (p.takeAnswer x a).profile = p.profile := by
  unfold Part.takeAnswer; dsimp only; (repeat' split) <;> simp
@[simp] theorem Part.takeAnswer_clock (x : Station) (a : AnswerFrame) :
    (p.takeAnswer x a).clock = p.clock := by
  unfold Part.takeAnswer; dsimp only; (repeat' split) <;> simp
@[simp] theorem Part.takeAnswer_smt (x : Station) (a : AnswerFrame) : (p.takeAnswer x a).smt = p.smt := by
  unfold Part.takeAnswer; dsimp only; (repeat' split) <;> simp
@[simp] theorem Part.takeAnswer_rpu (x : Station) (a : AnswerFrame) : (p.takeAnswer x a).rpu = p.rpu := by
  unfold Part.takeAnswer; dsimp only; (repeat' split) <;> simp
@[simp] theorem Part.takeAnswer_ppu (x : Station) (a : AnswerFrame) : (p.takeAnswer x a).ppu = p.ppu := by
  unfold Part.takeAnswer; dsimp only; (repeat' split) <;> simp
@[simp] theorem Part.takeAnswer_wtu (x : Station) (a : AnswerFrame) : (p.takeAnswer x a).wtu = p.wtu := by
  unfold Part.takeAnswer; dsimp only; (repeat' split) <;> simp
@[simp] theorem Part.takeAnswer_tku (x : Station) (a : AnswerFrame) : (p.takeAnswer x a).tku = p.tku := by
  unfold Part.takeAnswer; dsimp only; (repeat' split) <;> simp
@[simp] theorem Part.takeAnswer_draws (x : Station) (a : AnswerFrame) :
    (p.takeAnswer x a).draws = p.draws := by
  unfold Part.takeAnswer; dsimp only; (repeat' split) <;> simp

@[simp] theorem Part.takeYield_profile (g : Group) : (p.takeYield g).profile = p.profile := by
  unfold Part.takeYield; split <;> (try split) <;> simp
@[simp] theorem Part.takeYield_clock (g : Group) : (p.takeYield g).clock = p.clock := by
  unfold Part.takeYield; split <;> (try split) <;> simp
@[simp] theorem Part.takeYield_smt (g : Group) : (p.takeYield g).smt = p.smt := by
  unfold Part.takeYield; split <;> (try split) <;> simp
@[simp] theorem Part.takeYield_rpu (g : Group) : (p.takeYield g).rpu = p.rpu := by
  unfold Part.takeYield; split <;> (try split) <;> simp
@[simp] theorem Part.takeYield_ppu (g : Group) : (p.takeYield g).ppu = p.ppu := by
  unfold Part.takeYield; split <;> (try split) <;> simp
@[simp] theorem Part.takeYield_wtu (g : Group) : (p.takeYield g).wtu = p.wtu := by
  unfold Part.takeYield; split <;> (try split) <;> simp
@[simp] theorem Part.takeYield_tku (g : Group) : (p.takeYield g).tku = p.tku := by
  unfold Part.takeYield; split <;> (try split) <;> simp
@[simp] theorem Part.takeYield_draws (g : Group) : (p.takeYield g).draws = p.draws := by
  unfold Part.takeYield; split <;> (try split) <;> simp

@[simp] theorem Part.pulseMeetsGroup_profile (g : Group) (r : Role) (n : Nat) :
    (p.pulseMeetsGroup g r n).profile = p.profile := by
  unfold Part.pulseMeetsGroup; (repeat' split) <;> simp
@[simp] theorem Part.pulseMeetsGroup_clock (g : Group) (r : Role) (n : Nat) :
    (p.pulseMeetsGroup g r n).clock = p.clock := by
  unfold Part.pulseMeetsGroup; (repeat' split) <;> simp
@[simp] theorem Part.pulseMeetsGroup_ppu (g : Group) (r : Role) (n : Nat) :
    (p.pulseMeetsGroup g r n).ppu = p.ppu := by
  unfold Part.pulseMeetsGroup; (repeat' split) <;> simp
@[simp] theorem Part.pulseMeetsGroup_wtu (g : Group) (r : Role) (n : Nat) :
    (p.pulseMeetsGroup g r n).wtu = p.wtu := by
  unfold Part.pulseMeetsGroup; (repeat' split) <;> simp

@[simp] theorem Part.pulseStanding_evp (g : Group) (r : Option Role) :
    (p.pulseStanding g r).evp = p.evp := rfl
@[simp] theorem Part.pulseStanding_profile (g : Group) (r : Option Role) :
    (p.pulseStanding g r).profile = p.profile := rfl
@[simp] theorem Part.pulseStanding_clock (g : Group) (r : Option Role) :
    (p.pulseStanding g r).clock = p.clock := rfl
@[simp] theorem Part.pulseStanding_smt (g : Group) (r : Option Role) :
    (p.pulseStanding g r).smt = p.smt := rfl
@[simp] theorem Part.pulseStanding_rpu (g : Group) (r : Option Role) :
    (p.pulseStanding g r).rpu = p.rpu := rfl
@[simp] theorem Part.pulseStanding_mbi (g : Group) (r : Option Role) :
    (p.pulseStanding g r).mbi = p.mbi := rfl
@[simp] theorem Part.pulseStanding_ppu (g : Group) (r : Option Role) :
    (p.pulseStanding g r).ppu = p.ppu := rfl
@[simp] theorem Part.pulseStanding_wtu (g : Group) (r : Option Role) :
    (p.pulseStanding g r).wtu = p.wtu := rfl
@[simp] theorem Part.pulseStanding_tku (g : Group) (r : Option Role) :
    (p.pulseStanding g r).tku = p.tku := rfl
@[simp] theorem Part.pulseStanding_draws (g : Group) (r : Option Role) :
    (p.pulseStanding g r).draws = p.draws := rfl

@[simp] theorem Part.failVacantClaim_profile (g : Group) : (p.failVacantClaim g).profile = p.profile := by
  unfold Part.failVacantClaim; split <;> (try split) <;> simp
@[simp] theorem Part.failVacantClaim_clock (g : Group) : (p.failVacantClaim g).clock = p.clock := by
  unfold Part.failVacantClaim; split <;> (try split) <;> simp
@[simp] theorem Part.failVacantClaim_smt (g : Group) : (p.failVacantClaim g).smt = p.smt := by
  unfold Part.failVacantClaim; split <;> (try split) <;> simp
@[simp] theorem Part.failVacantClaim_rpu (g : Group) : (p.failVacantClaim g).rpu = p.rpu := by
  unfold Part.failVacantClaim; split <;> (try split) <;> simp
@[simp] theorem Part.failVacantClaim_ppu (g : Group) : (p.failVacantClaim g).ppu = p.ppu := by
  unfold Part.failVacantClaim; split <;> (try split) <;> simp
@[simp] theorem Part.failVacantClaim_wtu (g : Group) : (p.failVacantClaim g).wtu = p.wtu := by
  unfold Part.failVacantClaim; split <;> (try split) <;> simp
@[simp] theorem Part.failVacantClaim_tku (g : Group) : (p.failVacantClaim g).tku = p.tku := by
  unfold Part.failVacantClaim; split <;> (try split) <;> simp
@[simp] theorem Part.failVacantClaim_draws (g : Group) : (p.failVacantClaim g).draws = p.draws := by
  unfold Part.failVacantClaim; split <;> (try split) <;> simp

@[simp] theorem Part.lossMeetsGroup_profile (g : Group) : (p.lossMeetsGroup g).profile = p.profile := by
  unfold Part.lossMeetsGroup; (repeat' split) <;> simp
@[simp] theorem Part.lossMeetsGroup_clock (g : Group) : (p.lossMeetsGroup g).clock = p.clock := by
  unfold Part.lossMeetsGroup; (repeat' split) <;> simp
@[simp] theorem Part.lossMeetsGroup_smt (g : Group) : (p.lossMeetsGroup g).smt = p.smt := by
  unfold Part.lossMeetsGroup; (repeat' split) <;> simp
@[simp] theorem Part.lossMeetsGroup_rpu (g : Group) : (p.lossMeetsGroup g).rpu = p.rpu := by
  unfold Part.lossMeetsGroup; (repeat' split) <;> simp
@[simp] theorem Part.lossMeetsGroup_ppu (g : Group) : (p.lossMeetsGroup g).ppu = p.ppu := by
  unfold Part.lossMeetsGroup; (repeat' split) <;> simp
@[simp] theorem Part.lossMeetsGroup_wtu (g : Group) : (p.lossMeetsGroup g).wtu = p.wtu := by
  unfold Part.lossMeetsGroup; (repeat' split) <;> simp
@[simp] theorem Part.lossMeetsGroup_tku (g : Group) : (p.lossMeetsGroup g).tku = p.tku := by
  unfold Part.lossMeetsGroup; (repeat' split) <;> simp
@[simp] theorem Part.lossMeetsGroup_draws (g : Group) : (p.lossMeetsGroup g).draws = p.draws := by
  unfold Part.lossMeetsGroup; (repeat' split) <;> simp

@[simp] theorem Part.otherLost_profile : (p.otherLost).profile = p.profile := by
  unfold Part.otherLost; split <;> simp
@[simp] theorem Part.otherLost_clock : (p.otherLost).clock = p.clock := by
  unfold Part.otherLost; split <;> simp
@[simp] theorem Part.otherLost_ppu : (p.otherLost).ppu = p.ppu := by
  unfold Part.otherLost; split <;> simp
@[simp] theorem Part.otherLost_wtu : (p.otherLost).wtu = p.wtu := by
  unfold Part.otherLost; split <;> simp

@[simp] theorem Part.setLatch_profile : (p.setLatch).profile = p.profile := by
  unfold Part.setLatch; split <;> simp
@[simp] theorem Part.setLatch_clock : (p.setLatch).clock = p.clock := by
  unfold Part.setLatch; split <;> simp
@[simp] theorem Part.setLatch_ppu : (p.setLatch).ppu = p.ppu := by
  unfold Part.setLatch; split <;> simp
@[simp] theorem Part.setLatch_wtu : (p.setLatch).wtu = p.wtu := by
  unfold Part.setLatch; split <;> simp

@[simp] theorem Part.claimSucceeded_evp (f : ClaimFrame) : (p.claimSucceeded f).evp = p.evp := by
  unfold Part.claimSucceeded; split <;> (try split) <;> simp
@[simp] theorem Part.claimSucceeded_profile (f : ClaimFrame) : (p.claimSucceeded f).profile = p.profile := by
  unfold Part.claimSucceeded; split <;> (try split) <;> simp
@[simp] theorem Part.claimSucceeded_clock (f : ClaimFrame) : (p.claimSucceeded f).clock = p.clock := by
  unfold Part.claimSucceeded; split <;> (try split) <;> simp
@[simp] theorem Part.claimSucceeded_smt (f : ClaimFrame) : (p.claimSucceeded f).smt = p.smt := by
  unfold Part.claimSucceeded; split <;> (try split) <;> simp
@[simp] theorem Part.claimSucceeded_rpu (f : ClaimFrame) : (p.claimSucceeded f).rpu = p.rpu := by
  unfold Part.claimSucceeded; split <;> (try split) <;> simp
@[simp] theorem Part.claimSucceeded_mbi (f : ClaimFrame) : (p.claimSucceeded f).mbi = p.mbi := by
  unfold Part.claimSucceeded; split <;> (try split) <;> simp
@[simp] theorem Part.claimSucceeded_ppu (f : ClaimFrame) : (p.claimSucceeded f).ppu = p.ppu := by
  unfold Part.claimSucceeded; split <;> (try split) <;> simp
@[simp] theorem Part.claimSucceeded_wtu (f : ClaimFrame) : (p.claimSucceeded f).wtu = p.wtu := by
  unfold Part.claimSucceeded; split <;> (try split) <;> simp
@[simp] theorem Part.claimSucceeded_tku (f : ClaimFrame) : (p.claimSucceeded f).tku = p.tku := by
  unfold Part.claimSucceeded; split <;> (try split) <;> simp
@[simp] theorem Part.claimSucceeded_draws (f : ClaimFrame) : (p.claimSucceeded f).draws = p.draws := by
  unfold Part.claimSucceeded; split <;> (try split) <;> simp

@[simp] theorem Part.claimAbandoned_evp (f : ClaimFrame) : (p.claimAbandoned f).evp = p.evp := by
  unfold Part.claimAbandoned; split <;> (try split) <;> simp
@[simp] theorem Part.claimAbandoned_profile (f : ClaimFrame) : (p.claimAbandoned f).profile = p.profile := by
  unfold Part.claimAbandoned; split <;> (try split) <;> simp
@[simp] theorem Part.claimAbandoned_clock (f : ClaimFrame) : (p.claimAbandoned f).clock = p.clock := by
  unfold Part.claimAbandoned; split <;> (try split) <;> simp
@[simp] theorem Part.claimAbandoned_smt (f : ClaimFrame) : (p.claimAbandoned f).smt = p.smt := by
  unfold Part.claimAbandoned; split <;> (try split) <;> simp
@[simp] theorem Part.claimAbandoned_rpu (f : ClaimFrame) : (p.claimAbandoned f).rpu = p.rpu := by
  unfold Part.claimAbandoned; split <;> (try split) <;> simp
@[simp] theorem Part.claimAbandoned_ppu (f : ClaimFrame) : (p.claimAbandoned f).ppu = p.ppu := by
  unfold Part.claimAbandoned; split <;> (try split) <;> simp
@[simp] theorem Part.claimAbandoned_rcu (f : ClaimFrame) : (p.claimAbandoned f).rcu = p.rcu := by
  unfold Part.claimAbandoned; split <;> (try split) <;> simp
@[simp] theorem Part.claimAbandoned_wtu (f : ClaimFrame) : (p.claimAbandoned f).wtu = p.wtu := by
  unfold Part.claimAbandoned; split <;> (try split) <;> simp
@[simp] theorem Part.claimAbandoned_tku (f : ClaimFrame) : (p.claimAbandoned f).tku = p.tku := by
  unfold Part.claimAbandoned; split <;> (try split) <;> simp
@[simp] theorem Part.claimAbandoned_draws (f : ClaimFrame) : (p.claimAbandoned f).draws = p.draws := by
  unfold Part.claimAbandoned; split <;> (try split) <;> simp

@[simp] theorem Part.returnTail_evp (a : Entry → Nat) (slot : Slot) : (p.returnTail a slot).evp = p.evp := by
  unfold Part.returnTail; split <;> (try split) <;> simp
@[simp] theorem Part.returnTail_profile (a : Entry → Nat) (slot : Slot) :
    (p.returnTail a slot).profile = p.profile := by
  unfold Part.returnTail; split <;> (try split) <;> simp
@[simp] theorem Part.returnTail_clock (a : Entry → Nat) (slot : Slot) :
    (p.returnTail a slot).clock = p.clock := by
  unfold Part.returnTail; split <;> (try split) <;> simp
@[simp] theorem Part.returnTail_mbi (a : Entry → Nat) (slot : Slot) : (p.returnTail a slot).mbi = p.mbi := by
  unfold Part.returnTail; split <;> (try split) <;> simp
@[simp] theorem Part.returnTail_ppu (a : Entry → Nat) (slot : Slot) : (p.returnTail a slot).ppu = p.ppu := by
  unfold Part.returnTail; split <;> (try split) <;> simp
@[simp] theorem Part.returnTail_rcu (a : Entry → Nat) (slot : Slot) : (p.returnTail a slot).rcu = p.rcu := by
  unfold Part.returnTail; split <;> (try split) <;> simp
@[simp] theorem Part.returnTail_wtu (a : Entry → Nat) (slot : Slot) : (p.returnTail a slot).wtu = p.wtu := by
  unfold Part.returnTail; split <;> (try split) <;> simp
@[simp] theorem Part.returnTail_tku (a : Entry → Nat) (slot : Slot) : (p.returnTail a slot).tku = p.tku := by
  unfold Part.returnTail; split <;> (try split) <;> simp
@[simp] theorem Part.returnTail_draws (a : Entry → Nat) (slot : Slot) :
    (p.returnTail a slot).draws = p.draws := by
  unfold Part.returnTail; split <;> (try split) <;> simp

@[simp] theorem Part.returnHead_evp (slot : Slot) : (p.returnHead slot).evp = p.evp := by
  unfold Part.returnHead; split <;> (try split) <;> simp
@[simp] theorem Part.returnHead_profile (slot : Slot) : (p.returnHead slot).profile = p.profile := by
  unfold Part.returnHead; split <;> (try split) <;> simp
@[simp] theorem Part.returnHead_clock (slot : Slot) : (p.returnHead slot).clock = p.clock := by
  unfold Part.returnHead; split <;> (try split) <;> simp
@[simp] theorem Part.returnHead_mbi (slot : Slot) : (p.returnHead slot).mbi = p.mbi := by
  unfold Part.returnHead; split <;> (try split) <;> simp
@[simp] theorem Part.returnHead_ppu (slot : Slot) : (p.returnHead slot).ppu = p.ppu := by
  unfold Part.returnHead; split <;> (try split) <;> simp
@[simp] theorem Part.returnHead_rcu (slot : Slot) : (p.returnHead slot).rcu = p.rcu := by
  unfold Part.returnHead; split <;> (try split) <;> simp
@[simp] theorem Part.returnHead_wtu (slot : Slot) : (p.returnHead slot).wtu = p.wtu := by
  unfold Part.returnHead; split <;> (try split) <;> simp
@[simp] theorem Part.returnHead_tku (slot : Slot) : (p.returnHead slot).tku = p.tku := by
  unfold Part.returnHead; split <;> (try split) <;> simp
@[simp] theorem Part.returnHead_draws (slot : Slot) : (p.returnHead slot).draws = p.draws := by
  unfold Part.returnHead; split <;> (try split) <;> simp

@[simp] theorem Part.markRecall_evp : (p.markRecall).evp = p.evp := by
  unfold Part.markRecall; split <;> (try split) <;> simp
@[simp] theorem Part.markRecall_profile : (p.markRecall).profile = p.profile := by
  unfold Part.markRecall; split <;> (try split) <;> simp
@[simp] theorem Part.markRecall_clock : (p.markRecall).clock = p.clock := by
  unfold Part.markRecall; split <;> (try split) <;> simp
@[simp] theorem Part.markRecall_smt : (p.markRecall).smt = p.smt := by
  unfold Part.markRecall; split <;> (try split) <;> simp
@[simp] theorem Part.markRecall_mbi : (p.markRecall).mbi = p.mbi := by
  unfold Part.markRecall; split <;> (try split) <;> simp
@[simp] theorem Part.markRecall_ppu : (p.markRecall).ppu = p.ppu := by
  unfold Part.markRecall; split <;> (try split) <;> simp
@[simp] theorem Part.markRecall_rcu : (p.markRecall).rcu = p.rcu := by
  unfold Part.markRecall; split <;> (try split) <;> simp
@[simp] theorem Part.markRecall_wtu : (p.markRecall).wtu = p.wtu := by
  unfold Part.markRecall; split <;> (try split) <;> simp
@[simp] theorem Part.markRecall_tku : (p.markRecall).tku = p.tku := by
  unfold Part.markRecall; split <;> (try split) <;> simp
@[simp] theorem Part.markRecall_draws : (p.markRecall).draws = p.draws := by
  unfold Part.markRecall; split <;> (try split) <;> simp

@[simp] theorem Part.returnAll_evp : (p.returnAll).evp = p.evp := by
  simp only [Part.returnAll, Part.mapEntries_evp, Part.markRecall_evp]
  exact foldl_keeps _ (·.evp) (fun q a => by simp) _ _
@[simp] theorem Part.returnAll_profile : (p.returnAll).profile = p.profile := by
  simp only [Part.returnAll, Part.mapEntries_profile, Part.markRecall_profile]
  exact foldl_keeps _ (·.profile) (fun q a => by simp) _ _
@[simp] theorem Part.returnAll_clock : (p.returnAll).clock = p.clock := by
  simp only [Part.returnAll, Part.mapEntries_clock, Part.markRecall_clock]
  exact foldl_keeps _ (·.clock) (fun q a => by simp) _ _
@[simp] theorem Part.returnAll_mbi : (p.returnAll).mbi = p.mbi := by
  simp only [Part.returnAll, Part.mapEntries_mbi, Part.markRecall_mbi]
  exact foldl_keeps _ (·.mbi) (fun q a => by simp) _ _
@[simp] theorem Part.returnAll_ppu : (p.returnAll).ppu = p.ppu := by
  simp only [Part.returnAll, Part.mapEntries_ppu, Part.markRecall_ppu]
  exact foldl_keeps _ (·.ppu) (fun q a => by simp) _ _
@[simp] theorem Part.returnAll_rcu : (p.returnAll).rcu = p.rcu := by
  simp only [Part.returnAll, Part.mapEntries_rcu, Part.markRecall_rcu]
  exact foldl_keeps _ (·.rcu) (fun q a => by simp) _ _
@[simp] theorem Part.returnAll_wtu : (p.returnAll).wtu = p.wtu := by
  simp only [Part.returnAll, Part.mapEntries_wtu, Part.markRecall_wtu]
  exact foldl_keeps _ (·.wtu) (fun q a => by simp) _ _
@[simp] theorem Part.returnAll_tku : (p.returnAll).tku = p.tku := by
  simp only [Part.returnAll, Part.mapEntries_tku, Part.markRecall_tku]
  exact foldl_keeps _ (·.tku) (fun q a => by simp) _ _
@[simp] theorem Part.returnAll_draws : (p.returnAll).draws = p.draws := by
  simp only [Part.returnAll, Part.mapEntries_draws, Part.markRecall_draws]
  exact foldl_keeps _ (·.draws) (fun q a => by simp) _ _

@[simp] theorem Part.timeOut_evp (slot : Slot) : (p.timeOut slot).evp = p.evp := by
  unfold Part.timeOut; split
  · dsimp only; split <;> simp
  · rfl
@[simp] theorem Part.timeOut_profile (slot : Slot) : (p.timeOut slot).profile = p.profile := by
  unfold Part.timeOut; split
  · dsimp only; split <;> simp
  · rfl
@[simp] theorem Part.timeOut_clock (slot : Slot) : (p.timeOut slot).clock = p.clock := by
  unfold Part.timeOut; split
  · dsimp only; split <;> simp
  · rfl
@[simp] theorem Part.timeOut_mbi (slot : Slot) : (p.timeOut slot).mbi = p.mbi := by
  unfold Part.timeOut; split
  · dsimp only; split <;> simp
  · rfl
@[simp] theorem Part.timeOut_ppu (slot : Slot) : (p.timeOut slot).ppu = p.ppu := by
  unfold Part.timeOut; split
  · dsimp only; split <;> simp
  · rfl
@[simp] theorem Part.timeOut_rcu (slot : Slot) : (p.timeOut slot).rcu = p.rcu := by
  unfold Part.timeOut; split
  · dsimp only; split <;> simp
  · rfl
@[simp] theorem Part.timeOut_wtu (slot : Slot) : (p.timeOut slot).wtu = p.wtu := by
  unfold Part.timeOut; split
  · dsimp only; split <;> simp
  · rfl
@[simp] theorem Part.timeOut_tku (slot : Slot) : (p.timeOut slot).tku = p.tku := by
  unfold Part.timeOut; split
  · dsimp only; split <;> simp
  · rfl
@[simp] theorem Part.timeOut_draws (slot : Slot) : (p.timeOut slot).draws = p.draws := by
  unfold Part.timeOut; split
  · dsimp only; split <;> simp
  · rfl

@[simp] theorem Part.takePair_evp (x : Slot × Version) : (p.takePair x).evp = p.evp := by
  unfold Part.takePair; split <;> (try split) <;> simp
@[simp] theorem Part.takePair_profile (x : Slot × Version) : (p.takePair x).profile = p.profile := by
  unfold Part.takePair; split <;> (try split) <;> simp
@[simp] theorem Part.takePair_clock (x : Slot × Version) : (p.takePair x).clock = p.clock := by
  unfold Part.takePair; split <;> (try split) <;> simp
@[simp] theorem Part.takePair_mbi (x : Slot × Version) : (p.takePair x).mbi = p.mbi := by
  unfold Part.takePair; split <;> (try split) <;> simp
@[simp] theorem Part.takePair_ppu (x : Slot × Version) : (p.takePair x).ppu = p.ppu := by
  unfold Part.takePair; split <;> (try split) <;> simp
@[simp] theorem Part.takePair_rcu (x : Slot × Version) : (p.takePair x).rcu = p.rcu := by
  unfold Part.takePair; split <;> (try split) <;> simp
@[simp] theorem Part.takePair_wtu (x : Slot × Version) : (p.takePair x).wtu = p.wtu := by
  unfold Part.takePair; split <;> (try split) <;> simp
@[simp] theorem Part.takePair_tku (x : Slot × Version) : (p.takePair x).tku = p.tku := by
  unfold Part.takePair; split <;> (try split) <;> simp
@[simp] theorem Part.takePair_draws (x : Slot × Version) : (p.takePair x).draws = p.draws := by
  unfold Part.takePair; split <;> (try split) <;> simp

@[simp] theorem Part.frameSlot_evp (slot : Slot) : (p.frameSlot slot).evp = p.evp := by
  unfold Part.frameSlot; split <;> simp
@[simp] theorem Part.frameSlot_profile (slot : Slot) : (p.frameSlot slot).profile = p.profile := by
  unfold Part.frameSlot; split <;> simp
@[simp] theorem Part.frameSlot_clock (slot : Slot) : (p.frameSlot slot).clock = p.clock := by
  unfold Part.frameSlot; split <;> simp
@[simp] theorem Part.frameSlot_mbi (slot : Slot) : (p.frameSlot slot).mbi = p.mbi := by
  unfold Part.frameSlot; split <;> simp
@[simp] theorem Part.frameSlot_ppu (slot : Slot) : (p.frameSlot slot).ppu = p.ppu := by
  unfold Part.frameSlot; split <;> simp
@[simp] theorem Part.frameSlot_rcu (slot : Slot) : (p.frameSlot slot).rcu = p.rcu := by
  unfold Part.frameSlot; split <;> simp
@[simp] theorem Part.frameSlot_wtu (slot : Slot) : (p.frameSlot slot).wtu = p.wtu := by
  unfold Part.frameSlot; split <;> simp
@[simp] theorem Part.frameSlot_tku (slot : Slot) : (p.frameSlot slot).tku = p.tku := by
  unfold Part.frameSlot; split <;> simp
@[simp] theorem Part.frameSlot_draws (slot : Slot) : (p.frameSlot slot).draws = p.draws := by
  unfold Part.frameSlot; split <;> simp

@[simp] theorem Part.heldByPeer_evp (slot : Slot) : (p.heldByPeer slot).evp = p.evp := by
  unfold Part.heldByPeer; split <;> simp
@[simp] theorem Part.heldByPeer_profile (slot : Slot) : (p.heldByPeer slot).profile = p.profile := by
  unfold Part.heldByPeer; split <;> simp
@[simp] theorem Part.heldByPeer_clock (slot : Slot) : (p.heldByPeer slot).clock = p.clock := by
  unfold Part.heldByPeer; split <;> simp
@[simp] theorem Part.heldByPeer_rpu (slot : Slot) : (p.heldByPeer slot).rpu = p.rpu := by
  unfold Part.heldByPeer; split <;> simp
@[simp] theorem Part.heldByPeer_mbi (slot : Slot) : (p.heldByPeer slot).mbi = p.mbi := by
  unfold Part.heldByPeer; split <;> simp
@[simp] theorem Part.heldByPeer_ppu (slot : Slot) : (p.heldByPeer slot).ppu = p.ppu := by
  unfold Part.heldByPeer; split <;> simp
@[simp] theorem Part.heldByPeer_rcu (slot : Slot) : (p.heldByPeer slot).rcu = p.rcu := by
  unfold Part.heldByPeer; split <;> simp
@[simp] theorem Part.heldByPeer_wtu (slot : Slot) : (p.heldByPeer slot).wtu = p.wtu := by
  unfold Part.heldByPeer; split <;> simp
@[simp] theorem Part.heldByPeer_tku (slot : Slot) : (p.heldByPeer slot).tku = p.tku := by
  unfold Part.heldByPeer; split <;> simp
@[simp] theorem Part.heldByPeer_draws (slot : Slot) : (p.heldByPeer slot).draws = p.draws := by
  unfold Part.heldByPeer; split <;> simp

@[simp] theorem Part.sessionCompleted_evp (b : Bool) : (p.sessionCompleted b).evp = p.evp := by
  simp only [Part.sessionCompleted, Part.recallCleared_evp]
  have h1 : ∀ (a : Entry → Nat) (xs : List Slot) (q : Part), (xs.foldl (fun q slot => q.returnTail a slot) q).evp = q.evp :=
    fun a xs q => foldl_keeps _ (·.evp) (fun q x => by simp) xs q
  have h2 : ∀ (xs : List Slot) (q : Part), (xs.foldl Part.heldByPeer q).evp = q.evp :=
    fun xs q => foldl_keeps _ (·.evp) (fun q x => by simp) xs q
  split <;> split <;> simp [h1, h2]
@[simp] theorem Part.sessionCompleted_profile (b : Bool) : (p.sessionCompleted b).profile = p.profile := by
  simp only [Part.sessionCompleted, Part.recallCleared_profile]
  have h1 : ∀ (a : Entry → Nat) (xs : List Slot) (q : Part), (xs.foldl (fun q slot => q.returnTail a slot) q).profile = q.profile :=
    fun a xs q => foldl_keeps _ (·.profile) (fun q x => by simp) xs q
  have h2 : ∀ (xs : List Slot) (q : Part), (xs.foldl Part.heldByPeer q).profile = q.profile :=
    fun xs q => foldl_keeps _ (·.profile) (fun q x => by simp) xs q
  split <;> split <;> simp [h1, h2]
@[simp] theorem Part.sessionCompleted_clock (b : Bool) : (p.sessionCompleted b).clock = p.clock := by
  simp only [Part.sessionCompleted, Part.recallCleared_clock]
  have h1 : ∀ (a : Entry → Nat) (xs : List Slot) (q : Part), (xs.foldl (fun q slot => q.returnTail a slot) q).clock = q.clock :=
    fun a xs q => foldl_keeps _ (·.clock) (fun q x => by simp) xs q
  have h2 : ∀ (xs : List Slot) (q : Part), (xs.foldl Part.heldByPeer q).clock = q.clock :=
    fun xs q => foldl_keeps _ (·.clock) (fun q x => by simp) xs q
  split <;> split <;> simp [h1, h2]
@[simp] theorem Part.sessionCompleted_mbi (b : Bool) : (p.sessionCompleted b).mbi = p.mbi := by
  simp only [Part.sessionCompleted, Part.recallCleared_mbi]
  have h1 : ∀ (a : Entry → Nat) (xs : List Slot) (q : Part), (xs.foldl (fun q slot => q.returnTail a slot) q).mbi = q.mbi :=
    fun a xs q => foldl_keeps _ (·.mbi) (fun q x => by simp) xs q
  have h2 : ∀ (xs : List Slot) (q : Part), (xs.foldl Part.heldByPeer q).mbi = q.mbi :=
    fun xs q => foldl_keeps _ (·.mbi) (fun q x => by simp) xs q
  split <;> split <;> simp [h1, h2]
@[simp] theorem Part.sessionCompleted_ppu (b : Bool) : (p.sessionCompleted b).ppu = p.ppu := by
  simp only [Part.sessionCompleted, Part.recallCleared_ppu]
  have h1 : ∀ (a : Entry → Nat) (xs : List Slot) (q : Part), (xs.foldl (fun q slot => q.returnTail a slot) q).ppu = q.ppu :=
    fun a xs q => foldl_keeps _ (·.ppu) (fun q x => by simp) xs q
  have h2 : ∀ (xs : List Slot) (q : Part), (xs.foldl Part.heldByPeer q).ppu = q.ppu :=
    fun xs q => foldl_keeps _ (·.ppu) (fun q x => by simp) xs q
  split <;> split <;> simp [h1, h2]
@[simp] theorem Part.sessionCompleted_rcu (b : Bool) : (p.sessionCompleted b).rcu = p.rcu := by
  simp only [Part.sessionCompleted, Part.recallCleared_rcu]
  have h1 : ∀ (a : Entry → Nat) (xs : List Slot) (q : Part), (xs.foldl (fun q slot => q.returnTail a slot) q).rcu = q.rcu :=
    fun a xs q => foldl_keeps _ (·.rcu) (fun q x => by simp) xs q
  have h2 : ∀ (xs : List Slot) (q : Part), (xs.foldl Part.heldByPeer q).rcu = q.rcu :=
    fun xs q => foldl_keeps _ (·.rcu) (fun q x => by simp) xs q
  split <;> split <;> simp [h1, h2]
@[simp] theorem Part.sessionCompleted_wtu (b : Bool) : (p.sessionCompleted b).wtu = p.wtu := by
  simp only [Part.sessionCompleted, Part.recallCleared_wtu]
  have h1 : ∀ (a : Entry → Nat) (xs : List Slot) (q : Part), (xs.foldl (fun q slot => q.returnTail a slot) q).wtu = q.wtu :=
    fun a xs q => foldl_keeps _ (·.wtu) (fun q x => by simp) xs q
  have h2 : ∀ (xs : List Slot) (q : Part), (xs.foldl Part.heldByPeer q).wtu = q.wtu :=
    fun xs q => foldl_keeps _ (·.wtu) (fun q x => by simp) xs q
  split <;> split <;> simp [h1, h2]
@[simp] theorem Part.sessionCompleted_tku (b : Bool) : (p.sessionCompleted b).tku = p.tku := by
  simp only [Part.sessionCompleted, Part.recallCleared_tku]
  have h1 : ∀ (a : Entry → Nat) (xs : List Slot) (q : Part), (xs.foldl (fun q slot => q.returnTail a slot) q).tku = q.tku :=
    fun a xs q => foldl_keeps _ (·.tku) (fun q x => by simp) xs q
  have h2 : ∀ (xs : List Slot) (q : Part), (xs.foldl Part.heldByPeer q).tku = q.tku :=
    fun xs q => foldl_keeps _ (·.tku) (fun q x => by simp) xs q
  split <;> split <;> simp [h1, h2]
@[simp] theorem Part.sessionCompleted_draws (b : Bool) : (p.sessionCompleted b).draws = p.draws := by
  simp only [Part.sessionCompleted, Part.recallCleared_draws]
  have h1 : ∀ (a : Entry → Nat) (xs : List Slot) (q : Part), (xs.foldl (fun q slot => q.returnTail a slot) q).draws = q.draws :=
    fun a xs q => foldl_keeps _ (·.draws) (fun q x => by simp) xs q
  have h2 : ∀ (xs : List Slot) (q : Part), (xs.foldl Part.heldByPeer q).draws = q.draws :=
    fun xs q => foldl_keeps _ (·.draws) (fun q x => by simp) xs q
  split <;> split <;> simp [h1, h2]

@[simp] theorem Part.sessionAbandoned_evp : (p.sessionAbandoned).evp = p.evp := by
  simp only [Part.sessionAbandoned, Part.recallCleared_evp]
  exact foldr_keeps _ (·.evp) (fun q a => by simp) _ _
@[simp] theorem Part.sessionAbandoned_profile : (p.sessionAbandoned).profile = p.profile := by
  simp only [Part.sessionAbandoned, Part.recallCleared_profile]
  exact foldr_keeps _ (·.profile) (fun q a => by simp) _ _
@[simp] theorem Part.sessionAbandoned_clock : (p.sessionAbandoned).clock = p.clock := by
  simp only [Part.sessionAbandoned, Part.recallCleared_clock]
  exact foldr_keeps _ (·.clock) (fun q a => by simp) _ _
@[simp] theorem Part.sessionAbandoned_mbi : (p.sessionAbandoned).mbi = p.mbi := by
  simp only [Part.sessionAbandoned, Part.recallCleared_mbi]
  exact foldr_keeps _ (·.mbi) (fun q a => by simp) _ _
@[simp] theorem Part.sessionAbandoned_ppu : (p.sessionAbandoned).ppu = p.ppu := by
  simp only [Part.sessionAbandoned, Part.recallCleared_ppu]
  exact foldr_keeps _ (·.ppu) (fun q a => by simp) _ _
@[simp] theorem Part.sessionAbandoned_rcu : (p.sessionAbandoned).rcu = p.rcu := by
  simp only [Part.sessionAbandoned, Part.recallCleared_rcu]
  exact foldr_keeps _ (·.rcu) (fun q a => by simp) _ _
@[simp] theorem Part.sessionAbandoned_wtu : (p.sessionAbandoned).wtu = p.wtu := by
  simp only [Part.sessionAbandoned, Part.recallCleared_wtu]
  exact foldr_keeps _ (·.wtu) (fun q a => by simp) _ _
@[simp] theorem Part.sessionAbandoned_tku : (p.sessionAbandoned).tku = p.tku := by
  simp only [Part.sessionAbandoned, Part.recallCleared_tku]
  exact foldr_keeps _ (·.tku) (fun q a => by simp) _ _
@[simp] theorem Part.sessionAbandoned_draws : (p.sessionAbandoned).draws = p.draws := by
  simp only [Part.sessionAbandoned, Part.recallCleared_draws]
  exact foldr_keeps _ (·.draws) (fun q a => by simp) _ _

@[simp] theorem Part.applyWire_evp (w : WireRecord) : (p.applyWire w).evp = p.evp := by
  unfold Part.applyWire; dsimp only; split <;> simp
@[simp] theorem Part.applyWire_profile (w : WireRecord) : (p.applyWire w).profile = p.profile := by
  unfold Part.applyWire; dsimp only; split <;> simp
@[simp] theorem Part.applyWire_clock (w : WireRecord) : (p.applyWire w).clock = p.clock := by
  unfold Part.applyWire; dsimp only; split <;> simp
@[simp] theorem Part.applyWire_mbi (w : WireRecord) : (p.applyWire w).mbi = p.mbi := by
  unfold Part.applyWire; dsimp only; split <;> simp
@[simp] theorem Part.applyWire_ppu (w : WireRecord) : (p.applyWire w).ppu = p.ppu := by
  unfold Part.applyWire; dsimp only; split <;> simp
@[simp] theorem Part.applyWire_rcu (w : WireRecord) : (p.applyWire w).rcu = p.rcu := by
  unfold Part.applyWire; dsimp only; split <;> simp
@[simp] theorem Part.applyWire_wtu (w : WireRecord) : (p.applyWire w).wtu = p.wtu := by
  unfold Part.applyWire; dsimp only; split <;> simp
@[simp] theorem Part.applyWire_draws (w : WireRecord) : (p.applyWire w).draws = p.draws := by
  unfold Part.applyWire; dsimp only; split <;> simp

@[simp] theorem Part.reassert_evp (slot : Slot) (e : Entry) : (p.reassert slot e).evp = p.evp := by
  unfold Part.reassert; split <;> simp
@[simp] theorem Part.reassert_profile (slot : Slot) (e : Entry) :
    (p.reassert slot e).profile = p.profile := by
  unfold Part.reassert; split <;> simp
@[simp] theorem Part.reassert_clock (slot : Slot) (e : Entry) : (p.reassert slot e).clock = p.clock := by
  unfold Part.reassert; split <;> simp
@[simp] theorem Part.reassert_mbi (slot : Slot) (e : Entry) : (p.reassert slot e).mbi = p.mbi := by
  unfold Part.reassert; split <;> simp
@[simp] theorem Part.reassert_ppu (slot : Slot) (e : Entry) : (p.reassert slot e).ppu = p.ppu := by
  unfold Part.reassert; split <;> simp
@[simp] theorem Part.reassert_rcu (slot : Slot) (e : Entry) : (p.reassert slot e).rcu = p.rcu := by
  unfold Part.reassert; split <;> simp
@[simp] theorem Part.reassert_wtu (slot : Slot) (e : Entry) : (p.reassert slot e).wtu = p.wtu := by
  unfold Part.reassert; split <;> simp
@[simp] theorem Part.reassert_tku (slot : Slot) (e : Entry) : (p.reassert slot e).tku = p.tku := by
  unfold Part.reassert; split <;> simp
@[simp] theorem Part.reassert_draws (slot : Slot) (e : Entry) : (p.reassert slot e).draws = p.draws := by
  unfold Part.reassert; split <;> simp

@[simp] theorem Part.removeShadow_evp (slot : Slot) : (p.removeShadow slot).evp = p.evp := by
  unfold Part.removeShadow; split <;> (try split) <;> simp
@[simp] theorem Part.removeShadow_profile (slot : Slot) : (p.removeShadow slot).profile = p.profile := by
  unfold Part.removeShadow; split <;> (try split) <;> simp
@[simp] theorem Part.removeShadow_clock (slot : Slot) : (p.removeShadow slot).clock = p.clock := by
  unfold Part.removeShadow; split <;> (try split) <;> simp
@[simp] theorem Part.removeShadow_mbi (slot : Slot) : (p.removeShadow slot).mbi = p.mbi := by
  unfold Part.removeShadow; split <;> (try split) <;> simp
@[simp] theorem Part.removeShadow_ppu (slot : Slot) : (p.removeShadow slot).ppu = p.ppu := by
  unfold Part.removeShadow; split <;> (try split) <;> simp
@[simp] theorem Part.removeShadow_rcu (slot : Slot) : (p.removeShadow slot).rcu = p.rcu := by
  unfold Part.removeShadow; split <;> (try split) <;> simp
@[simp] theorem Part.removeShadow_wtu (slot : Slot) : (p.removeShadow slot).wtu = p.wtu := by
  unfold Part.removeShadow; split <;> (try split) <;> simp
@[simp] theorem Part.removeShadow_tku (slot : Slot) : (p.removeShadow slot).tku = p.tku := by
  unfold Part.removeShadow; split <;> (try split) <;> simp
@[simp] theorem Part.removeShadow_draws (slot : Slot) : (p.removeShadow slot).draws = p.draws := by
  unfold Part.removeShadow; split <;> (try split) <;> simp

@[simp] theorem Part.refreshEntry_evp (slot : Slot) (e : Entry) : (p.refreshEntry slot e).evp = p.evp := by
  unfold Part.refreshEntry; split <;> (try split) <;> simp
@[simp] theorem Part.refreshEntry_profile (slot : Slot) (e : Entry) :
    (p.refreshEntry slot e).profile = p.profile := by
  unfold Part.refreshEntry; split <;> (try split) <;> simp
@[simp] theorem Part.refreshEntry_clock (slot : Slot) (e : Entry) :
    (p.refreshEntry slot e).clock = p.clock := by
  unfold Part.refreshEntry; split <;> (try split) <;> simp
@[simp] theorem Part.refreshEntry_mbi (slot : Slot) (e : Entry) : (p.refreshEntry slot e).mbi = p.mbi := by
  unfold Part.refreshEntry; split <;> (try split) <;> simp
@[simp] theorem Part.refreshEntry_ppu (slot : Slot) (e : Entry) : (p.refreshEntry slot e).ppu = p.ppu := by
  unfold Part.refreshEntry; split <;> (try split) <;> simp
@[simp] theorem Part.refreshEntry_rcu (slot : Slot) (e : Entry) : (p.refreshEntry slot e).rcu = p.rcu := by
  unfold Part.refreshEntry; split <;> (try split) <;> simp
@[simp] theorem Part.refreshEntry_wtu (slot : Slot) (e : Entry) : (p.refreshEntry slot e).wtu = p.wtu := by
  unfold Part.refreshEntry; split <;> (try split) <;> simp
@[simp] theorem Part.refreshEntry_tku (slot : Slot) (e : Entry) : (p.refreshEntry slot e).tku = p.tku := by
  unfold Part.refreshEntry; split <;> (try split) <;> simp
@[simp] theorem Part.refreshEntry_draws (slot : Slot) (e : Entry) :
    (p.refreshEntry slot e).draws = p.draws := by
  unfold Part.refreshEntry; split <;> (try split) <;> simp

@[simp] theorem Part.refreshVisit_profile : (p.refreshVisit).profile = p.profile := by
  unfold Part.refreshVisit; dsimp only; (repeat' split) <;> simp
@[simp] theorem Part.refreshVisit_clock : (p.refreshVisit).clock = p.clock := by
  unfold Part.refreshVisit; dsimp only; (repeat' split) <;> simp
@[simp] theorem Part.refreshVisit_ppu : (p.refreshVisit).ppu = p.ppu := by
  unfold Part.refreshVisit; dsimp only; (repeat' split) <;> simp
@[simp] theorem Part.refreshVisit_wtu : (p.refreshVisit).wtu = p.wtu := by
  unfold Part.refreshVisit; dsimp only; (repeat' split) <;> simp
@[simp] theorem Part.refreshVisit_tku : (p.refreshVisit).tku = p.tku := by
  unfold Part.refreshVisit; dsimp only; (repeat' split) <;> simp
@[simp] theorem Part.refreshVisit_draws : (p.refreshVisit).draws = p.draws := by
  unfold Part.refreshVisit; dsimp only; (repeat' split) <;> simp

@[simp] theorem Part.verdictAbandoned_evp (a : AnswerFrame) : (p.verdictAbandoned a).evp = p.evp := by
  unfold Part.verdictAbandoned; (repeat' split) <;> simp
@[simp] theorem Part.verdictAbandoned_profile (a : AnswerFrame) :
    (p.verdictAbandoned a).profile = p.profile := by
  unfold Part.verdictAbandoned; (repeat' split) <;> simp
@[simp] theorem Part.verdictAbandoned_clock (a : AnswerFrame) : (p.verdictAbandoned a).clock = p.clock := by
  unfold Part.verdictAbandoned; (repeat' split) <;> simp
@[simp] theorem Part.verdictAbandoned_smt (a : AnswerFrame) : (p.verdictAbandoned a).smt = p.smt := by
  unfold Part.verdictAbandoned; (repeat' split) <;> simp
@[simp] theorem Part.verdictAbandoned_rpu (a : AnswerFrame) : (p.verdictAbandoned a).rpu = p.rpu := by
  unfold Part.verdictAbandoned; (repeat' split) <;> simp
@[simp] theorem Part.verdictAbandoned_ppu (a : AnswerFrame) : (p.verdictAbandoned a).ppu = p.ppu := by
  unfold Part.verdictAbandoned; (repeat' split) <;> simp
@[simp] theorem Part.verdictAbandoned_rcu (a : AnswerFrame) : (p.verdictAbandoned a).rcu = p.rcu := by
  unfold Part.verdictAbandoned; (repeat' split) <;> simp
@[simp] theorem Part.verdictAbandoned_wtu (a : AnswerFrame) : (p.verdictAbandoned a).wtu = p.wtu := by
  unfold Part.verdictAbandoned; (repeat' split) <;> simp
@[simp] theorem Part.verdictAbandoned_tku (a : AnswerFrame) : (p.verdictAbandoned a).tku = p.tku := by
  unfold Part.verdictAbandoned; (repeat' split) <;> simp
@[simp] theorem Part.verdictAbandoned_draws (a : AnswerFrame) : (p.verdictAbandoned a).draws = p.draws := by
  unfold Part.verdictAbandoned; (repeat' split) <;> simp

@[simp] theorem Part.lapseGrant_evp (g : Group) : (p.lapseGrant g).evp = p.evp := by
  unfold Part.lapseGrant; split <;> simp
@[simp] theorem Part.lapseGrant_profile (g : Group) : (p.lapseGrant g).profile = p.profile := by
  unfold Part.lapseGrant; split <;> simp
@[simp] theorem Part.lapseGrant_clock (g : Group) : (p.lapseGrant g).clock = p.clock := by
  unfold Part.lapseGrant; split <;> simp
@[simp] theorem Part.lapseGrant_smt (g : Group) : (p.lapseGrant g).smt = p.smt := by
  unfold Part.lapseGrant; split <;> simp
@[simp] theorem Part.lapseGrant_rpu (g : Group) : (p.lapseGrant g).rpu = p.rpu := by
  unfold Part.lapseGrant; split <;> simp
@[simp] theorem Part.lapseGrant_ppu (g : Group) : (p.lapseGrant g).ppu = p.ppu := by
  unfold Part.lapseGrant; split <;> simp
@[simp] theorem Part.lapseGrant_rcu (g : Group) : (p.lapseGrant g).rcu = p.rcu := by
  unfold Part.lapseGrant; split <;> simp
@[simp] theorem Part.lapseGrant_tku (g : Group) : (p.lapseGrant g).tku = p.tku := by
  unfold Part.lapseGrant; split <;> simp
@[simp] theorem Part.lapseGrant_draws (g : Group) : (p.lapseGrant g).draws = p.draws := by
  unfold Part.lapseGrant; split <;> simp

@[simp] theorem Part.forgetAnswers_evp (x : Station) : (p.forgetAnswers x).evp = p.evp := rfl
@[simp] theorem Part.forgetAnswers_profile (x : Station) : (p.forgetAnswers x).profile = p.profile := rfl
@[simp] theorem Part.forgetAnswers_clock (x : Station) : (p.forgetAnswers x).clock = p.clock := rfl
@[simp] theorem Part.forgetAnswers_smt (x : Station) : (p.forgetAnswers x).smt = p.smt := rfl
@[simp] theorem Part.forgetAnswers_rpu (x : Station) : (p.forgetAnswers x).rpu = p.rpu := rfl
@[simp] theorem Part.forgetAnswers_mbi (x : Station) : (p.forgetAnswers x).mbi = p.mbi := rfl
@[simp] theorem Part.forgetAnswers_ppu (x : Station) : (p.forgetAnswers x).ppu = p.ppu := rfl
@[simp] theorem Part.forgetAnswers_rcu (x : Station) : (p.forgetAnswers x).rcu = p.rcu := rfl
@[simp] theorem Part.forgetAnswers_tku (x : Station) : (p.forgetAnswers x).tku = p.tku := rfl
@[simp] theorem Part.forgetAnswers_draws (x : Station) : (p.forgetAnswers x).draws = p.draws := rfl

@[simp] theorem Part.pulseCompleted_evp (m : PerGroup (BitVec 8)) : (p.pulseCompleted m).evp = p.evp := by
  unfold Part.pulseCompleted; split <;> simp
@[simp] theorem Part.pulseCompleted_profile (m : PerGroup (BitVec 8)) :
    (p.pulseCompleted m).profile = p.profile := by
  unfold Part.pulseCompleted; split <;> simp
@[simp] theorem Part.pulseCompleted_clock (m : PerGroup (BitVec 8)) :
    (p.pulseCompleted m).clock = p.clock := by
  unfold Part.pulseCompleted; split <;> simp
@[simp] theorem Part.pulseCompleted_smt (m : PerGroup (BitVec 8)) : (p.pulseCompleted m).smt = p.smt := by
  unfold Part.pulseCompleted; split <;> simp
@[simp] theorem Part.pulseCompleted_rpu (m : PerGroup (BitVec 8)) : (p.pulseCompleted m).rpu = p.rpu := by
  unfold Part.pulseCompleted; split <;> simp
@[simp] theorem Part.pulseCompleted_mbi (m : PerGroup (BitVec 8)) : (p.pulseCompleted m).mbi = p.mbi := by
  unfold Part.pulseCompleted; split <;> simp
@[simp] theorem Part.pulseCompleted_ppu (m : PerGroup (BitVec 8)) : (p.pulseCompleted m).ppu = p.ppu := by
  unfold Part.pulseCompleted; split <;> simp
@[simp] theorem Part.pulseCompleted_wtu (m : PerGroup (BitVec 8)) : (p.pulseCompleted m).wtu = p.wtu := by
  unfold Part.pulseCompleted; split <;> simp
@[simp] theorem Part.pulseCompleted_tku (m : PerGroup (BitVec 8)) : (p.pulseCompleted m).tku = p.tku := by
  unfold Part.pulseCompleted; split <;> simp
@[simp] theorem Part.pulseCompleted_draws (m : PerGroup (BitVec 8)) :
    (p.pulseCompleted m).draws = p.draws := by
  unfold Part.pulseCompleted; split <;> simp

@[simp] theorem Part.answerAbandoned_evp (a : AnswerFrame) (b : Bool) :
    (p.answerAbandoned a b).evp = p.evp := by
  unfold Part.answerAbandoned; split <;> (try split) <;> simp
@[simp] theorem Part.answerAbandoned_profile (a : AnswerFrame) (b : Bool) :
    (p.answerAbandoned a b).profile = p.profile := by
  unfold Part.answerAbandoned; split <;> (try split) <;> simp
@[simp] theorem Part.answerAbandoned_clock (a : AnswerFrame) (b : Bool) :
    (p.answerAbandoned a b).clock = p.clock := by
  unfold Part.answerAbandoned; split <;> (try split) <;> simp
@[simp] theorem Part.answerAbandoned_smt (a : AnswerFrame) (b : Bool) :
    (p.answerAbandoned a b).smt = p.smt := by
  unfold Part.answerAbandoned; split <;> (try split) <;> simp
@[simp] theorem Part.answerAbandoned_rpu (a : AnswerFrame) (b : Bool) :
    (p.answerAbandoned a b).rpu = p.rpu := by
  unfold Part.answerAbandoned; split <;> (try split) <;> simp
@[simp] theorem Part.answerAbandoned_ppu (a : AnswerFrame) (b : Bool) :
    (p.answerAbandoned a b).ppu = p.ppu := by
  unfold Part.answerAbandoned; split <;> (try split) <;> simp
@[simp] theorem Part.answerAbandoned_rcu (a : AnswerFrame) (b : Bool) :
    (p.answerAbandoned a b).rcu = p.rcu := by
  unfold Part.answerAbandoned; split <;> (try split) <;> simp
@[simp] theorem Part.answerAbandoned_wtu (a : AnswerFrame) (b : Bool) :
    (p.answerAbandoned a b).wtu = p.wtu := by
  unfold Part.answerAbandoned; split <;> (try split) <;> simp
@[simp] theorem Part.answerAbandoned_tku (a : AnswerFrame) (b : Bool) :
    (p.answerAbandoned a b).tku = p.tku := by
  unfold Part.answerAbandoned; split <;> (try split) <;> simp
@[simp] theorem Part.answerAbandoned_draws (a : AnswerFrame) (b : Bool) :
    (p.answerAbandoned a b).draws = p.draws := by
  unfold Part.answerAbandoned; split <;> (try split) <;> simp

@[simp] theorem Part.outcome_evp (f : TxFrame) (a b : Bool) : (p.outcome f a b).evp = p.evp := by
  unfold Part.outcome; split <;> (try split) <;> simp
@[simp] theorem Part.outcome_profile (f : TxFrame) (a b : Bool) : (p.outcome f a b).profile = p.profile := by
  unfold Part.outcome; split <;> (try split) <;> simp
@[simp] theorem Part.outcome_clock (f : TxFrame) (a b : Bool) : (p.outcome f a b).clock = p.clock := by
  unfold Part.outcome; split <;> (try split) <;> simp
@[simp] theorem Part.outcome_ppu (f : TxFrame) (a b : Bool) : (p.outcome f a b).ppu = p.ppu := by
  unfold Part.outcome; split <;> (try split) <;> simp
@[simp] theorem Part.outcome_wtu (f : TxFrame) (a b : Bool) : (p.outcome f a b).wtu = p.wtu := by
  unfold Part.outcome; split <;> (try split) <;> simp
@[simp] theorem Part.outcome_tku (f : TxFrame) (a b : Bool) : (p.outcome f a b).tku = p.tku := by
  unfold Part.outcome; split <;> (try split) <;> simp
@[simp] theorem Part.outcome_draws (f : TxFrame) (a b : Bool) : (p.outcome f a b).draws = p.draws := by
  unfold Part.outcome; split <;> (try split) <;> simp

@[simp] theorem Part.endCopy_evp (h : InHand) (b : Bool) : (p.endCopy h b).evp = p.evp := by
  unfold Part.endCopy; split <;> simp
@[simp] theorem Part.endCopy_profile (h : InHand) (b : Bool) : (p.endCopy h b).profile = p.profile := by
  unfold Part.endCopy; split <;> simp
@[simp] theorem Part.endCopy_clock (h : InHand) (b : Bool) : (p.endCopy h b).clock = p.clock := by
  unfold Part.endCopy; split <;> simp
@[simp] theorem Part.endCopy_ppu (h : InHand) (b : Bool) : (p.endCopy h b).ppu = p.ppu := by
  unfold Part.endCopy; split <;> simp
@[simp] theorem Part.endCopy_wtu (h : InHand) (b : Bool) : (p.endCopy h b).wtu = p.wtu := by
  unfold Part.endCopy; split <;> simp
@[simp] theorem Part.endCopy_tku (h : InHand) (b : Bool) : (p.endCopy h b).tku = p.tku := by
  unfold Part.endCopy; split <;> simp
@[simp] theorem Part.endCopy_draws (h : InHand) (b : Bool) : (p.endCopy h b).draws = p.draws := by
  unfold Part.endCopy; split <;> simp

@[simp] theorem Part.abandonLost_evp : (p.abandonLost).evp = p.evp := by
  unfold Part.abandonLost; split <;> (try split) <;> simp
@[simp] theorem Part.abandonLost_profile : (p.abandonLost).profile = p.profile := by
  unfold Part.abandonLost; split <;> (try split) <;> simp
@[simp] theorem Part.abandonLost_clock : (p.abandonLost).clock = p.clock := by
  unfold Part.abandonLost; split <;> (try split) <;> simp
@[simp] theorem Part.abandonLost_ppu : (p.abandonLost).ppu = p.ppu := by
  unfold Part.abandonLost; split <;> (try split) <;> simp
@[simp] theorem Part.abandonLost_wtu : (p.abandonLost).wtu = p.wtu := by
  unfold Part.abandonLost; split <;> (try split) <;> simp
@[simp] theorem Part.abandonLost_tku : (p.abandonLost).tku = p.tku := by
  unfold Part.abandonLost; split <;> (try split) <;> simp
@[simp] theorem Part.abandonLost_draws : (p.abandonLost).draws = p.draws := by
  unfold Part.abandonLost; split <;> (try split) <;> simp

@[simp] theorem Part.laneTo_profile (l : Lane) (x : LaneState) : (p.laneTo l x).profile = p.profile := by
  unfold Part.laneTo; simp
@[simp] theorem Part.laneTo_clock (l : Lane) (x : LaneState) : (p.laneTo l x).clock = p.clock := by
  unfold Part.laneTo; simp
@[simp] theorem Part.laneTo_ppu (l : Lane) (x : LaneState) : (p.laneTo l x).ppu = p.ppu := by
  unfold Part.laneTo; simp
@[simp] theorem Part.laneTo_wtu (l : Lane) (x : LaneState) : (p.laneTo l x).wtu = p.wtu := by
  unfold Part.laneTo; simp
@[simp] theorem Part.laneTo_tku (l : Lane) (x : LaneState) : (p.laneTo l x).tku = p.tku := by
  unfold Part.laneTo; simp
@[simp] theorem Part.laneTo_draws (l : Lane) (x : LaneState) : (p.laneTo l x).draws = p.draws := by
  unfold Part.laneTo; simp

@[simp] theorem Part.lateEvidence_profile (l : Lane) : (p.lateEvidence l).profile = p.profile := by
  unfold Part.lateEvidence; split <;> simp
@[simp] theorem Part.lateEvidence_clock (l : Lane) : (p.lateEvidence l).clock = p.clock := by
  unfold Part.lateEvidence; split <;> simp
@[simp] theorem Part.lateEvidence_ppu (l : Lane) : (p.lateEvidence l).ppu = p.ppu := by
  unfold Part.lateEvidence; split <;> simp
@[simp] theorem Part.lateEvidence_wtu (l : Lane) : (p.lateEvidence l).wtu = p.wtu := by
  unfold Part.lateEvidence; split <;> simp
@[simp] theorem Part.lateEvidence_tku (l : Lane) : (p.lateEvidence l).tku = p.tku := by
  unfold Part.lateEvidence; split <;> simp
@[simp] theorem Part.lateEvidence_draws (l : Lane) : (p.lateEvidence l).draws = p.draws := by
  unfold Part.lateEvidence; split <;> simp

@[simp] theorem Part.laneHears_profile (l : Lane) : (p.laneHears l).profile = p.profile := by
  unfold Part.laneHears; dsimp only; split <;> simp
@[simp] theorem Part.laneHears_clock (l : Lane) : (p.laneHears l).clock = p.clock := by
  unfold Part.laneHears; dsimp only; split <;> simp
@[simp] theorem Part.laneHears_ppu (l : Lane) : (p.laneHears l).ppu = p.ppu := by
  unfold Part.laneHears; dsimp only; split <;> simp
@[simp] theorem Part.laneHears_wtu (l : Lane) : (p.laneHears l).wtu = p.wtu := by
  unfold Part.laneHears; dsimp only; split <;> simp
@[simp] theorem Part.laneHears_tku (l : Lane) : (p.laneHears l).tku = p.tku := by
  unfold Part.laneHears; dsimp only; split <;> simp
@[simp] theorem Part.laneHears_draws (l : Lane) : (p.laneHears l).draws = p.draws := by
  unfold Part.laneHears; dsimp only; split <;> simp

end Sys2Proof.Machine
end

