-- ==== Sys2Proof/Laws/Roles.lean ====
section
/-! SUPPORT. What each operation of the Role Controller does: reading a group, and what a station knows, after a change of role, a
claim, an evaluation, a fence. -/

namespace Sys2Proof.Machine

variable (p : Part)

/-! ### Reading a group -/

/-- Reading the group that has just been written. -/
@[simp] theorem Part.group_setGroup_same (g : Group) (r : GroupRec) : (p.setGroup g r).group g = r := by
  simp [Part.group_setGroup]

/-- A change of role enters the role in the group's record and leaves the other group's. -/
theorem Part.group_setRole (g h : Group) (new : Role) (cause : RoleCause) :
    (p.setRole g new cause).group h = if h = g then (p.group g).enter new else p.group h := by
  have : (p.setRole g new cause).group h = (p.setGroup g ((p.group g).enter new)).group h := by
    unfold Part.setRole Part.group
    rw [Part.roleNotice_rcu]
    rfl
  rw [this, Part.group_setGroup]

/-- The record of the group whose role has changed. -/
@[simp] theorem Part.group_setRole_same (g : Group) (new : Role) (cause : RoleCause) :
    (p.setRole g new cause).group g = (p.group g).enter new := by simp [Part.group_setRole]

/-- What a change of role leaves of the Role Controller's own state. -/
@[simp] theorem Part.setRole_fence (g : Group) (new : Role) (cause : RoleCause) :
    (p.setRole g new cause).rcu.fence = p.rcu.fence := by
  unfold Part.setRole; rw [Part.roleNotice_rcu]; rfl
@[simp] theorem Part.setRole_latch (g : Group) (new : Role) (cause : RoleCause) :
    (p.setRole g new cause).rcu.latch = p.rcu.latch := by
  unfold Part.setRole; rw [Part.roleNotice_rcu]; rfl
@[simp] theorem Part.setRole_silence (g : Group) (new : Role) (cause : RoleCause) :
    (p.setRole g new cause).rcu.silence = p.rcu.silence := by
  unfold Part.setRole; rw [Part.roleNotice_rcu]; rfl
@[simp] theorem Part.setRole_pulseSent (g : Group) (new : Role) (cause : RoleCause) :
    (p.setRole g new cause).rcu.pulseSent = p.rcu.pulseSent := by
  unfold Part.setRole; rw [Part.roleNotice_rcu]; rfl

/-- What queueing a CLAIM leaves of the groups. -/
@[simp] theorem Part.group_queueClaim (c : ClaimFrame) (h : Group) : (p.queueClaim c).group h = p.group h := rfl
@[simp] theorem Part.group_queueAnswer (a : AnswerFrame) (h : Group) : (p.queueAnswer a).group h = p.group h := rfl
@[simp] theorem Part.group_queueYield (g h : Group) : (p.queueYield g).group h = p.group h := rfl

/-- The record that a claim leaves: CLAIMING under the next claim number. -/
def GroupRec.claimed (r : GroupRec) (kind : ClaimKind) : GroupRec :=
  { r.enter .claiming with
    claim := some { kind := kind, number := r.claimNumber + 1, txTick := none, witnessVerdict := none, activeVerdict := none,
                    deadline := none, held := false }
    claimNumber := r.claimNumber + 1 }

/-- A claim changes its own group's record alone. -/
theorem Part.group_makeClaim (g h : Group) (kind : ClaimKind) :
    (p.makeClaim g kind).group h = if h = g then (p.group g).claimed kind else p.group h := by
  unfold Part.makeClaim
  simp only [Part.group_queueClaim, Part.group_setGroup, Part.group_setRole]
  by_cases hg : h = g <;> simp [hg, GroupRec.claimed]

/-- The vacancy timer changes its own group's record alone. -/
theorem Part.group_updateVacancy_ne {g h : Group} (hne : h ≠ g) : (p.updateVacancy g).group h = p.group h := by
  unfold Part.updateVacancy
  simp only
  split
  · split
    · simp [Part.group_setGroup, hne]
    · rfl
  · simp [Part.group_setGroup, hne]

/-- The record with its vacancy timer as its conditions ask (R120). -/
def GroupRec.withVacancy (r : GroupRec) (holds : Bool) (deadline : Tick) : GroupRec :=
  { r with vacancy :=
      if holds then (if r.vacancy = .stopped then .running deadline else r.vacancy) else .stopped }

/-- The vacancy timer starts, goes on or stops; nothing else of the group changes. -/
theorem Part.group_updateVacancy (g : Group) :
    (p.updateVacancy g).group g = (p.group g).withVacancy (p.vacancyHolds g) (p.after p.pulseInterval) := by
  unfold Part.updateVacancy GroupRec.withVacancy
  cases h1 : p.vacancyHolds g <;> cases h2 : (p.group g).vacancy <;> simp [h2] <;> rw [← h2]

/-- The evaluation in STANDBY leaves the other group. -/
theorem Part.group_evalStandby_ne {g h : Group} (hne : h ≠ g) : (p.evalStandby g).group h = p.group h := by
  unfold Part.evalStandby
  simp only
  split
  · rfl
  · split
    · simp [Part.group_makeClaim, hne, Part.group_updateVacancy_ne]
    · split
      · simp [Part.group_makeClaim, hne, Part.group_updateVacancy_ne]
      · simp [Part.group_updateVacancy_ne, hne]

/-- An entry to STANDBY leaves the other group. -/
theorem Part.group_enterStandby_ne {g h : Group} (hne : h ≠ g) (cause : RoleCause) :
    (p.enterStandby g cause).group h = p.group h := by
  unfold Part.enterStandby
  rw [Part.group_evalStandby_ne _ hne, Part.group_setRole]
  simp [hne]

/-- An evaluation leaves the other group. -/
theorem Part.group_evaluate_ne {g h : Group} (hne : h ≠ g) : (p.evaluate g).group h = p.group h := by
  unfold Part.evaluate
  split
  · split
    · exact Part.group_enterStandby_ne _ hne _
    · rfl
  · exact Part.group_evalStandby_ne _ hne
  · rfl

/-! ### What the evaluation of a group reads -/

/-- Two parts that agree on the configuration, the clock and the Peer Records. -/
structure Part.SameWorld (p q : Part) : Prop where
  profile : q.profile = p.profile
  clock : q.clock = p.clock
  ppu : q.ppu = p.ppu

namespace Part.SameWorld

variable {p} {q : Part} (h : p.SameWorld q)
include h

theorem self : q.self = p.self := by simp [Part.self, h.profile]
theorem otherMember : q.otherMember = p.otherMember := by simp [Part.otherMember, h.self]
theorem peer (y : Station) : q.peer y = p.peer y := by simp [Part.peer, h.ppu]
theorem peerLive (y : Station) : q.peerLive y = p.peerLive y := by simp [Part.peerLive, h.peer]
theorem otherLive : q.otherLive = p.otherLive := by simp [Part.otherLive, h.peerLive, h.otherMember]
theorem merit (g : Group) : q.merit g = p.merit g := by simp [Part.merit, h.ppu]
theorem witnessConfigured : q.witnessConfigured = p.witnessConfigured := by simp [Part.witnessConfigured, h.profile]
theorem witnessHearsNeither : q.witnessHearsNeither = p.witnessHearsNeither := by
  simp [Part.witnessHearsNeither, h.peer, h.otherMember]
theorem margin : q.margin = p.margin := by simp [Part.margin, h.profile]
theorem pulseInterval : q.pulseInterval = p.pulseInterval := by simp [Part.pulseInterval, h.profile]
theorem isMember : q.isMember = p.isMember := by simp [Part.isMember, h.profile, h.self]
theorem after (n : Nat) : q.after n = p.after n := by simp [Part.after, h.clock]
theorem standing {g : Group} (hg : (q.group g).peerClaiming = (p.group g).peerClaiming) : q.standing g = p.standing g := by
  simp [Part.standing, hg, h.peer, h.otherMember]
omit h in
theorem heldOff {g : Group} (hg : (q.group g).holdOff = (p.group g).holdOff) : q.heldOff g = p.heldOff g := by
  simp [Part.heldOff, hg]
theorem preemptConditions {g : Group} (hc : (q.group g).peerClaiming = (p.group g).peerClaiming)
    (ho : (q.group g).holdOff = (p.group g).holdOff) : q.preemptConditions g = p.preemptConditions g := by
  simp [Part.preemptConditions, h.otherLive, h.standing hc, h.profile, h.peer, h.otherMember, h.margin, h.merit,
    Part.SameWorld.heldOff ho]

end Part.SameWorld

theorem Part.sameWorld_updateVacancy (g : Group) : p.SameWorld (p.updateVacancy g) := ⟨by simp, by simp, by simp⟩
theorem Part.sameWorld_setRole (g : Group) (r : Role) (c : RoleCause) : p.SameWorld (p.setRole g r c) :=
  ⟨by simp, by simp, by simp⟩
theorem Part.sameWorld_setGroup (g : Group) (r : GroupRec) : p.SameWorld (p.setGroup g r) := ⟨rfl, rfl, rfl⟩
theorem Part.sameWorld_evaluate (g : Group) : p.SameWorld (p.evaluate g) := ⟨by simp, by simp, by simp⟩

/-- Two parts that agree on all that the evaluation of group `g` reads. -/
structure Part.SameView (p q : Part) (g : Group) : Prop extends p.SameWorld q where
  group : q.group g = p.group g

namespace Part.SameView

variable {p} {q : Part} {g : Group} (h : p.SameView q g)
include h

theorem role : q.role g = p.role g := by simp [Part.role, h.group]
theorem standing : q.standing g = p.standing g := h.toSameWorld.standing (by rw [h.group])
theorem standingIdle : q.standingIdle g = p.standingIdle g := by simp [Part.standingIdle, h.standing]
theorem serves : q.serves g = p.serves g := by simp [Part.serves, h.standing, h.otherLive]
theorem heldOff : q.heldOff g = p.heldOff g := by simp [Part.heldOff, h.group]
theorem vacancyHolds : q.vacancyHolds g = p.vacancyHolds g := by
  simp [Part.vacancyHolds, h.role, h.otherLive, h.standingIdle]
theorem vacancyRunOut : q.vacancyRunOut g = p.vacancyRunOut g := by simp [Part.vacancyRunOut, h.group]
theorem preemptConditions : q.preemptConditions g = p.preemptConditions g :=
  h.toSameWorld.preemptConditions (by rw [h.group]) (by rw [h.group])

end Part.SameView

/-- The claim that a STANDBY group makes at its evaluation, if it makes one (R120, R121): the vacancy timer counts as run out only
while its conditions hold. -/
def Part.standbyClaim (g : Group) : Option ClaimKind :=
  let run := p.vacancyHolds g && p.vacancyRunOut g
  if (!p.otherLive || (p.group g).rebirthMark || run) && (decide (0 < p.merit g) && !p.heldOff g
      && (!p.witnessConfigured
        || (p.peerLive .s2 && (p.witnessHearsNeither || (p.otherLive && p.standingIdle g && run))))) then some .vacant
  else if p.preemptConditions g then some .preempt else none

/-- Parts with the same view make the same claim. -/
theorem Part.SameView.standbyClaim {p q : Part} {g : Group} (h : p.SameView q g) : q.standbyClaim g = p.standbyClaim g := by
  simp [Part.standbyClaim, h.vacancyHolds, h.vacancyRunOut, h.otherLive, h.group, h.merit, h.heldOff, h.witnessConfigured,
    h.peerLive, h.witnessHearsNeither, h.standingIdle, h.preemptConditions]

/-- A STANDBY group's record after its evaluation, given the vacancy timer's next state and the claim it makes. -/
def GroupRec.standbyNext (r : GroupRec) (holds : Bool) (deadline : Tick) : Option ClaimKind → GroupRec
  | some kind => r.claimed kind
  | none => r.withVacancy holds deadline

theorem GroupRec.claimed_withVacancy (r : GroupRec) (holds : Bool) (deadline : Tick) (kind : ClaimKind) :
    (r.withVacancy holds deadline).claimed kind = r.claimed kind := rfl

/-- The evaluation in STANDBY: the vacancy timer, then the claim that the conditions ask for (R120). -/
theorem Part.group_evalStandby (g : Group) (hr : p.role g = .standby) :
    (p.evalStandby g).group g
      = (p.group g).standbyNext (p.vacancyHolds g) (p.after p.pulseInterval) (p.standbyClaim g) := by
  have hv := Part.group_updateVacancy p g
  have w := Part.sameWorld_updateVacancy p g
  have hrb : ((p.updateVacancy g).group g).rebirthMark = (p.group g).rebirthMark := by rw [hv]; rfl
  have hpc : ((p.updateVacancy g).group g).peerClaiming = (p.group g).peerClaiming := by rw [hv]; rfl
  have hho : ((p.updateVacancy g).group g).holdOff = (p.group g).holdOff := by rw [hv]; rfl
  have hst := w.standing hpc
  have hro : (p.updateVacancy g).vacancyRunOut g = (p.vacancyHolds g && p.vacancyRunOut g) := by
    simp only [Part.vacancyRunOut, hv, GroupRec.withVacancy]
    cases p.vacancyHolds g <;> cases hx : (p.group g).vacancy <;> simp
  have hvac : (p.updateVacancy g).vacantConditions g = (decide (0 < p.merit g) && !p.heldOff g
      && (!p.witnessConfigured
        || (p.peerLive .s2
            && (p.witnessHearsNeither
              || (p.otherLive && p.standingIdle g && (p.vacancyHolds g && p.vacancyRunOut g)))))) := by
    simp only [Part.vacantConditions, hro, w.peerLive, w.otherLive, Part.standingIdle, hst, w.merit, Part.SameWorld.heldOff hho,
      w.witnessConfigured, w.witnessHearsNeither]
  have hgv : (p.updateVacancy g).groupVacant g
      = (!p.otherLive || (p.group g).rebirthMark || (p.vacancyHolds g && p.vacancyRunOut g)) := by
    simp [Part.groupVacant, w.otherLive, hrb, hro]
  have hpre := w.preemptConditions hpc hho
  unfold Part.evalStandby Part.standbyClaim
  simp only [hr, ne_eq, not_true_eq_false, if_false, hvac, hgv, hpre]
  split
  · rename_i h
    rw [Part.group_makeClaim]
    simp [hv, GroupRec.standbyNext, GroupRec.claimed_withVacancy]
  · split
    · rw [Part.group_makeClaim]
      simp [hv, GroupRec.standbyNext, GroupRec.claimed_withVacancy]
    · simp [hv, GroupRec.standbyNext]

/-- The claim that a group makes as it enters STANDBY, where its rebirth mark is clear and its vacancy timer has not run out. -/
def Part.freshClaim (g : Group) : Option ClaimKind :=
  if !p.otherLive && (decide (0 < p.merit g) && !p.heldOff g
      && (!p.witnessConfigured || (p.peerLive .s2 && p.witnessHearsNeither))) then some .vacant
  else if p.preemptConditions g then some .preempt else none

/-- What a fresh claim depends on. -/
theorem Part.SameWorld.freshClaim {p q : Part} (h : p.SameWorld q) {g : Group}
    (hc : (q.group g).peerClaiming = (p.group g).peerClaiming) (ho : (q.group g).holdOff = (p.group g).holdOff) :
    q.freshClaim g = p.freshClaim g := by
  simp [Part.freshClaim, h.otherLive, h.merit, Part.SameWorld.heldOff ho, h.witnessConfigured, h.peerLive,
    h.witnessHearsNeither, h.preemptConditions hc ho]

/-- With the rebirth mark clear and the vacancy timer not run out, a STANDBY group makes its fresh claim. -/
theorem Part.standbyClaim_fresh {g : Group} (h1 : (p.group g).rebirthMark = false) (h2 : (p.group g).vacancy ≠ .runOut) :
    p.standbyClaim g = p.freshClaim g := by
  have : p.vacancyRunOut g = false := by simp [Part.vacancyRunOut, h2]
  simp [Part.standbyClaim, Part.freshClaim, this, h1]

/-- The other member is LIVE with an idle standing: the vacancy timer's conditions beside STANDBY (R120). -/
def Part.idleMember (g : Group) : Bool := p.otherLive && p.standingIdle g

/-- A group that enters STANDBY: its record, and the claim it makes at once. -/
theorem Part.group_enterStandby (g : Group) (cause : RoleCause) :
    (p.enterStandby g cause).group g
      = ((p.group g).enter .standby).standbyNext (p.idleMember g) (p.after p.pulseInterval) (p.freshClaim g) := by
  have w := Part.sameWorld_setRole p g .standby cause
  have hr : (p.setRole g .standby cause).role g = .standby := by simp [Part.role, GroupRec.enter]
  have hc : ((p.setRole g .standby cause).group g).peerClaiming = (p.group g).peerClaiming := by simp [GroupRec.enter]
  have ho : ((p.setRole g .standby cause).group g).holdOff = (p.group g).holdOff := by simp [GroupRec.enter]
  unfold Part.enterStandby
  rw [Part.group_evalStandby _ _ hr, Part.standbyClaim_fresh _ (by simp [GroupRec.enter]) (by simp [GroupRec.enter]),
    w.freshClaim hc ho, Part.group_setRole_same, w.after, w.pulseInterval]
  simp [Part.vacancyHolds, hr, w.otherLive, Part.idleMember, Part.standingIdle, w.standing hc]

/-- LISTEN ends at an evaluation (R119). -/
def Part.listenMeets (g : Group) : Bool := p.serves g || (p.otherLive && decide (p.standing g = some .claiming))

/-- The record of a group after its evaluation (R119, R120). -/
theorem Part.group_evaluate (g : Group) :
    (p.evaluate g).group g =
      match p.role g with
      | .listen =>
        if p.listenMeets g then
          ((p.group g).enter .standby).standbyNext (p.idleMember g) (p.after p.pulseInterval) (p.freshClaim g)
        else p.group g
      | .standby => (p.group g).standbyNext (p.vacancyHolds g) (p.after p.pulseInterval) (p.standbyClaim g)
      | _ => p.group g := by
  cases h : p.role g
  case listen =>
    by_cases h1 : p.listenMeets g = true
    · rw [show p.evaluate g = p.enterStandby g .peerServing by
        simp only [Part.evaluate, h]; exact if_pos h1, Part.group_enterStandby, if_pos h1]
    · rw [show p.evaluate g = p by simp only [Part.evaluate, h]; exact if_neg h1, if_neg h1]
  case standby =>
    rw [show p.evaluate g = p.evalStandby g by simp only [Part.evaluate, h], Part.group_evalStandby _ _ h]
  all_goals simp only [Part.evaluate, h]

/-- What an evaluation makes of its group depends on the view alone. -/
theorem Part.SameView.group_evaluate {p q : Part} {g : Group} (h : p.SameView q g) :
    (q.evaluate g).group g = (p.evaluate g).group g := by
  rw [Part.group_evaluate, Part.group_evaluate, h.role, h.group, h.standbyClaim, h.vacancyHolds, h.after, h.pulseInterval,
    h.toSameWorld.freshClaim (by rw [h.group]) (by rw [h.group])]
  simp [Part.listenMeets, h.serves, h.otherLive, h.standing, Part.idleMember, h.standingIdle]

/-- Every group is evaluated on its own. -/
theorem Part.group_evaluateAll (g : Group) : p.evaluateAll.group g = (p.evaluate g).group g := by
  unfold Part.evaluateAll
  cases g with
  | g0 => exact Part.group_evaluate_ne _ (by decide)
  | g1 =>
    exact Part.SameView.group_evaluate
      { toSameWorld := Part.sameWorld_evaluate p .g0, group := Part.group_evaluate_ne _ (by decide) }

theorem Part.sameWorld_evaluateAll : p.SameWorld p.evaluateAll := ⟨by simp, by simp, by simp⟩

/-- The record of a group after every group's evaluation. -/
theorem Part.group_evaluateAll_eq (g : Group) :
    p.evaluateAll.group g =
      match p.role g with
      | .listen =>
        if p.listenMeets g then
          ((p.group g).enter .standby).standbyNext (p.idleMember g) (p.after p.pulseInterval) (p.freshClaim g)
        else p.group g
      | .standby => (p.group g).standbyNext (p.vacancyHolds g) (p.after p.pulseInterval) (p.standbyClaim g)
      | _ => p.group g := by rw [Part.group_evaluateAll, Part.group_evaluate]

/-- A group that has just entered STANDBY, evaluated once more, keeps its role. -/
theorem Part.role_evaluateAll_enterStandby (g : Group) (cause : RoleCause) :
    (p.enterStandby g cause).evaluateAll.role g = if (p.freshClaim g).isSome then .claiming else .standby := by
  have hg := Part.group_enterStandby p g cause
  have w : p.SameWorld (p.enterStandby g cause) := ⟨by simp, by simp, by simp⟩
  unfold Part.role
  rw [Part.group_evaluateAll_eq]
  cases hf : p.freshClaim g with
  | some k =>
    rw [hf] at hg
    have hr : (p.enterStandby g cause).role g = .claiming := by
      simp [Part.role, hg, GroupRec.standbyNext, GroupRec.claimed, GroupRec.enter]
    simp [hr, hg, GroupRec.standbyNext, GroupRec.claimed, GroupRec.enter]
  | none =>
    rw [hf] at hg
    have hr : (p.enterStandby g cause).role g = .standby := by
      simp [Part.role, hg, GroupRec.standbyNext, GroupRec.withVacancy, GroupRec.enter]
    have hs : (p.enterStandby g cause).standbyClaim g = none := by
      rw [Part.standbyClaim_fresh, w.freshClaim, hf]
      · simp [hg, GroupRec.standbyNext, GroupRec.withVacancy, GroupRec.enter]
      · simp [hg, GroupRec.standbyNext, GroupRec.withVacancy, GroupRec.enter]
      · simp [hg, GroupRec.standbyNext, GroupRec.withVacancy, GroupRec.enter]
      · simp only [hg, GroupRec.standbyNext, GroupRec.withVacancy, GroupRec.enter]; split <;> simp
    simp [hr, hs, hg, GroupRec.standbyNext, GroupRec.withVacancy, GroupRec.enter]

/-! ### Leaving and entering ACTIVE, and fences -/

@[simp] theorem Part.group_setForget (g h : Group) (c : Option Nat) : (p.setForget g c).group h = p.group h := rfl
@[simp] theorem Part.group_stopTakeover (g h : Group) : (p.stopTakeover g).group h = p.group h := rfl
@[simp] theorem Part.group_setWalk (g h : Group) (w : Option TakeoverWalk) : (p.setWalk g w).group h = p.group h := rfl
@[simp] theorem Part.group_setFence (f : FenceCauses) (h : Group) : (p.setFence f).group h = p.group h := rfl
@[simp] theorem Part.group_serveFreed (before : Part) (h : Group) : (p.serveFreed before).group h = p.group h := by
  simp [Part.group]
@[simp] theorem Part.group_serveWaiting (h : Group) : p.serveWaiting.group h = p.group h := by simp [Part.group]

/-- Leaving ACTIVE enters the role left for, and leaves the other group. -/
theorem Part.group_exitActive (g h : Group) (new : Role) (cause : RoleCause) :
    (p.exitActive g new cause).group h = if h = g then (p.group g).enter new else p.group h := by
  simp [Part.exitActive, Part.group_setRole]

/-- Leaving ACTIVE starts the forget walk and stops the takeover walk (R130). -/
theorem Part.smt_exitActive (g : Group) (new : Role) (cause : RoleCause) :
    (p.exitActive g new cause).smt
      = { p.smt with forget := p.smt.forget.set g (some 0), takeover := p.smt.takeover.set g none } := by
  simp [Part.exitActive, Part.stopTakeover, Part.setForget, Part.setWalk]

/-- Fencing a group (R140). -/
theorem Part.group_fenceGroup (g h : Group) :
    (p.fenceGroup g).group h
      = if h = g ∧ p.role g ≠ .dormant ∧ p.role g ≠ .fenced then (p.group g).enter .fenced else p.group h := by
  unfold Part.fenceGroup
  split
  · simp_all
  · simp_all
  · rw [Part.group_exitActive]; simp_all
  · rw [Part.group_setRole]; simp_all

/-- Fencing every group. -/
theorem Part.group_fenceAll (g : Group) :
    p.fenceAll.group g = if p.role g ≠ .dormant ∧ p.role g ≠ .fenced then (p.group g).enter .fenced else p.group g := by
  unfold Part.fenceAll
  rw [Part.group_serveFreed]
  by_cases h : p.role g ≠ .dormant ∧ p.role g ≠ .fenced
  · rw [if_pos h]; unfold Part.role at h; cases g <;> simp [Part.group_fenceGroup, Part.role, h]
  · rw [if_neg h]; unfold Part.role at h
    cases g <;> simp only [Part.group_fenceGroup, Part.role] <;> simp_all

/-- The walks that a retry leaves: the forget walks stand, and a takeover walk that has stopped stays so. -/
@[simp] theorem Part.forget_takeoverVisit (g : Group) : (p.takeoverVisit g).smt.forget = p.smt.forget := by
  unfold Part.takeoverVisit
  split
  · rfl
  · split
    · rfl
    · split
      · unfold Part.visitEntry
        simp only
        split
        · rfl
        · split
          · simp only [Part.walkPast, Part.walkTo, Part.setWalk, Part.disposeExpired]
            split
            · rfl
            · unfold Part.closeEntry; split <;> (try split) <;> rfl
          · split
            · rfl
            · simp only [Part.walkPast, Part.walkTo, Part.setWalk, Part.writeRecord_smt]
              unfold Part.adopt; split <;> rfl
      · split <;> rfl

@[simp] theorem Part.forget_takeoverEnd (g : Group) : (p.takeoverEnd g).smt.forget = p.smt.forget := by
  unfold Part.takeoverEnd
  split
  · rfl
  · split
    · rfl
    · split <;> rfl

@[simp] theorem Part.forget_walkTo (g : Group) (c : Nat) : (p.walkTo g c).smt.forget = p.smt.forget := rfl

@[simp] theorem Part.forget_retryWalk (g : Group) : (p.retryWalk g).smt.forget = p.smt.forget := by
  unfold Part.retryWalk; (repeat' split) <;> simp

@[simp] theorem Part.forget_serveWaiting : p.serveWaiting.smt.forget = p.smt.forget := by
  unfold Part.serveWaiting
  split
  · split <;> simp [Part.drawn]
  · simp

@[simp] theorem Part.forget_serveFreed (before : Part) : (p.serveFreed before).smt.forget = p.smt.forget := by
  unfold Part.serveFreed; split <;> simp

theorem Part.takeover_visit_ne {g h : Group} (hne : h ≠ g) :
    (p.takeoverVisit g).smt.takeover.get h = p.smt.takeover.get h := by
  have hput : ∀ (q : Part) (slot : Slot) (e : Option Entry), (q.putEntry slot e).smt.takeover = q.smt.takeover :=
    fun _ _ _ => rfl
  have hset : ∀ (x : PerGroup (Option TakeoverWalk)) (w : Option TakeoverWalk), (x.set g w).get h = x.get h := by
    intro x w; rw [PerGroup.get_set]; simp [hne]
  unfold Part.takeoverVisit
  split
  · rfl
  · split
    · rfl
    · split
      · unfold Part.visitEntry
        simp only
        split
        · simp [Part.walkWaits, Part.setWalk, hset]
        · split
          · simp only [Part.walkPast, Part.walkTo, Part.setWalk, hset, Part.disposeExpired]
            split
            · rfl
            · unfold Part.closeEntry; split <;> (try split) <;> rfl
          · split
            · simp [Part.walkWaits, Part.setWalk, hset]
            · simp only [Part.walkPast, Part.walkTo, Part.setWalk, hset, Part.writeRecord_smt]
              unfold Part.adopt; split <;> rfl
      · split
        · rfl
        · simp [Part.walkPast, Part.walkTo, Part.setWalk, hset]

theorem Part.takeover_end_ne {g h : Group} (hne : h ≠ g) : (p.takeoverEnd g).smt.takeover.get h = p.smt.takeover.get h := by
  have hset : ∀ (x : PerGroup (Option TakeoverWalk)) (w : Option TakeoverWalk), (x.set g w).get h = x.get h := by
    intro x w; rw [PerGroup.get_set]; simp [hne]
  unfold Part.takeoverEnd
  split
  · rfl
  · split
    · rfl
    · split
      · simp [Part.walkWaits, Part.setWalk, hset]
      · simp [Part.setWalk, hset, Part.post]

/-- A group whose takeover walk has stopped sees none from a retry. -/
theorem Part.takeover_retryWalk_none {h : Group} (g : Group) (hn : p.smt.takeover.get h = none) :
    (p.retryWalk g).smt.takeover.get h = none := by
  unfold Part.retryWalk
  by_cases hg : h = g
  · subst hg; simp [hn]
  · have ht : ∀ c : Nat, (p.walkTo g c).smt.takeover.get h = none := by
      intro c; simp only [Part.walkTo, Part.setWalk, PerGroup.get_set]; simp [hg, hn]
    split
    · split
      · exact hn
      · split
        · rw [Part.takeover_visit_ne _ hg, ht]
        · rw [Part.takeover_end_ne _ hg, ht]
    · exact hn

theorem Part.takeover_serveFreed_none {h : Group} (before : Part) (hn : p.smt.takeover.get h = none) :
    (p.serveFreed before).smt.takeover.get h = none := by
  unfold Part.serveFreed
  split
  · unfold Part.serveWaiting
    have hd : p.drawn.smt.takeover.get h = none := hn
    split
    · split
      · exact Part.takeover_retryWalk_none _ _ (Part.takeover_retryWalk_none _ _ hd)
      · exact Part.takeover_retryWalk_none _ _ (Part.takeover_retryWalk_none _ _ hd)
    · exact Part.takeover_retryWalk_none _ _ (Part.takeover_retryWalk_none _ _ hn)
  · exact hn

/-- Every group that was ACTIVE has its forget walk started and its takeover walk stopped by the first fence cause. -/
theorem Part.walks_fenceAll {g : Group} (hr : p.role g = .active) :
    p.fenceAll.smt.forget.get g = some 0 ∧ p.fenceAll.smt.takeover.get g = none := by
  have hf : ∀ (q : Part) (h : Group), q.role h = .active → (q.fenceGroup h).smt
      = { q.smt with forget := q.smt.forget.set h (some 0), takeover := q.smt.takeover.set h none } := by
    intro q h hh; unfold Part.fenceGroup; rw [hh]; exact Part.smt_exitActive _ _ _ _
  have hk : ∀ (q : Part) (h : Group), h ≠ g →
      (q.fenceGroup h).smt.forget.get g = q.smt.forget.get g ∧ (q.fenceGroup h).smt.takeover.get g = q.smt.takeover.get g := by
    intro q h hh
    have hh' : g ≠ h := fun e => hh e.symm
    unfold Part.fenceGroup
    split
    · exact ⟨rfl, rfl⟩
    · exact ⟨rfl, rfl⟩
    · rw [Part.smt_exitActive]; simp [PerGroup.get_set, hh']
    · simp
  have key : ((p.fenceGroup .g0).fenceGroup .g1).smt.forget.get g = some 0
      ∧ ((p.fenceGroup .g0).fenceGroup .g1).smt.takeover.get g = none := by
    cases g with
    | g0 =>
      have h1 := hk (p.fenceGroup .g0) .g1 (by decide)
      rw [h1.1, h1.2, hf _ _ hr]; simp
    | g1 =>
      have hr' : (p.fenceGroup .g0).role .g1 = .active := by
        unfold Part.role at *; rw [Part.group_fenceGroup]; simpa using hr
      rw [hf _ _ hr']; simp
  unfold Part.fenceAll
  exact ⟨by rw [Part.forget_serveFreed]; exact key.1, Part.takeover_serveFreed_none _ _ key.2⟩

/-- What fencing leaves of the Role Controller's own state. -/
@[simp] theorem Part.fence_fenceAll : p.fenceAll.rcu.fence = p.rcu.fence := by
  have h : ∀ (q : Part) (g : Group), (q.fenceGroup g).rcu.fence = q.rcu.fence := by
    intro q g; unfold Part.fenceGroup; split <;> simp [Part.exitActive]
  unfold Part.fenceAll; simp [h]
@[simp] theorem Part.latch_fenceAll : p.fenceAll.rcu.latch = p.rcu.latch := by
  have h : ∀ (q : Part) (g : Group), (q.fenceGroup g).rcu.latch = q.rcu.latch := by
    intro q g; unfold Part.fenceGroup; split <;> simp [Part.exitActive]
  unfold Part.fenceAll; simp [h]
@[simp] theorem Part.silence_fenceAll : p.fenceAll.rcu.silence = p.rcu.silence := by
  have h : ∀ (q : Part) (g : Group), (q.fenceGroup g).rcu.silence = q.rcu.silence := by
    intro q g; unfold Part.fenceGroup; split <;> simp [Part.exitActive]
  unfold Part.fenceAll; simp [h]

/-- A further fence cause moves no role; the first one fences every group. -/
theorem Part.applyFence_of_any (f : FenceCauses) (h : p.rcu.fence.any = true) : p.applyFence f = p.setFence f := by
  simp [Part.applyFence, h]
theorem Part.applyFence_first (f : FenceCauses) (h : p.rcu.fence.any = false) :
    p.applyFence f = (p.setFence f).fenceAll := by simp [Part.applyFence, h]
@[simp] theorem Part.fence_applyFence (f : FenceCauses) : (p.applyFence f).rcu.fence = f := by
  unfold Part.applyFence; split <;> simp [Part.setFence]
@[simp] theorem Part.latch_applyFence (f : FenceCauses) : (p.applyFence f).rcu.latch = p.rcu.latch := by
  unfold Part.applyFence; split <;> simp [Part.setFence]
@[simp] theorem Part.silence_applyFence (f : FenceCauses) : (p.applyFence f).rcu.silence = p.rcu.silence := by
  unfold Part.applyFence; split <;> simp [Part.setFence]

/-- Where no quorum is lost the test changes nothing. -/
theorem Part.testQuorum_of_not (h : p.quorumLost = false) : p.testQuorum = p := by simp [Part.testQuorum, h]

end Sys2Proof.Machine
end

