-- ==== Sys2Proof/WellFormed.lean ====
section
/-! DEFINITION. When a command is one that the outside can give: a check on its operands alone.

The machine is total on every command, well-formed or not: these checks say which commands stand for an event of the bus or of
the Event Port at all. -/

namespace Sys2Proof

/-- A reception that is long enough to be a frame: 96 bit times or more (R89). -/
def Reception.isFrame (r : Reception) : Bool := decide (96 ≤ r.bitTimes)

/-- A reception that carries the frame-kind code `code` in its first byte and ends on a whole byte (R183). -/
def Reception.ofKind (r : Reception) (code : Nat) : Bool :=
  r.isFrame && decide (r.oddBits = 0) && decide ((r.bytes.headD 0).toNat = code)

/-- The check on a command's operands. A frame command's reception has its kind's code (R182) and the size of a frame (R89), a
bad frame is at least 96 bit times long, a fragment is shorter, a line fault is an open or a short (R81), and an arrival carries
a word (R171). -/
def Instr.wellFormed : Instr → Bool
  | .alignFrame _ rx => rx.ofKind 1
  | .pulseFrame _ rx => rx.ofKind 2
  | .deltaFrame _ rx => rx.ofKind 3
  | .dropFrame _ rx => rx.ofKind 4
  | .receiptFrame _ rx => rx.ofKind 5
  | .claimFrame _ rx => rx.ofKind 6
  | .answerFrame _ rx => rx.ofKind 7
  | .yieldFrame _ rx => rx.ofKind 8
  | .badFrame _ rx => rx.isFrame
  | .fragment _ rx => !rx.isFrame
  | .lineFault _ report => decide (report ≠ .noFault)
  | .ingressRecordArrival words => !words.isEmpty
  | .reset | .resetEnd | .clearWalkVisit | .clearWalkEnd => true
  | .profileRecord | .openRecord | .updateRecord | .closeRecord | .aliveRecord | .releaseRecord => true
  | .handoverRecord | .statusRecord | .malformedRecord => true
  | .egressRecordTaken | .revokedRecord | .batchRecord => true
  | .transmitterTake | .frameStart | .collision | .backoffEnd | .frameComplete => true
  | .receiptTimerExpiry | .pauseTimerExpiry | .receiptDelay | .livenessTimerExpiry _ | .pulseEpoch => true
  | .engineSilenceTimerExpiry | .listenTimerExpiry _ | .vacancyTimerExpiry _ | .deadTimeExpiry _ => true
  | .holdOffExpiry _ | .handoverTimerExpiry _ | .healthWindowEnd _ | .quietExpiry _ => true
  | .retrainTimerExpiry _ _ | .lineFaultClear _ | .alignDue _ | .grantLapse _ => true
  | .refreshWalkVisit | .refreshWalkEnd | .takeoverWalkVisit _ | .takeoverWalkEnd _ => true
  | .forgetWalkVisit _ | .forgetWalkEnd _ => true

end Sys2Proof
end

