-- ==== Sys2Proof/Tests/Slice0.lean ====
section
/-! SUPPORT. Tests: small states of a member and of the witness at the site of 12_worked_sequences.md, the checks of WellFormed on
ill-formed terms, figures that the manual works out, small steps, and for each statement with premises a state that meets them. -/

open Sys2Proof Sys2Proof.Machine

namespace Sys2Proof.Tests

set_option Elab.async false

/-! ### States to test on -/

/-- The state after a command that answers one. -/
def after (i : Instr) (s : State) : State :=
  match exec i s with
  | .next t => t
  | _ => s

/-- The configuration of the site (12_worked_sequences.md), with no witness configured. -/
def site (station : Station) (incarnation : BitVec 16) : Profile :=
  { station := station, incarnation := incarnation, witnessConfigured := false, base := ⟨200, 100⟩, preempt := ⟨true, false⟩,
    margin := 20, pulseInterval := 100, missLimit := 5, deadTime := 20, handoverTimeout := 1000, silenceLimit := 300,
    transit := 5, grace := 10, laneEnabled := .both true }

/-- A lane that is UP and took a frame lately. -/
def laneUp : LaneRec := { LaneRec.reset with state := .up, windowEnd := some 5500, lastValid := some 4990 }

/-- A Peer Record heard lately. -/
def heardPeer (incarnation : BitVec 16) (r0 r1 : Option Role) (m0 m1 : Option (BitVec 8)) : PeerRec :=
  { state := .live, incarnation := some incarnation, lastHeard := some 4990, heardOn := .both (some 4990), roles := ⟨r0, r1⟩,
    merits := ⟨m0, m1⟩, heardLanes := some 0, witnessConfigured := some false }

/-- A part just cleared, before its PROFILE. -/
def fresh : State := { State.reset with smt.clearWalk := none }

/-- A group in a role. -/
def inRole (r : Role) : GroupRec := { GroupRec.reset with role := r, fp := decide (r = .active) }

/-- Member 0 at tick 5,000: ACTIVE for group 0, STANDBY for group 1, which member 1 serves; the witness is LIVE. -/
def member : State :=
  { fresh with
    profile := some (site .s0 41)
    clock := 5000
    mbi.lanes := .both laneUp
    mbi.workingLane := some .a
    mbi.lfsr := 0x1140
    ppu := { epoch := some 5100, pendingHealth := 100, currentHealth := 100, merits := ⟨200, 100⟩,
             peers := { s0 := .reset, s1 := heardPeer 7 (some .standby) (some .active) (some 100) (some 200),
                        s2 := heardPeer 3 none none none none } }
    rcu := { groups := ⟨inRole .active, inRole .standby⟩, fence := .none, latch := false, silence := some 5300,
             pulseSent := true } }

/-- The witness at tick 5,000, which hears both members. -/
def witness : State :=
  { fresh with
    profile := some (site .s2 3)
    clock := 5000
    mbi.lanes := .both laneUp
    mbi.workingLane := some .a
    ppu := { epoch := some 5050, pendingHealth := 0, currentHealth := 0, merits := .both 0,
             peers := { s0 := heardPeer 41 (some .standby) (some .standby) (some 200) (some 100),
                        s1 := heardPeer 7 (some .standby) (some .standby) (some 100) (some 200), s2 := .reset } } }

/-- `member` with group 0's record replaced. -/
def group0 (r : GroupRec) : State := { member with rcu.groups.g0 := r }

/-- The key of a TCP session. -/
def key : Key :=
  { addrs := .v4 0x0a000001 0x0a000002, protocol := 6, ports := some { src := 1234, dst := 80 }, zone := 3 }

/-- The TCP part of slot 2,500 in Sequence 3. -/
def tcp : TcpPart :=
  { tracking := .established
    fwd := { seqHi := 2000000000, ackHi := 77, window := 1048576, rate := 500 }
    rev := { seqHi := 3000, ackHi := 88, window := 65535, rate := 2 } }

/-- An entry of group 0 whose idle time is 250 ms at tick 5,000 (Sequence 3). -/
def entry (state : EntryState) : Entry :=
  { state := state, group := .g0, key := key, nat := none, tcp := some tcp, lifetime := 7200, refTick := 4780,
    ageOffset := 30, version := 1, peerMayHold := true, attempts := 0, installed := false, noted := false }

/-- `member` with `e` in slot 2,500. -/
def holding (e : Entry) : State :=
  { member with
    smt.table := [(2500, e)]
    rpu.sendList := if e.state.awaitsSend then [2500] else []
    rpu.inFlight :=
      if e.state.inFlight then [{ slot := 2500, version := 1, completion := some 4900, transmitting := false }] else [] }

/-- A whole reception. -/
def rx (kind : FrameKind) (sender : Station) (incarnation : BitVec 16) (number : Byte) (payload : List Byte) : Reception :=
  { bytes := encodeFrame kind sender incarnation number payload, oddBits := 0, duringOwn := false }

/-- A frame of member 1. -/
def from1 (kind : FrameKind) (number : Byte) (payload : List Byte) : Reception := rx kind .s1 7 number payload

/-- `s` with one complete record in hand. -/
def inHand (s : State) (ws : List Word32) : State := { s with evp.ingress := [ws] }

/-- `s` after a record has arrived and been taken. -/
def give (i : Instr) (s : State) (ws : List Word32) : State := after i (after (.ingressRecordArrival ws) s)

/-- A PROFILE record: member 0 of the site. -/
def profileWords (station : Byte) (flags : Byte) : List Word32 :=
  [packWord 1 5 station flags, 0x0029C864, 0x14050064, 0x1403012C, 0x050A0000]

/-- An OPEN of slot `slot`, IPv4 TCP, of group 0. -/
def openWords (slot : Slot) (lifetime : BitVec 16) : List Word32 :=
  [(0x020D#16) ++ slot, 0x30060302, lifetime ++ (0#16), 0x0a000001, 0x0a000002, 0x04d20050,
   2000000000, 77, 1048576, 0x01F40000, 0x0BB80000, 0x00580000, 0xFFFF0002]

/-- A record of one word. -/
def oneWord (kind : Byte) (parameter : BitVec 16) : List Word32 := [kind ++ (1#8) ++ parameter]

/-! ### WellFormed refuses ill-formed terms -/

/-- A frame command whose reception has another kind's code (R182). -/
theorem test_wf_code :
    (Instr.alignFrame .a (from1 .yield 0 [0])).wellFormed = false
    ∧ (Instr.pulseFrame .a (from1 .align 0 alignPattern)).wellFormed = false
    ∧ (Instr.deltaFrame .a (from1 .drop 0 [0, 1, 0, 1])).wellFormed = false
    ∧ (Instr.dropFrame .a (from1 .receipt 0 [0, 1, 0, 1])).wellFormed = false
    ∧ (Instr.receiptFrame .a (from1 .drop 0 [0, 1, 0, 1])).wellFormed = false
    ∧ (Instr.claimFrame .a (from1 .answer 0 [0, 1, 0, 1])).wellFormed = false
    ∧ (Instr.answerFrame .a (from1 .claim 0 [0, 1, 0])).wellFormed = false
    ∧ (Instr.yieldFrame .a (from1 .align 0 alignPattern)).wellFormed = false := by decide +kernel

/-- A frame command with fewer than 96 bit times (R89), and one with bits after its last whole byte. -/
theorem test_wf_size :
    (Instr.claimFrame .b { bytes := List.replicate 11 6, oddBits := 7, duringOwn := false }).wellFormed = false
    ∧ (Instr.claimFrame .b { bytes := List.replicate 12 6, oddBits := 1, duringOwn := false }).wellFormed = false
    ∧ (Instr.claimFrame .b { bytes := List.replicate 12 6, oddBits := 0, duringOwn := false }).wellFormed = true := by
  decide +kernel

/-- A bad frame that is short, and a fragment that is not (R89). -/
theorem test_wf_fragment :
    (Instr.badFrame .a { bytes := List.replicate 11 0, oddBits := 7, duringOwn := false }).wellFormed = false
    ∧ (Instr.fragment .a { bytes := List.replicate 12 0, oddBits := 0, duringOwn := false }).wellFormed = false
    ∧ (Instr.fragment .a { bytes := List.replicate 11 0, oddBits := 7, duringOwn := false }).wellFormed = true := by
  decide +kernel

/-- A line fault that reports none (R81), and an arrival of no word (R171). -/
theorem test_wf_others :
    (Instr.lineFault .a .noFault).wellFormed = false ∧ (Instr.lineFault .a .openCircuit).wellFormed = true
    ∧ (Instr.ingressRecordArrival []).wellFormed = false ∧ (Instr.ingressRecordArrival [0]).wellFormed = true := by
  decide +kernel

/-! ### Figures that the manual works out -/

/-- The check of "123456789" (R88). -/
theorem test_check : frameCheck [0x31, 0x32, 0x33, 0x34, 0x35, 0x36, 0x37, 0x38, 0x39] = 0xFC891918 := by decide +kernel

/-- No row of the table has bits, so no word spells a command. -/
theorem test_no_row_has_bits : decodeTableWord 16 0 = none ∧ State.reset.withFetchWord 16 0 = State.reset := ⟨rfl, rfl⟩

/-- The windows of slot 2,500 (12_worked_sequences.md, Sequence 3). -/
theorem test_windows :
    ((holding (entry .shadow)).installRecord 2500 (entry .shadow)).tcp.map (fun t => (t.fwd.low, t.fwd.high))
        = some (1999934465, 2000131070)
    ∧ ((holding (entry .shadow)).installRecord 2500 (entry .shadow)).tcp.map (fun t => (t.rev.low, t.rev.high))
        = some (4293921720, 1052086)
    ∧ ((holding (entry .shadow)).installRecord 2500 (entry .shadow)).remaining = 7200 := by decide +kernel

/-- The expiry of slot 2,600 (Sequence 3): a lifetime of 60 s at an idle time of 60,200 ms, and at 59,999 ms. -/
theorem test_expired :
    member.expired { entry .shadow with lifetime := 60, refTick := 5000 - 59800, ageOffset := 400 } = true
    ∧ member.expired { entry .shadow with lifetime := 60, refTick := 5000 - 59600, ageOffset := 400 } = true
    ∧ member.expired { entry .shadow with lifetime := 60, refTick := 5000 - 59599, ageOffset := 400 } = false := by
  decide +kernel

/-- The age is held at its highest value (R6). -/
theorem test_age_saturates :
    member.ageNow { entry .shadow with ageOffset := 4294967290 } = 4294967295 ∧ member.ageNow (entry .shadow) = 250 := by
  decide +kernel

/-- Merits of R105: the base times the health over 100, less 32 with no lane UP, and never below 0. -/
theorem test_merits :
    meritOf 200 73 false = 146 ∧ meritOf 200 73 true = 114 ∧ meritOf 150 73 true = 77 ∧ meritOf 20 100 true = 0 := by
  decide +kernel

/-- The wire record of an IPv4 TCP session with NAT is 64 bytes (Sequence 2). -/
theorem test_wire_size : wireSize false true true true = 64 := by decide +kernel

/-! ### Commands, on small states -/

/-- RESET holds the part; a held part takes no word (R171, R176). -/
theorem test_reset :
    (after .reset member).evp.resetHeld = true ∧ (after .reset member).role .g0 = .dormant
    ∧ (after (.ingressRecordArrival (oneWord 8 0)) (after .reset member)).evp.ingress = [] := by decide +kernel

/-- RESET_END starts the clock and the clear walk (R17, R177). -/
theorem test_reset_end :
    (after .resetEnd (after .reset member)).clock = 0
    ∧ (after .resetEnd (after .reset member)).smt.clearWalk = some 0 := by decide +kernel

/-- The clear walk frees the slot at its cursor, and ends past the last (R17). -/
theorem test_clear_walk :
    (after .clearWalkVisit { State.reset with smt.table := [(0, entry .clean), (1, entry .clean)] }).smt.table
        = [(1, entry .clean)]
    ∧ (after .clearWalkEnd { State.reset with smt.clearWalk := some 65536 }).ingressReady = true := by decide +kernel

/-- PROFILE configures the part with the clamps of R175, and a second one is refused. -/
theorem test_profile :
    (give .profileRecord fresh (profileWords 0 0x43)).profile = some (site .s0 41)
    ∧ (give .profileRecord member (profileWords 1 0x43)).evp.egress = [.refused 1 0 .profileLocked] := by decide +kernel

/-- The clamps at their ends: a PROFILE of zeros and one of ones (R175, R185). -/
theorem test_profile_clamps :
    readProfile [packWord 1 5 0 0, 0, 0, 0, 0]
      = { station := .s0, incarnation := 0, witnessConfigured := false, base := .both 1, preempt := .both false, margin := 1,
          pulseInterval := 10, missLimit := 3, deadTime := 2, handoverTimeout := 2000, silenceLimit := 50, transit := 0,
          grace := 1, laneEnabled := ⟨true, false⟩ }
    ∧ (readProfile [packWord 1 5 9 0, 0xFFFFFFFF, 0xFFFFFFFF, 0xFF01FFFF, 0xFFFF0000]).station = .s2
    ∧ (readProfile [packWord 1 5 9 0, 0xFFFFFFFF, 0xFFFFFFFF, 0xFF01FFFF, 0xFFFF0000]).pulseInterval = 1000
    ∧ (readProfile [packWord 1 5 9 0, 0xFFFFFFFF, 0xFFFFFFFF, 0xFF01FFFF, 0xFFFF0000]).handoverTimeout = 250 := by
  decide +kernel

/-- An OPEN of an ICMP session (protocol 1), its destination-port field not 0, passes the form tests of R22 (log 42). -/
theorem test_open_icmp :
    (readOpen [0x020603E8, 0x10010300, 0x00640000, 0x0a000001, 0x0a000002, 0x04d20007]).map (fun x => x.key.ports)
      = some (some { src := 1234, dst := 7 }) := by decide +kernel

/-- OPEN: DIRTY v1 on the Send List, and SLOT_BUSY for a second (Sequence 2). -/
theorem test_open :
    ((give .openRecord member (openWords 1000 7200)).entry 1000).map (fun e => (e.state, e.version, e.installed))
        = some (.dirty, 1, true)
    ∧ (give .openRecord member (openWords 1000 7200)).rpu.sendList = [1000]
    ∧ (give .openRecord (holding (entry .clean)) (openWords 2500 7200)).evp.egress = [.refused 2 2500 .slotBusy] := by
  decide +kernel

/-- OPEN at the first slot of the other region, and with a lifetime of 0 (R23, R25). -/
theorem test_open_edges :
    (give .openRecord member (openWords 32768 7200)).evp.egress = [.refused 2 32768 .badSlot]
    ∧ ((give .openRecord member (openWords 32767 0)).entry 32767).map (fun e => (e.lifetime, e.tcp)) = some (1, some tcp) := by
  decide +kernel

/-- UPDATE of a CLEAN entry makes it DIRTY v2, of a SENT one CHANGED v2 with its In-Flight record kept (Sequence 2). -/
theorem test_update :
    ((give .updateRecord (holding (entry .clean)) [(0x020209C4#32) + 0x01000000, 0x40000064]).entry 2500).map
        (fun e => (e.state, e.version, e.lifetime)) = some (.dirty, 2, 100)
    ∧ ((give .updateRecord (holding (entry .sent)) [(0x020209C4#32) + 0x01000000, 0x40000064]).entry 2500).map (·.state)
        = some .changed
    ∧ (give .updateRecord (holding (entry .sent)) [(0x020209C4#32) + 0x01000000, 0x40000064]).rpu.inFlight.length = 1 := by
  decide +kernel

/-- CLOSE of a SENT entry waits for its receipt; of a CLEAN one it is due (Sequence 2). -/
theorem test_close :
    ((give .closeRecord (holding (entry .sent)) (oneWord 4 2500)).entry 2500).map (·.state) = some .dropWait
    ∧ (give .closeRecord (holding (entry .clean)) (oneWord 4 2500)).rpu.sendList = [2500]
    ∧ (give .closeRecord (holding (entry .shadow)) (oneWord 4 2500)).evp.egress = [.refused 4 2500 .noSession] := by
  decide +kernel

/-- ALIVE: a health above 100 is held at 100, and the silence timer restarts (R35, R36). -/
theorem test_alive :
    (give .aliveRecord member (oneWord 5 101)).ppu.pendingHealth = 100
    ∧ (give .aliveRecord member (oneWord 5 73)).ppu.pendingHealth = 73
    ∧ (give .aliveRecord member (oneWord 5 73)).rcu.silence = some 5300 := by decide +kernel

/-- HANDOVER with nothing outstanding: YIELDING and flushed in one act, the YIELD queued (R133, R134). -/
theorem test_handover :
    (give .handoverRecord member (oneWord 7 0)).role .g0 = .standby ∧ (give .handoverRecord member (oneWord 7 0)).mbi.yields = [.g0]
    ∧ (give .handoverRecord member (oneWord 7 1)).evp.egress = [.refused 7 0 .notActive] := by decide +kernel

/-- STATUS answers, and a record of unknown kind is refused with its kind (R173, R181). -/
theorem test_status_and_unknown :
    (give .statusRecord member (oneWord 8 0)).evp.egress.length = 1
    ∧ (give .malformedRecord member (oneWord 9 5)).evp.egress = [.refused 9 0 .malformed] := by decide +kernel

/-- ALIGN takes a lane in TRAINING to UP with a LANE notice (R82, R86). -/
theorem test_align :
    ((after (.alignFrame .b (from1 .align 0 alignPattern))
      { member with mbi.lanes.b := { LaneRec.reset with state := .training, alignMark := some 5010 } }).lane .b).state = .up := by
  decide +kernel

/-- PULSE: its roles, merits and heard lanes are written (R113). A role of DORMANT makes it a bad frame (R91). -/
theorem test_pulse :
    ((after (.pulseFrame .a (from1 .pulse 0 [2, 4, 100, 200, 3, 0])) member).peer .s1).roles = ⟨some .standby, some .active⟩
    ∧ after (.pulseFrame .a (from1 .pulse 0 [0, 4, 100, 200, 3, 0])) member = member
    ∧ ((after (.badFrame .a (from1 .pulse 0 [0, 4, 100, 200, 3, 0])) member).lane .a).badCount = 1 := by decide +kernel

/-- Member 0's PULSE of Sequence 1 takes member 1 from LISTEN to STANDBY with cause PEER_SERVING. -/
theorem test_peer_serving :
    (after (.pulseFrame .a (rx .pulse .s0 41 0 [4, 4, 200, 100, 0, 1]))
      { member with
        profile := some (site .s1 7)
        rcu.groups := .both (inRole .listen)
        ppu.merits := .both 0
        ppu.peers := ⟨heardPeer 41 none none none none, .reset, .reset⟩ }).evp.egress
      = [.role .g0 .standby .peerServing false, .role .g1 .standby .peerServing false] := by decide +kernel

/-- A DELTA record applied at FREE makes a SHADOW with a receipt, under the age it carries (Sequence 2). -/
theorem test_delta :
    ((after (.deltaFrame .a (from1 .delta 0 (wireBytes 2500 30 { entry .shadow with group := .g1 }))) member).entry 2500)
        = some { entry .shadow with group := .g1, refTick := 5000 }
    ∧ (after (.deltaFrame .a (from1 .delta 0 (wireBytes 2500 30 { entry .shadow with group := .g1 }))) member).rpu.receipts
        = [{ slot := 2500, version := 1, join := 5000, transmitting := false, waited := false }] := by decide +kernel

/-- A DROP frees a SHADOW and makes a receipt; an owned entry stands (R68). -/
theorem test_drop :
    (after (.dropFrame .a (from1 .drop 0 [0x09, 0xC4, 0, 1])) (holding (entry .shadow))).entry 2500 = none
    ∧ (after (.dropFrame .a (from1 .drop 0 [0x09, 0xC4, 0, 1])) (holding (entry .clean))).entry 2500 = some (entry .clean)
    ∧ (after (.dropFrame .a (from1 .drop 0 [0x09, 0xC4, 0, 1])) (holding (entry .clean))).rpu.receipts.length = 1 := by
  decide +kernel

/-- A matched receipt: SENT to CLEAN, DROP_WAIT to DROP_DUE at the tail, and a pair of another version nothing (Sequence 2). -/
theorem test_receipt :
    ((after (.receiptFrame .a (from1 .receipt 0 [0x09, 0xC4, 0, 1])) (holding (entry .sent))).entry 2500).map (·.state)
        = some .clean
    ∧ (after (.receiptFrame .a (from1 .receipt 0 [0x09, 0xC4, 0, 1])) (holding (entry .dropWait))).rpu.sendList = [2500]
    ∧ ((after (.receiptFrame .a (from1 .receipt 0 [0x09, 0xC4, 0, 2])) (holding (entry .sent))).entry 2500).map (·.state)
        = some .sent := by decide +kernel

/-- The PREEMPT claim of Sequence 1: a merit of 200 against 100 and a margin of 20 is conceded at once, with no outstanding entry;
a merit one below the margin is contested (R131). -/
theorem test_claim_preempt :
    (after (.claimFrame .a (from1 .claim 1 [0, 2, 200]))
        { member with ppu.merits := ⟨100, 100⟩ }).evp.egress
      = [.role .g0 .yielding .preempted false, .role .g0 .standby .flushed false]
    ∧ (after (.claimFrame .a (from1 .claim 1 [0, 2, 200])) { member with ppu.merits := ⟨100, 100⟩ }).mbi.answers
      = [{ group := .g0, claimer := .s1, verdict := .concede, number := 1, incomplete := false }]
    ∧ (after (.claimFrame .a (from1 .claim 1 [0, 2, 119])) { member with ppu.merits := ⟨100, 100⟩ }).mbi.answers
      = [{ group := .g0, claimer := .s1, verdict := .contest, number := 1, incomplete := false }] := by decide +kernel

/-- The witness votes for the first VACANT claim it decides and denies the other member's (R147). -/
theorem test_claim_at_witness :
    (after (.claimFrame .a (from1 .claim 3 [0, 1, 100])) witness).mbi.answers
      = [{ group := .g0, claimer := .s1, verdict := .vote, number := 3, incomplete := false }]
    ∧ (after (.claimFrame .a (rx .claim .s0 41 1 [0, 1, 200])) (after (.claimFrame .a (from1 .claim 3 [0, 1, 100])) witness)).mbi.answers
      = [{ group := .g0, claimer := .s1, verdict := .vote, number := 3, incomplete := false },
         { group := .g0, claimer := .s0, verdict := .deny, number := 1, incomplete := false }] := by decide +kernel

/-- A VACANT claim of group 0 that has been sent. -/
def claiming (kind : ClaimKind) : GroupRec :=
  { inRole .claiming with
    claim := some { kind := kind, number := 4, txTick := some 4990, witnessVerdict := none, activeVerdict := none,
                    deadline := some 5000, held := false }
    claimNumber := 4 }

/-- A VOTE is recorded; a DENY fails the claim with a hold-off of eight pulse intervals (R123, R124, R128). -/
theorem test_answer :
    (((after (.answerFrame .a (rx .answer .s2 3 4 [0, 0, 3, 0])) (group0 (claiming .vacant))).group .g0).claim.map
        (·.witnessVerdict)) = some (some .vote)
    ∧ ((after (.answerFrame .a (rx .answer .s2 3 4 [0, 0, 4, 0])) (group0 (claiming .vacant))).group .g0).holdOff
        = some 5800 := by decide +kernel

/-- The CONCEDE of Sequence 1 moves the deadline to the dead time from now (R125). -/
theorem test_concede :
    (((after (.answerFrame .a (from1 .answer 4 [1, 0, 1, 0]))
        { member with rcu.groups.g1 := claiming .preempt }).group .g1).claim.bind (·.deadline)) = some 5020 := by
  decide +kernel

/-- YIELD makes a HANDED claim in STANDBY (R120). -/
theorem test_yield :
    (after (.yieldFrame .a (from1 .yield 0 [1])) member).mbi.claims
      = [{ group := .g1, kind := .handed, number := 1, merit := 100 }] := by decide +kernel

/-- The eighth bad frame in a window takes an UP lane to DEGRADED (R83); a frame of another length is bad (R89). -/
theorem test_bad_frame :
    ((after (.badFrame .a { bytes := List.replicate 12 0, oddBits := 0, duringOwn := false })
      { member with mbi.lanes.a := { laneUp with badCount := 7 } }).lane .a).state = .degraded
    ∧ after (.fragment .a { bytes := List.replicate 11 0, oddBits := 7, duringOwn := false }) member = member := by
  decide +kernel

/-- The transmitter takes an ANSWER before a CLAIM, on lane A first with a copy to follow (R96, R97). -/
theorem test_take_order :
    (after .transmitterTake
      { member with
        mbi.answers := [{ group := .g0, claimer := .s1, verdict := .contest, number := 9, incomplete := false }]
        mbi.claims := [{ group := .g1, kind := .handed, number := 1, merit := 100 }] }).mbi.inHand.map
        (fun h => (h.bytes.take 12, h.lane, h.secondCopy))
      = some ([7, 0, 0, 41, 9, 0, 0, 4, 0, 1, 2, 0], .a, true) := by decide +kernel

/-- Lane A that reaches UP after lane B has taken a YIELD gets its second copy as the first ends (R96). -/
theorem test_second_copy :
    (after .frameComplete
      { after .frameStart (after .transmitterTake
          { member with mbi.lanes.a := { LaneRec.reset with state := .training }, mbi.workingLane := some .b, mbi.yields := [.g0] })
        with mbi.lanes.a := laneUp }).mbi.inHand.map (fun h => (h.lane, h.secondCopy, h.completedAny))
      = some (.a, false, true) := by decide +kernel

/-- A rebirth of member 1 forgets the claim number last contested, since its claim numbers restart (R131). -/
theorem test_rebirth_forgets_the_contest :
    ((after (.alignFrame .a (rx .align .s1 8 0 alignPattern)) (group0 { inRole .active with contested := some 1 })).group .g0).contested
      = none := by decide +kernel

/-- A DELTA takes the head of the Send List in one act: SENT, and in flight in transmission (R43). -/
theorem test_take_delta :
    ((after .transmitterTake (holding (entry .dirty))).entry 2500).map (·.state) = some .sent
    ∧ (after .transmitterTake (holding (entry .dirty))).rpu.sendList = []
    ∧ (after .transmitterTake (holding (entry .dirty))).rpu.inFlight
        = [{ slot := 2500, version := 1, completion := none, transmitting := true }] := by decide +kernel

/-- The first collision of a DELTA draws from one bit of the register after its step (R99); its completion stamps the record (R45). -/
theorem test_collision_and_completion :
    ((after .collision (after .frameStart (after .transmitterTake (holding (entry .dirty))))).mbi.inHand.map (·.phase))
        = some (.backoff 1)
    ∧ ((after .frameComplete (after .frameStart (after .transmitterTake (holding (entry .dirty))))).rpu.inFlight.map
        (·.completion)) = [some 5000] := by decide +kernel

/-- The backoff ends with the wait for idle (R99). -/
theorem test_backoff_end :
    ((after .backoffEnd (after .collision (after .frameStart (after .transmitterTake (holding (entry .dirty)))))).mbi.inHand.map
        (·.phase)) = some .waitIdle := by decide +kernel

/-- The record of Sequence 2 whose receipt is lost times out 200 ms after its completion (R51, R52). -/
theorem test_receipt_timer :
    ((after .receiptTimerExpiry { holding (entry .dropWait) with clock := 5100 }).entry 2500).map
        (fun e => (e.state, e.attempts)) = some (.dropDue, 1)
    ∧ after .receiptTimerExpiry { holding (entry .dropWait) with clock := 5099 }
        = { holding (entry .dropWait) with clock := 5099 } := by decide +kernel

/-- A pulse epoch latches the health, makes the merits and a PULSE due; health 0 fences (R103, R105, R137). -/
theorem test_epoch :
    (after .pulseEpoch { member with clock := 5100, ppu.pendingHealth := 73 }).ppu.merits = ⟨146, 73⟩
    ∧ (after .pulseEpoch { member with clock := 5100, ppu.pendingHealth := 0 }).role .g0 = .fenced
    ∧ (after .pulseEpoch { member with clock := 5100 }).ppu.epoch = some 5200 := by decide +kernel

/-- The engine silence timer fences both groups and drops FP0 (Sequence 3). -/
theorem test_silence :
    (after .engineSilenceTimerExpiry { member with clock := 5300 }).role .g1 = .fenced
    ∧ ((after .engineSilenceTimerExpiry { member with clock := 5300 }).group .g0).fp = false
    ∧ (after .engineSilenceTimerExpiry { member with clock := 5300 }).smt.forget = ⟨some 0, none⟩ := by decide +kernel

/-- The other member is LOST 500 ms after its last frame (R111). -/
theorem test_liveness :
    ((after (.livenessTimerExpiry .s1) { witness with clock := 5490 }).peer .s1).state = .lost
    ∧ ((after (.livenessTimerExpiry .s1) { witness with clock := 5489 }).peer .s1).state = .live := by decide +kernel

/-- The deadline of a VACANT claim with no witness: ACTIVE, FP0 high, the takeover walk (R124, R129). -/
theorem test_dead_time :
    (after (.deadTimeExpiry .g0) (group0 (claiming .vacant))).role .g0 = .active
    ∧ ((after (.deadTimeExpiry .g0) (group0 (claiming .vacant))).group .g0).fp = true
    ∧ (after (.deadTimeExpiry .g0) (group0 (claiming .vacant))).smt.takeover.g0 = some { cursor := 0, wait := .none } := by
  decide +kernel

/-- A line fault takes a lane DOWN for 500 ms, and the working lane moves (R81, R85, R95). -/
theorem test_line_fault :
    ((after (.lineFault .a .openCircuit) member).lane .a).retrain = some 5500
    ∧ (after (.lineFault .a .openCircuit) member).mbi.workingLane = some .b := by decide +kernel

/-- The takeover walk adopts the SHADOW of slot 2,500 into buffer 0, and disposes of an expired one (Sequence 3). -/
theorem test_takeover_visit :
    ((after (.takeoverWalkVisit .g0)
        { holding (entry .shadow) with smt.takeover.g0 := some { cursor := 2500, wait := .none } }).entry 2500).map
        (fun e => (e.state, e.version)) = some (.dirty, 2)
    ∧ ((after (.takeoverWalkVisit .g0)
        { holding { entry .shadow with lifetime := 0 } with
          smt.takeover.g0 := some { cursor := 2500, wait := .none } }).entry 2500).map (·.state) = some .dropDue := by
  decide +kernel

/-- A walk over an empty table posts an empty final batch in the lowest FREE buffer (Sequence 1). -/
theorem test_takeover_end :
    (after (.takeoverWalkEnd .g0) { member with smt.takeover.g0 := some { cursor := 65536, wait := .none } }).buffer 0
      = .posted .g0 [] true false false := by decide +kernel

/-- BATCH emits it with the takeover grace, and RELEASE frees the buffer (R163, R165). -/
theorem test_batch_and_release :
    (after .batchRecord
      { member with tku := { buffers := member.tku.buffers.set 0 (.posted .g0 [] true false false), postOrder := [0] } }).evp.egress
      = [.batch 0 .g0 10 true []]
    ∧ (give .releaseRecord
      { member with tku.buffers := member.tku.buffers.set 0 (.posted .g0 [] true true false) } (oneWord 6 0)).buffer 0 = .free
    ∧ (give .releaseRecord member (oneWord 6 0)).evp.egress = [.refused 6 0 .badBuffer] := by decide +kernel

/-- The refresh walk makes a CLEAN entry due under its next version, and leaves a noted one (R20). -/
theorem test_refresh :
    ((after .refreshWalkVisit { holding (entry .clean) with smt.refreshWalk := some 2500 }).entry 2500).map
        (fun e => (e.state, e.version, e.peerMayHold)) = some (.dirty, 2, false)
    ∧ ((after .refreshWalkVisit
        { holding { entry .clean with noted := true } with smt.refreshWalk := some 2500 }).entry 2500).map (·.state)
        = some .clean := by decide +kernel

/-- The forget walk clears the mark of an entry of its group (R168). -/
theorem test_forget :
    ((after (.forgetWalkVisit .g0)
      { holding { entry .clean with installed := true } with smt.forget.g0 := some 2500 }).entry 2500).map (·.installed)
      = some false := by decide +kernel

/-- A freed place goes to the ROLE mark before the LANE mark, as a notice of the role in force (R179, R180). -/
theorem test_egress_taken :
    (after .egressRecordTaken
      { member with evp.egress := [.lane .a .up], evp.laneMarks.a := true
                    evp.roleMarks.g1 := some { cause := .unfenced, leftActive := true, skipped := true } }).evp.egress
      = [.role .g1 .standby .unfenced true] := by decide +kernel

/-- REVOKED carries the oldest 32 slots (R76). -/
theorem test_revoked :
    (after .revokedRecord { member with rpu.revoke := (List.range 33).map (BitVec.ofNat 16 ·) }).rpu.revoke = [32]
    ∧ (after .revokedRecord { member with rpu.revoke := [7, 9] }).evp.egress = [.revoked [7, 9]] := by decide +kernel

/-- The pause ends with its timer (R54); the eighth attempt starts it for a hold-down (R53). -/
theorem test_pause :
    (after .pauseTimerExpiry { member with rpu.pauseFlag := true, rpu.pauseTimer := some 5000 }).rpu.pauseFlag = false
    ∧ (after .receiptTimerExpiry { holding { entry .sent with attempts := 7 } with clock := 5100 }).rpu.pauseTimer
        = some 5600 := by decide +kernel

/-- A receipt that has waited 2 ms goes out (R72). -/
theorem test_receipt_delay :
    ((after .receiptDelay
      { member with rpu.receipts := [{ slot := 1000, version := 1, join := 4998, transmitting := false, waited := false }] }).mbi.inHand.map
      (·.bytes.take 12)) = some [5, 0, 0, 41, 0, 0, 0, 4, 0x03, 0xE8, 0, 1] := by decide +kernel

/-- The listen timers of Sequence 1: with no other member heard and no witness configured, VACANT claims (R119, R121). -/
theorem test_listen :
    (after (.listenTimerExpiry .g0)
      { member with rcu.groups.g0 := { inRole .listen with listen := some 5000 }, ppu.peers := .all .reset }).mbi.claims.head?
      = some { group := .g0, kind := .vacant, number := 1, merit := 200 } := by decide +kernel

/-- The vacancy timer of Sequence 3: the other member LIVE with a standing of FENCED, a VACANT claim no. 3 (R120, R121). -/
theorem test_vacancy :
    (after (.vacancyTimerExpiry .g0)
      { group0 { inRole .standby with vacancy := .running 5000, claimNumber := 2 } with
        ppu.peers.s1.roles := .both (some .fenced) }).mbi.claims.head?
      = some { group := .g0, kind := .vacant, number := 3, merit := 200 } := by decide +kernel

/-- The hold-off ends and the group is evaluated (R128); the handover timer ends YIELDING with the incomplete flag (R134). -/
theorem test_hold_off_and_handover_timer :
    (after (.holdOffExpiry .g0)
      { group0 { inRole .standby with holdOff := some 5000 } with ppu.peers := .all .reset }).role .g0 = .claiming
    ∧ (after (.handoverTimerExpiry .g0)
      (group0 { inRole .yielding with handover := some 5000, pendingFrame := some (.concede .s1 9) })).mbi.answers
      = [{ group := .g0, claimer := .s1, verdict := .concede, number := 9, incomplete := true }] := by decide +kernel

/-- A DEGRADED lane with one bad frame in its window goes UP (R83); a quiet lane goes DOWN where the other is not quiet (R84). -/
theorem test_window_and_quiet :
    ((after (.healthWindowEnd .a)
      { member with clock := 5500, mbi.lanes.a := { laneUp with state := .degraded, badCount := 1 } }).lane .a).state = .up
    ∧ ((after (.quietExpiry .a) { member with mbi.lanes.a.lastValid := some 4500 }).lane .a).state = .down
    ∧ ((after (.quietExpiry .a) { member with mbi.lanes.a.lastValid := some 4501 }).lane .a).state = .up := by decide +kernel

/-- A lane DOWN trains again after 500 ms without a fault, else when the fault clears (R85). -/
theorem test_retrain :
    ((after (.retrainTimerExpiry .a .noFault)
      { member with mbi.lanes.a := { LaneRec.reset with state := .down, retrain := some 5000 } }).lane .a).state = .training
    ∧ ((after (.lineFaultClear .a) (after (.retrainTimerExpiry .a .openCircuit)
      { member with mbi.lanes.a := { LaneRec.reset with state := .down, retrain := some 5000 } })).lane .a).state = .training := by
  decide +kernel

/-- An ALIGN every 10 ms in TRAINING (R82). -/
theorem test_align_due :
    ((after (.alignDue .b)
      { member with mbi.lanes.b := { LaneRec.reset with state := .training, alignMark := some 5000 } }).lane .b).alignMark
      = some 5010 := by decide +kernel

/-- A grant lapses after a hold-down, and its waiting VOTE goes (R146, R149). -/
theorem test_grant_lapse :
    ((after (.grantLapse .g0) { after (.claimFrame .a (from1 .claim 3 [0, 1, 100])) witness with clock := 5500 }).mbi.answers) = []
    ∧ ((after (.grantLapse .g0) { after (.claimFrame .a (from1 .claim 3 [0, 1, 100])) witness with clock := 5499 }).vote .g0).grant
        = some { grantee := .s1, tick := 5000, number := 3 } := by decide +kernel

/-- The refresh walk ends past the last slot (R19); a claim held at its deadline enters ACTIVE as the forget walk ends (R129). -/
theorem test_walk_ends :
    (after .refreshWalkEnd { member with smt.refreshWalk := some 65536 }).smt.refreshWalk = none
    ∧ (after .refreshWalkEnd { member with smt.refreshWalk := some 65535 }).smt.refreshWalk = some 65535
    ∧ (after (.forgetWalkEnd .g0)
        { group0 { inRole .claiming with claim := (claiming .handed).claim.map fun c => { c with held := true } } with
          smt.forget.g0 := some 65536 }).role .g0 = .active := by decide +kernel

/-! ### States that meet the premises of the statements

One theorem for each statement with premises; its clauses stand in the statement's order, at a boundary where there is one. -/

/-- The premises of `hearsNew`, gathered. -/
theorem heard_new {s : State} {l : Lane} {r : Reception} {y : Station} {c : Content} (inc : BitVec 16)
    (h : s.evp.resetHeld = false ∧ s.takesFrom l r = true ∧ s.laneUsable l = true
      ∧ (s.laneUsable l.other && s.quietFor l.other) = false ∧ y ≠ s.self ∧ (s.peer y).state = .live
      ∧ judge r = .valid { sender := y, incarnation := inc, content := c } ∧ (s.peer y).incarnation = some inc
      ∧ s.isCopy y l r.bytes = false) : s.hearsNew l r y c :=
  ⟨⟨h.1, h.2.1, h.2.2.1, h.2.2.2.1, h.2.2.2.2.1, h.2.2.2.2.2.1, inc, h.2.2.2.2.2.2.1, h.2.2.2.2.2.2.2.1⟩,
    h.2.2.2.2.2.2.2.2⟩

theorem test_meets_IdleStepFollowsTheClock :
    ({ State.reset with evp.resetHeld := true }).pending = [] ∧ member.pending = [] ∧ member.evp.resetHeld = false
    ∧ member.dueExpiry = none ∧ ({ member with clock := 5100 }).dueExpiry = some .pulseEpoch := by decide +kernel

theorem test_meets_ResetHoldsThePart :
    (after .reset member).evp.resetHeld = true ∧ (Instr.statusRecord ≠ .reset ∧ Instr.statusRecord ≠ .resetEnd)
    ∧ member.evp.resetHeld = false := by decide +kernel

/-- A claim of group 0 that the forget walk holds at its deadline. -/
def heldClaim : GroupRec := { inRole .claiming with claim := (claiming .handed).claim.map fun c => { c with held := true } }

/-- Member 0 with a witness configured, no other station heard, and group 0 in a role. -/
def quorumLost (r : GroupRec) : State :=
  { group0 r with profile := some { site .s0 41 with witnessConfigured := true }, ppu.peers := .all .reset }

theorem test_meets_WalksPassTheTable :
    State.reset.evp.resetHeld = false ∧ State.reset.smt.clearWalk = some 0
    ∧ ({ State.reset with smt.clearWalk := some 65535 }).smt.clearWalk = some 65535 ∧ 65535 < 65536
    ∧ ({ State.reset with smt.clearWalk := some 65536 }).smt.clearWalk = some 65536
    ∧ ({ member with smt.forget.g0 := some 65535 }).smt.forget.get .g0 = some 65535
    ∧ ({ member with smt.forget.g0 := some 65536 }).smt.forget.get .g0 = some 65536
    ∧ (member.group .g0).claim = none
    ∧ ((group0 heldClaim).group .g0).claim.map (·.held) = some true ∧ member.witnessConfigured = false
    ∧ ((quorumLost heldClaim).group .g0).claim.map (·.held) = some true ∧ (quorumLost heldClaim).isMember = true
    ∧ (quorumLost heldClaim).witnessConfigured = true ∧ (quorumLost heldClaim).otherLive = false
    ∧ (quorumLost heldClaim).peerLive .s2 = false ∧ (quorumLost heldClaim).rcu.fence.any = false := by decide +kernel

theorem test_meets_WordsFormRecords :
    fresh.evp.resetHeld = false ∧ fresh.smt.clearWalk = none ∧ fresh.recordInProgress = false
    ∧ ({ fresh with evp.ingress := List.replicate 63 (oneWord 8 0) }).evp.ingress.length < 64
    ∧ ({ fresh with evp.ingress := List.replicate 63 (oneWord 8 0) }).recordInProgress = false
    ∧ (openWords 1000 1).length = declaredLength (0x020D03E8#32) ∧ (oneWord 8 0).length = declaredLength (0x08010000#32)
    ∧ ([0x08000000] : List Word32).length = declaredLength 0x08000000
    ∧ State.reset.ingressReady = false
    ∧ ({ fresh with evp.ingress := List.replicate 64 (oneWord 8 0) }).ingressReady = false
    ∧ (List.replicate 63 (oneWord 8 0)).length = 63
    ∧ ([0x02020000] : List Word32).length + ([0] : List Word32).length = declaredLength 0x02020000
    ∧ ({ fresh with evp.ingress := List.replicate 63 (oneWord 8 0) ++ [[0x02020000]] }).recordInProgress = true
    ∧ declaredLength 0x08010000 ≤ ([0x08010000] : List Word32).length := by decide +kernel

theorem test_meets_ProfileConfigures :
    (inHand fresh (profileWords 0 0x43)).hasRecord (some .profile) (profileWords 0 0x43) []
    ∧ (profileWords 0 0x43).length = 5 ∧ fresh.profile = none ∧ fresh.mbi.inHand = none
    ∧ (∀ y, (fresh.peer y).state ≠ .live)
    ∧ (readProfile (profileWords 0 0x43)).station ≠ .s2 ∧ (readProfile (profileWords 2 0x43)).station = .s2
    ∧ (inHand fresh (profileWords 2 0x43)).hasRecord (some .profile) (profileWords 2 0x43) [] := by
  refine ⟨?_, rfl, rfl, rfl, ?_, ?_⟩
  · unfold State.hasRecord; decide +kernel
  · intro y; cases y <;> decide +kernel
  · unfold State.hasRecord; decide +kernel

/-- `s` with a record in hand and 55 records in the egress FIFO, its last place for an answer. -/
def asked (s : State) (ws : List Word32) : State :=
  { s with evp.ingress := [ws], evp.egress := List.replicate 55 (.lane .a .up) }

/-- An UPDATE of slot `slot` that carries a TCP part. -/
def updateWords (slot : Slot) : List Word32 :=
  [(0x0309#16) ++ slot, 0x60020064, 2000000000, 77, 1048576, 0x01F40000, 0x0BB80000, 0x00580000, 0xFFFF0002]

/-- A record of a kind that fails its framing test, one that meets no check before the PROFILE, and a second PROFILE. -/
theorem test_meets_RecordsAreRefusedInOrder_framing :
    (asked fresh (oneWord 0 0)).hasRecord none (oneWord 0 0) []
    ∧ (asked fresh (oneWord 1 0)).hasRecord (some .profile) (oneWord 1 0) [] ∧ (oneWord 1 0).length ≠ 5
    ∧ (asked member (profileWords 0 0)).hasRecord (some .profile) (profileWords 0 0) [] ∧ member.profile ≠ none
    ∧ (asked fresh (oneWord 2 0)).hasRecord (some .open) (oneWord 2 0) [] ∧ readOpen (oneWord 2 0) = none
    ∧ (asked fresh (openWords 0 1)).hasRecord (some .open) (openWords 0 1) [] ∧ readOpen (openWords 0 1) ≠ none
    ∧ (asked fresh (oneWord 3 0)).hasRecord (some .update) (oneWord 3 0) [] ∧ readUpdate (oneWord 3 0) = none
    ∧ (asked fresh (updateWords 0)).hasRecord (some .update) (updateWords 0) [] ∧ readUpdate (updateWords 0) ≠ none
    ∧ (asked fresh (oneWord 4 0)).hasRecord (some .close) (oneWord 4 0) [] ∧ fresh.profile = none
    ∧ (asked fresh (oneWord 5 0)).hasRecord (some .alive) (oneWord 5 0) []
    ∧ (asked fresh (oneWord 6 0)).hasRecord (some .release) (oneWord 6 0) []
    ∧ (asked fresh (oneWord 6 0)).releaseRoom (oneWord 6 0) = true
    ∧ (asked fresh (oneWord 7 1)).hasRecord (some .handover) (oneWord 7 1) [] ∧ (recordParameter (oneWord 7 1)).toNat < 2
    ∧ (asked fresh (oneWord 7 2)).hasRecord (some .handover) (oneWord 7 2) [] ∧ 2 ≤ (recordParameter (oneWord 7 2)).toNat
    ∧ (asked fresh [0x05020000, 0]).hasRecord (some .alive) [0x05020000, 0] []
    ∧ (asked fresh [0x04020000, 0]).hasRecord (some .close) [0x04020000, 0] []
    ∧ (asked fresh [0x06020000, 0]).hasRecord (some .release) [0x06020000, 0] []
    ∧ (asked fresh [0x06020000, 0]).releaseRoom [0x06020000, 0] = true := by
  and_intros <;> decide +kernel

/-- The checks of OPEN, UPDATE and CLOSE after the PROFILE, one state for each cause. -/
theorem test_meets_RecordsAreRefusedInOrder_checks :
    (asked witness (openWords 0 1)).hasRecord (some .open) (openWords 0 1) [] ∧ witness.self = .s2
    ∧ (asked member (openWords 32768 1)).hasRecord (some .open) (openWords 32768 1) [] ∧ member.self ≠ .s2
    ∧ regionOf (recordParameter (openWords 32768 1)) ≠ member.self
    ∧ regionOf (recordParameter (openWords 2500 1)) = member.self
    ∧ (holding (entry .shadow)).entry (recordParameter (openWords 2500 1)) ≠ none
    ∧ (group0 (inRole .yielding)).role .g0 ≠ .active ∧ (readOpen (openWords 2500 1)).map (·.group) = some .g0
    ∧ (asked (holding (entry .dropDue)) (updateWords 2500)).hasRecord (some .update) (updateWords 2500) []
    ∧ (readUpdate (updateWords 2500)).map (·.slot) = some 2500 ∧ (entry .dropDue).state.live = false
    ∧ (entry .clean).state.live = true ∧ ((group0 (inRole .standby)).role .g0).serving = false
    ∧ (member.role .g0).serving = true
    ∧ (readUpdate (updateWords 2500)).map (fun u => updateSuits u { entry .clean with key.protocol := 17 }) = some false
    ∧ (asked (holding (entry .clean)) (oneWord 4 2500)).hasRecord (some .close) (oneWord 4 2500) []
    ∧ (oneWord 4 2500).length = 1
    ∧ (asked witness (oneWord 4 2500)).hasRecord (some .close) (oneWord 4 2500) [] := by
  unfold State.hasRecord; decide +kernel

/-- An OPEN of slot 3, IPv6 TCP with NAT, of group 1 in zone 15: 3 + 8 + 1 + 5 + 7 = 24 words (R185). -/
def openWide : List Word32 :=
  [0x02180003, 0xF1060F03, 0x1C200000, 1, 2, 3, 4, 5, 6, 7, 8, 0x04d20050, 0x02010bb8, 9, 10, 11, 12,
   0x11111111, 0x22222222, 0x33333333, 0x44445555, 0x66667777, 0x88889999, 0xAAAABBBB]

/-- An UPDATE of slot 3 with a lifetime of 7,200 s, an IPv6 NAT part and a TCP part. -/
def updateWide : List Word32 :=
  [0x030E0003, 0xE1031C20, 0x01010bb8, 9, 10, 11, 12,
   0x11111111, 0x22222222, 0x33333333, 0x44445555, 0x66667777, 0x88889999, 0xAAAABBBB]

/-- The TCP part of both. -/
def wideTcp : TcpPart :=
  { tracking := .closing
    fwd := { seqHi := 0x11111111, ackHi := 0x22222222, window := 0x33333333, rate := 0x4444 }
    rev := { seqHi := 0x55556666, ackHi := 0x77778888, window := 0x9999AAAA, rate := 0xBBBB } }

/-- The fields of an OPEN and of an UPDATE, each written out from R184 and R185. -/
theorem test_record_fields :
    readOpen openWide = some
      { group := .g1, lifetime := 7200, tcp := some wideTcp
        nat := some { kind := .destination, port := some 3000, addr := .v6 0x000000090000000A0000000B0000000C }
        key := { addrs := .v6 0x00000001000000020000000300000004 0x00000005000000060000000700000008, protocol := 6,
                 ports := some { src := 1234, dst := 80 }, zone := 15 } }
    ∧ readUpdate updateWide = some
      { slot := 3, lifetime := some 7200, tcp := some wideTcp
        nat := .replace { kind := .source, port := some 3000, addr := .v6 0x000000090000000A0000000B0000000C } } := by
  decide +kernel

/-- Records and parts that meet the clauses of the fields: an accepted OPEN and UPDATE, zones 15 and 16, a NAT part to replace. -/
theorem test_meets_RecordsAreRefusedInOrder_fields :
    (readOpen openWide).isSome = true ∧ recordByte openWide 1 2 = 15 ∧ (readUpdate updateWide).isSome = true
    ∧ (readOpen (openWide.set 1 0xF1061003)).isSome = true ∧ recordByte (openWide.set 1 0xF1061003) 1 2 = 16
    ∧ (readUpdate updateWide).map (fun u => (u.nat, updateSuits u (entry .clean)))
      = some (.replace (recordNat updateWide 2 true), false) := by decide +kernel

theorem test_meets_OpenFillsAFreeSlot :
    (asked member (openWords 32767 0)).hasRecord (some .open) (openWords 32767 0) [] ∧ (readOpen (openWords 32767 0)).isSome = true
    ∧ (readOpen (openWords 32767 0)).map (fun x => member.role x.group) = some .active
    ∧ (asked member (openWords 32767 0)).isMember = true ∧ regionOf (recordParameter (openWords 32767 0)) = member.self
    ∧ (asked member (openWords 32767 0)).entry (recordParameter (openWords 32767 0)) = none
    ∧ (asked member (openWords 32767 0)).listsAgree = true ∧ (asked member (openWords 32767 0)).smt.clearWalk = none := by
  unfold State.hasRecord; decide +kernel

theorem test_meets_UpdateChangesTheEntry :
    (asked (holding (entry .sent)) (updateWords 2500)).hasRecord (some .update) (updateWords 2500) []
    ∧ (readUpdate (updateWords 2500)).map (fun u => (u.slot, updateSuits u (entry .sent))) = some (2500, true)
    ∧ (asked (holding (entry .sent)) (updateWords 2500)).isMember = true
    ∧ (asked (holding (entry .sent)) (updateWords 2500)).entry 2500 = some (entry .sent)
    ∧ (entry .sent).state.live = true ∧ (member.role (entry .sent).group).serving = true
    ∧ (asked (holding (entry .sent)) (updateWords 2500)).listsAgree = true := by
  unfold State.hasRecord; decide +kernel

theorem test_meets_CloseEndsTheEntry :
    (asked (holding (entry .clean)) (oneWord 4 2500)).hasRecord (some .close) (oneWord 4 2500) []
    ∧ (oneWord 4 2500).length = 1 ∧ (asked (holding (entry .clean)) (oneWord 4 2500)).isMember = true
    ∧ (asked (holding (entry .clean)) (oneWord 4 2500)).entry (recordParameter (oneWord 4 2500)) = some (entry .clean)
    ∧ (entry .clean).state.live = true ∧ (member.role (entry .clean).group).serving = true
    ∧ (asked (holding (entry .clean)) (oneWord 4 2500)).listsAgree = true := by
  unfold State.hasRecord; decide +kernel

/-- A group fenced with the engine silent alone. -/
def fenced : State :=
  { member with
    rcu.groups := .both (inRole .fenced)
    rcu.fence := { FenceCauses.none with engineSilent := true }
    ppu.peers.s1 := .reset }

/-- `fenced` beside member 1, which announces one role and one merit for both groups. -/
def fencedBeside (r : Role) (m : BitVec 8) : State :=
  { fenced with ppu.peers.s1 := heardPeer 7 (some r) (some r) (some m) (some m) }

/-- The margin is 20 and member 0's merit for group 0 is 200; it may preempt group 0 alone. -/
theorem test_meets_AliveRestartsTheSilenceTimer :
    (asked witness (oneWord 5 100)).hasRecord (some .alive) (oneWord 5 100) [] ∧ (oneWord 5 100).length = 1
    ∧ witness.profile = some (site .s2 3) ∧ (asked member (oneWord 5 100)).hasRecord (some .alive) (oneWord 5 100) []
    ∧ member.profile = some (site .s0 41) ∧ (site .s0 41).station ≠ .s2 ∧ member.rcu.fence.any = false
    ∧ (asked fenced (oneWord 5 100)).hasRecord (some .alive) (oneWord 5 100) [] ∧ fenced.rcu.fence.any = true
    ∧ ({ fenced.rcu.fence with engineSilent := false }).any = false ∧ fenced.otherLive = false
    ∧ fenced.role .g0 = .fenced
    ∧ (fencedBeside .standby 180).otherLive = true ∧ (fencedBeside .standby 180).standing .g0 = some .standby
    ∧ (fencedBeside .active 180).standing .g0 = some .active ∧ (fencedBeside .active 180).role .g1 = .fenced
    ∧ (fencedBeside .active 180).preemptConditions .g0 = true ∧ (fencedBeside .active 181).preemptConditions .g0 = false := by
  unfold State.hasRecord; decide +kernel

/-- An install record of slot 2,500 in a buffer. -/
def buffered (taken : Bool) : BufferRec :=
  { record := member.installRecord 2500 (entry .clean), taken := taken }

/-- `member` with one buffer. -/
def buffer7 (b : Buffer) : State := { holding (entry .clean) with tku.buffers := member.tku.buffers.set 7 b }

/-- `s` with the takeover walk of `g` waiting for a FREE buffer. -/
def waiting (s : State) (g : Group) : State :=
  { s with smt.takeover := s.smt.takeover.set g (some { cursor := 2500, wait := .buffer }) }

theorem test_meets_ReleaseMarksOrRevokes :
    (asked member (oneWord 6 7)).hasRecord (some .release) (oneWord 6 7) [] ∧ (oneWord 6 7).length = 1
    ∧ member.profile ≠ none ∧ (asked witness (oneWord 6 7)).hasRecord (some .release) (oneWord 6 7) []
    ∧ (asked member (oneWord 6 8)).hasRecord (some .release) (oneWord 6 8) [] ∧ 8 ≤ (recordParameter (oneWord 6 8)).toNat
    ∧ ((7 : Fin 8).val = (recordParameter (oneWord 6 7)).toNat ∧ (member.buffer 7).isFree = true)
    ∧ (buffer7 (.posted .g0 [buffered true] false true false)).buffer 7 = .posted .g0 [buffered true] false true false
    ∧ (buffer7 (.posted .g0 [buffered true] false true false)).releaseRoom (oneWord 6 7) = true
    ∧ (buffer7 (.posted .g0 [buffered true] false true false)).bufferSlotsOk = true
    ∧ member.walkIsWaiting .g0 = false ∧ member.walkIsWaiting .g1 = false
    ∧ ({ buffer7 (.posted .g0 [buffered true] false true false) with
          rpu.revoke := (List.range 1024).map (BitVec.ofNat 16 ·) }).releaseRoom (oneWord 6 7) = false
    ∧ (waiting member .g0).walkIsWaiting .g0 = true ∧ (waiting member .g0).walkIsWaiting .g1 = false
    ∧ (waiting (waiting member .g0) .g1).walkIsWaiting .g0 = true
    ∧ (waiting (waiting member .g0) .g1).walkIsWaiting .g1 = true := by
  unfold State.hasRecord; decide +kernel

theorem test_meets_HandoverYields :
    (asked member (oneWord 7 1)).hasRecord (some .handover) (oneWord 7 1) [] ∧ (oneWord 7 1).length = 1
    ∧ groupOfNat (recordParameter (oneWord 7 1)).toNat = some .g1 ∧ member.profile ≠ none ∧ member.role .g1 ≠ .active
    ∧ groupOfNat (recordParameter (oneWord 7 0)).toNat = some .g0
    ∧ fenced.otherLive = false
    ∧ (asked (holding (entry .sent)) (oneWord 7 0)).hasRecord (some .handover) (oneWord 7 0) []
    ∧ (holding (entry .sent)).role .g0 = .active ∧ (holding (entry .sent)).otherLive = true
    ∧ (holding (entry .sent)).standing .g0 = some .standby ∧ (holding (entry .sent)).outstanding .g0 ≠ 0
    ∧ (holding (entry .sent)).walkIsWaiting .g1 = false
    ∧ (waiting (holding (entry .sent)) .g1).walkIsWaiting .g1 = true
    ∧ ({ waiting (holding (entry .sent)) .g1 with tku.buffers := member.tku.buffers.set 7 (.filling .g0 []) }).fillingBuffer .g0
        ≠ none
    ∧ ({ member with ppu.peers.s1.state := .lost }).otherLive = false
    ∧ ({ member with ppu.peers.s1.state := .lost }).role .g0 = .active
    ∧ (asked member (oneWord 7 0)).hasRecord (some .handover) (oneWord 7 0) [] ∧ member.outstanding .g0 = 0
    ∧ member.standing .g0 = some .standby ∧ member.otherLive = true ∧ member.evp.roleMarks.get .g0 = none
    ∧ (after .handoverRecord (asked member (oneWord 7 0))).role .g0 = .standby := by
  unfold State.hasRecord; decide +kernel

theorem test_meets_StatusReportsThePart :
    (asked member [0x08020000, 0]).hasRecord (some .status) [0x08020000, 0] []
    ∧ ([0x08020000, 0] : List Word32).length ≠ 1
    ∧ (asked fresh (oneWord 8 0)).hasRecord (some .status) (oneWord 8 0) [] ∧ (oneWord 8 0).length = 1
    ∧ fresh.smt.clearWalk = none := by
  unfold State.hasRecord; decide +kernel

/-- `s` with `n` records in the egress FIFO. -/
def queued (s : State) (n : Nat) : State := { s with evp.egress := List.replicate n (.lane .a .up) }

/-- `member` with an unemitted posted buffer. -/
def posted : State :=
  { member with tku := { buffers := member.tku.buffers.set 7 (.posted .g0 [] true false false), postOrder := [7] } }

theorem test_meets_EgressPlacesAreGivenInOrder :
    (queued member 1).evp.egress = .lane .a .up :: [] ∧ member.evp.resetHeld = false
    ∧ ({ queued member 64 with
          evp.roleMarks.g1 := some { cause := .fence, leftActive := false, skipped := false } }).evp.roleMarks.g0 = none
    ∧ member.evp.roleMarks = .both none
    ∧ ({ queued member 64 with evp.peerMarks.s2 := true }).evp.peerMarks.get .s1 = false
    ∧ member.evp.peerMarks = .all false ∧ member.evp.laneMarks = .both false
    ∧ ({ queued member 64 with evp.laneMarks.b := true }).evp.laneMarks.a = false
    ∧ (queued member 56).evp.egress = .lane .a .up :: List.replicate 55 (.lane .a .up)
    ∧ (List.replicate 55 (EgressRecord.lane .a .up)).length = 55
    ∧ recordComplete (oneWord 9 0) = true ∧ recordKind (oneWord 9 0) = none
    ∧ recordComplete [0x02020000] = false
    ∧ ({ member with rpu.revoke := [1] }).rpu.revoke ≠ [] ∧ member.rpu.revoke = []
    ∧ posted.tku.postOrder = [7] ∧ posted.buffer 7 = .posted .g0 [] true false false ∧ posted.profile = some (site .s0 41)
    ∧ member.tku.postOrder = []
    ∧ (queued member 55).evp.egress.length < 56 ∧ 56 ≤ (queued member 56).evp.egress.length
    ∧ member.evp.roleMarks.get .g0 = none ∧ (queued member 63).evp.egress.length < 64 ∧ 64 ≤ (queued member 64).evp.egress.length
    ∧ ({ queued member 63 with evp.peerMarks.s2 := true }).evp.peerMarks.get .s2 = true := by decide +kernel

/-- A ROLE mark by which the group left ACTIVE and came back tells the engine to abandon its takeover batches (R180). -/
theorem test_coalesced :
    ((((queued member 64).toPart.roleNotice .g0 .active .standby .preempted).roleNotice .g0 .claiming .active .claimWon).evp.roleMarks.g0)
      = some { cause := .claimWon, leftActive := true, skipped := true } := by decide +kernel

/-- A record in hand of a known kind, answered, taken without an answer, and taken with a notice. -/
theorem test_meets_EgressPlacesAreGivenInOrder_record :
    recordKind (oneWord 8 0) = some .status ∧ IngressKind.status ≠ .release ∧ recordComplete (oneWord 8 0) = true
    ∧ ((after .statusRecord (asked member (oneWord 8 0))).evp.egress.drop 55).map (·.isAnswer) = [true]
    ∧ (after .aliveRecord (asked member (oneWord 5 9))).evp.egress.length = 55
    ∧ (after .aliveRecord (asked member (oneWord 5 9))).rpu.revoke = []
    ∧ (after .aliveRecord (asked posted (oneWord 5 9))).tku.postOrder = [7]
    ∧ (after .aliveRecord (asked { member with rpu.revoke := [1] } (oneWord 5 9))).rpu.revoke = [1]
    ∧ ((after .handoverRecord (asked (holding (entry .sent)) (oneWord 7 0))).evp.egress.drop 55).map (·.isAnswer) = [false]
    ∧ (buffer7 (.posted .g0 [buffered true] false true false)).releaseRoom (oneWord 6 7) = true := by decide +kernel

/-- An ALIGN of member 1. -/
def align1 : Reception := from1 .align 0 alignPattern

/-- `member` with lane B in TRAINING. -/
def trainingB : State :=
  { member with mbi.lanes.b := { LaneRec.reset with state := .training, alignMark := some 5000, alignDue := true } }

theorem test_meets_AlignBringsALaneUp :
    member.hears .a align1 .s1 .align
    ∧ trainingB.evp.resetHeld = false ∧ trainingB.takesFrom .b align1 = true ∧ (trainingB.lane .b).state = .training
    ∧ (trainingB.laneUsable .a && trainingB.quietFor .a) = false ∧ trainingB.mbi.inHand = none ∧ Station.s1 ≠ trainingB.self
    ∧ (trainingB.peer .s1).state = .live ∧ (trainingB.peer .s1).incarnation = some 7
    ∧ judge align1 = .valid { sender := .s1, incarnation := 7, content := .align } :=
  ⟨(heard_new 7 (by decide +kernel)).1, by decide +kernel⟩

/-- A member fenced with NO_QUORUM alone. -/
def unquorate : State := { fenced with rcu.fence := { FenceCauses.none with noQuorum := true } }

theorem test_meets_HeaderStepFollowsThePeerRecord :
    (member.evp.resetHeld = false ∧ member.takesFrom .a align1 = true ∧ member.laneUsable .a = true
      ∧ (member.laneUsable .b && member.quietFor .b) = false ∧ Station.s1 ≠ member.self
      ∧ judge align1 = .valid { sender := .s1, incarnation := 7, content := .align })
    ∧ (({ member with ppu.peers.s1 := .reset }).peer .s1).state = .absent
    ∧ (({ member with ppu.peers.s1.state := .lost }).peer .s1).state = .lost
    ∧ (({ member with ppu.peers.s1.incarnation := some 6 }).peer .s1).incarnation ≠ some 7
    ∧ member.isMember = true ∧ Station.s1 = member.otherMember ∧ (member.peer .s1).state = .live
    ∧ (holding (entry .sent)).listsAgree = true ∧ (member.group .g0).claim = none
    ∧ ((group0 (claiming .vacant)).group .g0).claim.map (·.kind) = some .vacant
    ∧ (group0 (claiming .vacant)).standing .g0 ≠ some .active
    ∧ (unquorate.peer .s1).state = .absent ∧ unquorate.rcu.fence.any = true ∧ unquorate.role .g0 = .fenced
    ∧ (unquorate.group .g0).claim = none ∧ (after (.alignFrame .a align1) unquorate).rcu.fence.any = false
    ∧ (after (.alignFrame .a align1) unquorate).standing .g0 = none := by decide +kernel

theorem test_meets_OwnNumberSetsTheLatch :
    (member.evp.resetHeld = false ∧ member.takesFrom .b (rx .align .s0 9 0 alignPattern) = true ∧ member.laneUsable .b = true
      ∧ (member.laneUsable .a && member.quietFor .a) = false
      ∧ judge (rx .align .s0 9 0 alignPattern) = .valid { sender := .s0, incarnation := 9, content := .align }
      ∧ Station.s0 = member.self ∧ member.isMember = true ∧ member.rcu.fence.any = false ∧ member.role .g0 ≠ .dormant
      ∧ member.role .g0 ≠ .fenced ∧ member.walksOk = true)
    ∧ (member.takesFrom .b (rx .claim .s0 9 1 [0, 1, 5]) = true
      ∧ judge (rx .claim .s0 9 1 [0, 1, 5])
          = .valid { sender := .s0, incarnation := 9, content := .claim { group := .g0, kind := .vacant, number := 1, merit := 5 } })
    ∧ fenced.rcu.fence.any = true ∧ fenced.isMember = true
    ∧ witness.takesFrom .a (rx .align .s2 9 0 alignPattern) = true
    ∧ judge (rx .align .s2 9 0 alignPattern) = .valid { sender := .s2, incarnation := 9, content := .align }
    ∧ Station.s2 = witness.self ∧ witness.isWitness = true := by decide +kernel

/-- `s`, which expects the copy of `r` of member 1 on lane B. -/
def expecting (s : State) (r : Reception) : State := { s with mbi.expect.s1 := some (.b, r.bytes) }

/-- The premises of `hears`, gathered. -/
theorem heard {s : State} {l : Lane} {r : Reception} {y : Station} {c : Content} (inc : BitVec 16)
    (h : s.evp.resetHeld = false ∧ s.takesFrom l r = true ∧ s.laneUsable l = true
      ∧ (s.laneUsable l.other && s.quietFor l.other) = false ∧ y ≠ s.self ∧ (s.peer y).state = .live
      ∧ judge r = .valid { sender := y, incarnation := inc, content := c } ∧ (s.peer y).incarnation = some inc) :
    s.hears l r y c :=
  ⟨h.1, h.2.1, h.2.2.1, h.2.2.2.1, h.2.2.2.2.1, h.2.2.2.2.2.1, inc, h.2.2.2.2.2.2.1, h.2.2.2.2.2.2.2⟩

/-- A PULSE of member 1 that announces two roles, with its merits. -/
def pulse1 (r0 r1 : Role) (m0 m1 : Byte) : Reception := from1 .pulse 0 [roleCode r0, roleCode r1, m0, m1, 3, 0]

/-- Its content. -/
def pulseContent (r0 r1 : Role) (m0 m1 : Byte) : PulseContent :=
  { roles := ⟨some r0, some r1⟩, merits := ⟨some m0, some m1⟩, heardLanes := 3, witnessConfigured := false }

/-- A CLAIM of member 1 for group 0, and its content. -/
def claim1 (kind : ClaimKind) (merit : Byte) : Reception := from1 .claim 9 [0, claimKindCode kind, merit]

/-- Its content. -/
def claimContent (kind : ClaimKind) (merit : Byte) : ClaimFrame := { group := .g0, kind := kind, number := 9, merit := merit }

/-- An ANSWER for the claim number 4 of member 0, and its content. -/
def answer (y : Station) (inc : BitVec 16) (v : Verdict) : Reception := rx .answer y inc 4 [0, 0, verdictCode v, 0]

/-- Its content. -/
def answerContent (v : Verdict) : AnswerFrame := { group := .g0, claimer := .s0, verdict := v, number := 4, incomplete := false }

theorem test_meets_SomeFramesEndWithTheHeaderStep_copies :
    (expecting member (pulse1 .standby .active 1 2)).isCopy .s1 .b (pulse1 .standby .active 1 2).bytes = true
    ∧ (expecting member (pulse1 .standby .active 1 2)).hears .b (pulse1 .standby .active 1 2) .s1
        (.pulse (pulseContent .standby .active 1 2))
    ∧ (expecting member (claim1 .vacant 5)).isCopy .s1 .b (claim1 .vacant 5).bytes = true
    ∧ (expecting member (claim1 .vacant 5)).hears .b (claim1 .vacant 5) .s1 (.claim (claimContent .vacant 5))
    ∧ (expecting member (answer .s1 7 .contest)).isCopy .s1 .b (answer .s1 7 .contest).bytes = true
    ∧ (expecting member (answer .s1 7 .contest)).hears .b (answer .s1 7 .contest) .s1 (.answer (answerContent .contest))
    ∧ (expecting member (from1 .yield 0 [1])).isCopy .s1 .b (from1 .yield 0 [1]).bytes = true
    ∧ (expecting member (from1 .yield 0 [1])).hears .b (from1 .yield 0 [1]) .s1 (.yield .g1) := by
  refine ⟨by decide +kernel, heard 7 (by decide +kernel), by decide +kernel, heard 7 (by decide +kernel), by decide +kernel,
    heard 7 (by decide +kernel), by decide +kernel, heard 7 (by decide +kernel)⟩

/-- The wire record of slot `slot` with the content of `entry`, as member 1 sends it. -/
def wire (slot : Slot) : WireRecord :=
  { slot := slot, version := 1, age := 30,
    session := { group := .g0, key := key, nat := none, tcp := some tcp, lifetime := 7200 } }

/-- A DELTA of it. -/
def delta1 (slot : Slot) : Reception := from1 .delta 0 (wireBytes slot 30 (entry .clean))

/-- A DROP or RECEIPT of one pair. -/
def pair1 (kind : FrameKind) (slot : Slot) : Reception := from1 kind 0 (pairBytes (slot, 1))

theorem test_meets_SomeFramesEndWithTheHeaderStep_witness :
    witness.isWitness = true
    ∧ witness.hearsNew .a (delta1 2500) .s1 (.delta [wire 2500])
    ∧ witness.hearsNew .a (pair1 .drop 65535) .s1 (.drop [(65535, 1)])
    ∧ witness.hearsNew .a (pair1 .receipt 0) .s1 (.receipt [(0, 1)])
    ∧ witness.hearsNew .a (from1 .yield 0 [0]) .s1 (.yield .g0)
    ∧ witness.hearsNew .a (answer .s1 7 .contest) .s1 (.answer (answerContent .contest)) :=
  ⟨by decide +kernel, heard_new 7 (by decide +kernel), heard_new 7 (by decide +kernel), heard_new 7 (by decide +kernel),
    heard_new 7 (by decide +kernel), heard_new 7 (by decide +kernel)⟩

theorem test_meets_PulseIsWrittenWhole :
    member.hearsNew .a (pulse1 .fenced .fenced 0 255) .s1 (.pulse (pulseContent .fenced .fenced 0 255))
    ∧ member.isMember = true ∧ Station.s1 = member.otherMember
    ∧ witness.hearsNew .a (pulse1 .listen .listen 0 0) .s1 (.pulse (pulseContent .listen .listen 0 0))
    ∧ witness.isWitness = true :=
  ⟨heard_new 7 (by decide +kernel), by decide +kernel, by decide +kernel, heard_new 7 (by decide +kernel), by decide +kernel⟩

/-- An open claim of member 0, whose merit is 200 and margin 20, and a PULSE of member 1. -/
theorem test_meets_PulseIsWrittenWhole_claims :
    (group0 (claiming .vacant)).hearsNew .a (pulse1 .yielding .active 1 2) (group0 (claiming .vacant)).otherMember
        (.pulse (pulseContent .yielding .active 1 2))
    ∧ (group0 (claiming .handed)).hearsNew .a (pulse1 .active .active 181 2) .s1 (.pulse (pulseContent .active .active 181 2))
    ∧ (group0 (claiming .vacant)).hearsNew .a (pulse1 .active .active 180 2) .s1 (.pulse (pulseContent .active .active 180 2))
    ∧ (group0 (claiming .preempt)).hearsNew .a (pulse1 .active .active 180 2) .s1 (.pulse (pulseContent .active .active 180 2))
    ∧ (group0 (claiming .vacant)).profile = some (site .s0 41) ∧ (group0 (claiming .vacant)).role .g0 = .claiming
    ∧ (site .s0 41).preempt.get .g0 = true ∧ (site .s0 41).margin.toNat = 20
    ∧ ((group0 (claiming .vacant)).ppu.merits.get .g0).toNat = 180 + 20 ∧ (claiming .vacant).holdOff = none
    ∧ [ClaimKind.vacant, .preempt, .handed].map (fun k => (claiming k).claim.map (·.kind)) = [some .vacant, some .preempt, some .handed] := by
  refine ⟨heard_new 7 (by decide +kernel), heard_new 7 (by decide +kernel), heard_new 7 (by decide +kernel),
    heard_new 7 (by decide +kernel), ?_⟩
  decide +kernel

/-- Member 0 wins with an equal merit, and loses against one more than its sent merit. -/
theorem test_meets_SplitBrainLoserLeavesActive :
    member.hearsNew .a (pulse1 .active .active 0 200) member.otherMember (.pulse (pulseContent .active .active 0 200))
    ∧ member.profile = some (site .s0 41) ∧ (site .s0 41).station ≠ .s2 ∧ member.role .g0 = .active
    ∧ (pulseContent .active .active 0 200).roles.get .g0 = some .active
    ∧ (pulseContent .active .active 0 200).merits.get .g0 = some 0 ∧ member.rcu.pulseSent = true
    ∧ (member.group .g0).sentMerit.toNat = 0 ∧ ¬ member.otherMember.toNat < member.self.toNat
    ∧ member.hearsNew .a (pulse1 .active .active 1 200) member.otherMember (.pulse (pulseContent .active .active 1 200))
    ∧ (member.group .g0).sentMerit.toNat < (1 : BitVec 8).toNat := by
  refine ⟨heard_new 7 (by decide +kernel), ?_, ?_, ?_, ?_, ?_, ?_, ?_, ?_, heard_new 7 (by decide +kernel), ?_⟩ <;> decide +kernel

/-- `member` with no room in its Receipt Queue for slot 2,500. -/
def fullReceipts : State :=
  { member with rpu.receipts := (List.range 256).map fun n =>
      { slot := BitVec.ofNat 16 n, version := 1, join := 5000, transmitting := false, waited := false } }

/-- An entry of a UDP session. -/
def udpEntry : Entry := { entry .clean with key.protocol := 17, tcp := none }

/-- Its wire record at a slot. -/
def udpWire (slot : Slot) : WireRecord :=
  { slot := slot, version := 1, age := 30,
    session := { group := .g0, key := udpEntry.key, nat := none, tcp := none, lifetime := 7200 } }

/-- Two records in one frame: the second finds no room. -/
theorem test_meets_DeltaRecordMeetsTheEntry_of_two :
    fullReceipts.hearsNew .a (from1 .delta 0 (wireBytes 255 30 udpEntry ++ wireBytes 2500 30 udpEntry))
        fullReceipts.otherMember (.delta [udpWire 255, udpWire 2500])
    ∧ fullReceipts.hearsNew .a (from1 .drop 0 (pairBytes (255, 1) ++ pairBytes (2500, 1))) fullReceipts.otherMember
        (.drop [(255, 1), (2500, 1)])
    ∧ fullReceipts.hearsNew .a (from1 .receipt 0 (pairBytes (255, 1) ++ pairBytes (2500, 1))) fullReceipts.otherMember
        (.receipt [(255, 1), (2500, 1)])
    ∧ fullReceipts.receiptRoom 255 = true ∧ ((fullReceipts.toPart.applyWire (udpWire 255)).makeReceipt 255 1).receiptRoom 2500 = false :=
  ⟨heard_new 7 (by decide +kernel), heard_new 7 (by decide +kernel), heard_new 7 (by decide +kernel), by decide +kernel⟩

theorem test_meets_DeltaRecordMeetsTheEntry :
    member.isMember = true ∧ member.hearsNew .a (delta1 2500) member.otherMember (.delta [wire 2500])
    ∧ fullReceipts.hearsNew .a (delta1 2500) fullReceipts.otherMember (.delta [wire 2500])
    ∧ fullReceipts.receiptRoom 2500 = false ∧ fullReceipts.receiptRoom 255 = true
    ∧ member.entry 2500 = none ∧ (holding (entry .shadow)).entry 2500 = some (entry .shadow)
    ∧ (holding (entry .sent)).entry 2500 = some (entry .sent) ∧ (entry .sent).state.live = true
    ∧ (entry .sent).key = (wire 2500).session.key ∧ ((holding (entry .sent)).role .g0).serving = true
    ∧ ((group0 (inRole .standby)).role .g0).serving = false
    ∧ (entry .dropWait).state.live = false ∧ regionOf (wire 2500).slot = member.self
    ∧ ({ entry .clean with key.zone := 4 }).key ≠ (wire 2500).session.key ∧ regionOf (wire 32768).slot ≠ member.self
    ∧ ({ entry .clean with installed := true }).installed = true ∧ member.revokeRoom 32768 = true
    ∧ ({ member with rpu.revoke := (List.range 1024).map (BitVec.ofNat 16 ·) }).revokeRoom 32768 = false := by
  refine ⟨?_, heard_new 7 (by decide +kernel), heard_new 7 (by decide +kernel), ?_⟩ <;> decide +kernel

theorem test_meets_RecordsOfADeltaActOnTheirSlot :
    (holding (entry .clean)).entry 2500 = some (entry .clean) ∧ (entry .clean).state.live = true
    ∧ (holding (entry .clean)).listsAgree = true
    ∧ (fullReceipts.rpu.receipts.map fun r => r.slot).contains 255 = true
    ∧ (∀ r ∈ fullReceipts.rpu.receipts, r.slot ≠ 256)
    ∧ fullReceipts.receiptRoom 255 = true ∧ fullReceipts.rpu.receipts.length ≤ 256
    ∧ (fullReceipts.rpu.receipts.map fun r => r.slot).Nodup := by decide +kernel

theorem test_meets_DropFreesAShadow :
    member.isMember = true ∧ fullReceipts.hearsNew .a (pair1 .drop 2500) fullReceipts.otherMember (.drop [(2500, 1)])
    ∧ fullReceipts.receiptRoom 2500 = false
    ∧ (holding (entry .shadow)).hearsNew .a (pair1 .drop 2500) .s1 (.drop [(2500, 1)])
    ∧ (holding (entry .shadow)).receiptRoom 2500 = true
    ∧ (holding (entry .shadow)).entry 2500 = some (entry .shadow) ∧ (entry .shadow).state = .shadow
    ∧ (holding (entry .clean)).entry 2500 = some (entry .clean) ∧ (entry .clean).state ≠ .shadow := by
  refine ⟨?_, heard_new 7 (by decide +kernel), ?_, heard_new 7 (by decide +kernel), ?_⟩ <;> decide +kernel

theorem test_meets_ReceiptEndsTheMatchingRecord :
    (holding (entry .sent)).hearsNew .a (pair1 .receipt 2500) (holding (entry .sent)).otherMember (.receipt [(2500, 1)])
    ∧ member.isMember = true
    ∧ ((holding (entry .sent)).flightOf 2500).map (fun r => (r.version, r.transmitting)) = some (1, false)
    ∧ (holding (entry .sent)).entry 2500 = some (entry .sent) ∧ (entry .sent).state = .sent
    ∧ ((holding (entry .changed)).flightOf 2500).map (fun r => (r.version, r.transmitting)) = some (1, false)
    ∧ ((holding (entry .dropSent)).flightOf 2500).map (fun r => (r.version, r.transmitting)) = some (1, false)
    ∧ ((holding (entry .dropWait)).flightOf 2500).map (fun r => (r.version, r.transmitting)) = some (1, false)
    ∧ (holding (entry .clean)).flightOf 2500 = none := by
  refine ⟨heard_new 7 (by decide +kernel), ?_⟩; decide +kernel

/-- The margin is 20 and member 0's merit 200: a claim of 220 is conceded, one of 219 is not. -/
theorem test_meets_ClaimsMeetTheGroupsRole :
    member.isMember = true
    ∧ member.hearsNew .a (claim1 .preempt 219) member.otherMember (.claim (claimContent .preempt 219))
    ∧ member.role .g0 = .active ∧ (219 : BitVec 8).toNat < (member.ppu.merits.get .g0).toNat + member.margin
    ∧ member.hearsNew .a (claim1 .preempt 220) member.otherMember (.claim (claimContent .preempt 220))
    ∧ (member.group .g0).contested ≠ some 9 ∧ (member.ppu.merits.get .g0).toNat + member.margin ≤ (220 : BitVec 8).toNat
    ∧ (holding (entry .sent)).outstanding .g0 ≠ 0 ∧ (holding (entry .sent)).walkIsWaiting .g1 = false
    ∧ (group0 { inRole .active with contested := some 9 }).role .g0 = .active
    ∧ member.hearsNew .a (claim1 .handed 0) member.otherMember (.claim (claimContent .handed 0))
    ∧ (group0 (inRole .yielding)).role .g0 = .yielding
    ∧ (group0 (inRole .yielding)).hearsNew .a (claim1 .vacant 0) .s1 (.claim (claimContent .vacant 0))
    ∧ (group0 (claiming .vacant)).role .g0 = .claiming ∧ (group0 (claiming .vacant)).hearsNew .a (claim1 .vacant 201) .s1
        (.claim (claimContent .vacant 201))
    ∧ (member.ppu.merits.get .g0).toNat < (201 : BitVec 8).toNat
    ∧ ((group0 (claiming .vacant)).group .g0).claim.map (·.kind) = some .vacant
    ∧ ¬ (member.ppu.merits.get .g0).toNat < (200 : BitVec 8).toNat
    ∧ (group0 (inRole .listen)).role .g0 = .listen := by
  refine ⟨?_, heard_new 7 (by decide +kernel), ?_, ?_, heard_new 7 (by decide +kernel), ?_, ?_, ?_, ?_, ?_,
    heard_new 7 (by decide +kernel), ?_, heard_new 7 (by decide +kernel), ?_, heard_new 7 (by decide +kernel), ?_⟩ <;> decide +kernel

/-- The remaining roles, and a PREEMPT claim with nothing outstanding. -/
theorem test_meets_ClaimsMeetTheGroupsRole_others :
    (group0 (inRole .standby)).hearsNew .a (claim1 .handed 0) .s1 (.claim (claimContent .handed 0))
    ∧ ({ group0 (inRole .fenced) with rcu.fence := fenced.rcu.fence }).hearsNew .a (claim1 .preempt 255) .s1
        (.claim (claimContent .preempt 255))
    ∧ (group0 (inRole .standby)).role .g0 = .standby ∧ ((group0 (inRole .standby)).group .g0).rebirthMark = false
    ∧ ((group0 { inRole .standby with rebirthMark := true }).group .g0).rebirthMark = true
    ∧ (group0 (inRole .fenced)).role .g0 = .fenced ∧ member.outstanding .g0 = 0 := by
  refine ⟨heard_new 7 (by decide +kernel), heard_new 7 (by decide +kernel), ?_⟩
  decide +kernel

/-- The witness with a grant of group 0 to member 1 under number 9, and that answer remembered. -/
def granted : State :=
  { witness with wtu.votes.g0 :=
      { grant := some { grantee := .s1, tick := 4500, number := 9 }, memory0 := some { number := 1, vote := false },
        memory1 := some { number := 9, vote := true } } }

/-- A rebirth of member 1 on the witness, its first contact and its return (R150). -/
theorem test_meets_HeaderStepFollowsThePeerRecord_witness :
    granted.evp.resetHeld = false ∧ granted.isWitness = true ∧ granted.takesFrom .a align1 = true ∧ granted.laneUsable .a = true
    ∧ (granted.laneUsable .b && granted.quietFor .b) = false ∧ Station.s1 ≠ granted.self
    ∧ judge align1 = .valid { sender := .s1, incarnation := 7, content := .align }
    ∧ (({ granted with ppu.peers.s1.incarnation := some 6 }).peer .s1).incarnation ≠ some 7
    ∧ (({ granted with ppu.peers.s1 := .reset }).peer .s1).state = .absent
    ∧ (({ granted with ppu.peers.s1.state := .lost }).peer .s1).state = .lost
    ∧ ((after (.alignFrame .a align1) { granted with ppu.peers.s1.incarnation := some 6 }).vote .g0)
        = { granted.vote .g0 with memory1 := none } := by decide +kernel

theorem test_meets_WitnessVotesAndGrantsLapse :
    witness.isWitness = true ∧ witness.hearsNew .a (claim1 .vacant 5) .s1 (.claim (claimContent .vacant 5))
    ∧ ({ witness with rcu.latch := true }).rcu.latch = true ∧ witness.rcu.latch = false
    ∧ (claimContent .handed 5).kind ≠ .vacant ∧ granted.hearsNew .a (claim1 .vacant 5) .s1 (.claim (claimContent .vacant 5))
    ∧ (granted.vote .g0).memory .s1 = some { number := 9, vote := true }
    ∧ (granted.vote .g0).memory .s0 = some { number := 1, vote := false } ∧ (witness.vote .g0).memory .s1 = none
    ∧ (granted.vote .g0).grant = some { grantee := .s1, tick := 4500, number := 9 }
    ∧ (({ witness with ppu.peers.s0.roles.g0 := some .yielding }).peer .s0).roles.get .g0 = some .yielding
    ∧ (witness.vote .g0).grant = none ∧ (witness.peer .s0).roles.get .g0 = some .standby
    ∧ granted.evp.resetHeld = false ∧ granted.holdDown ≤ (granted.clock - 4500).toNat
    ∧ (({ granted with clock := 4999 }).clock - 4500).toNat < granted.holdDown := by
  refine ⟨?_, heard_new 7 (by decide +kernel), ?_, ?_, ?_, heard_new 7 (by decide +kernel), ?_⟩ <;> decide +kernel

theorem test_meets_AnswerReachesItsClaim :
    member.isMember = true ∧ member.hearsNew .a (answer .s2 3 .vote) .s2 (.answer (answerContent .vote))
    ∧ (member.group .g0).claim = none
    ∧ (group0 (claiming .vacant)).hearsNew .a (answer .s2 3 .vote) .s2 (.answer (answerContent .vote))
    ∧ ((group0 (claiming .vacant)).group .g0).claim.map (fun c => (c.kind, c.number)) = some (.vacant, 4)
    ∧ (answerContent .vote).claimer = member.self ∧ (answerContent .vote).number = 4
    ∧ (group0 (claiming .vacant)).hearsNew .a (answer .s2 3 .deny) .s2 (.answer (answerContent .deny))
    ∧ (group0 (claiming .preempt)).hearsNew .a (answer .s1 7 .contest) (group0 (claiming .preempt)).otherMember
        (.answer (answerContent .contest))
    ∧ ((group0 (claiming .preempt)).group .g0).claim.map (·.kind) = some .preempt
    ∧ ({ group0 (claiming .preempt) with ppu.peers.s1.roles.g0 := some .yielding }).hearsNew .a (answer .s1 7 .concede) .s1
        (.answer (answerContent .concede))
    ∧ ({ group0 (claiming .preempt) with ppu.peers.s1.roles.g0 := some .yielding }).standing .g0 = some .yielding
    ∧ (group0 (claiming .handed)).hearsNew .a (answer .s1 7 .contest) .s1 (.answer (answerContent .contest))
    ∧ ((group0 (claiming .handed)).group .g0).claim.map (·.kind) = some .handed
    ∧ (group0 (claiming .preempt)).standing .g0 = some .standby
    ∧ (group0 (claiming .handed)).hearsNew .a (answer .s2 3 .deny) .s2 (.answer (answerContent .deny)) := by
  refine ⟨?_, heard_new 3 (by decide +kernel), ?_, heard_new 3 (by decide +kernel), ?_, ?_, ?_, heard_new 3 (by decide +kernel),
    heard_new 7 (by decide +kernel), ?_, heard_new 7 (by decide +kernel), ?_, heard_new 7 (by decide +kernel), ?_, ?_,
    heard_new 3 (by decide +kernel)⟩ <;> decide +kernel

theorem test_meets_YieldMakesAHandedClaim :
    member.isMember = true ∧ member.hearsNew .a (from1 .yield 0 [1]) .s1 (.yield .g1) ∧ member.role .g1 = .standby
    ∧ member.ppu.merits.get .g1 ≠ 0 ∧ (group0 (inRole .listen)).role .g0 = .listen
    ∧ member.hearsNew .a (from1 .yield 0 [0]) .s1 (.yield .g0) ∧ member.role .g0 ≠ .standby ∧ member.role .g0 ≠ .listen
    ∧ ({ member with ppu.merits := .both 0 }).ppu.merits.get .g1 = 0 := by
  refine ⟨?_, heard_new 7 (by decide +kernel), ?_, ?_, ?_, heard_new 7 (by decide +kernel), ?_⟩ <;> decide +kernel

/-- A reception of twelve bytes that is no frame. -/
def noise : Reception := { bytes := List.replicate 12 0, oddBits := 0, duringOwn := false }

theorem test_meets_BadFramesAreCounted :
    member.evp.resetHeld = false ∧ fresh.takesFrom .a noise = false ∧ (trainingB.lane .b).state = .training
    ∧ member.takesFrom .a noise = true ∧ judge noise = .bad ∧ (member.lane .a).state = .up ∧ (member.lane .a).badCount < 7
    ∧ (({ member with mbi.lanes.a.badCount := 6 }).lane .a).badCount < 7
    ∧ 7 ≤ (({ member with mbi.lanes.a.badCount := 7 }).lane .a).badCount
    ∧ (({ member with mbi.lanes.a.state := .degraded }).lane .a).state = .degraded
    ∧ ({ member with mbi.lanes.a.state := .degraded }).takesFrom .a noise = true := by decide +kernel

/-- `member` with a role frame to send. -/
def answering : State := { member with mbi.answers := [answerContent .contest] }

/-- `s` on lane B alone. -/
def laneBOnly (s : State) : State := { s with mbi.lanes.a := { LaneRec.reset with state := .down }, mbi.workingLane := some .b }

/-- `member` with two lanes in TRAINING and an ALIGN due on lane B alone. -/
def training : State :=
  { member with
    mbi.lanes := ⟨{ LaneRec.reset with state := .training, alignMark := some 5010 },
                  { LaneRec.reset with state := .training, alignMark := some 5010, alignDue := true }⟩
    mbi.workingLane := none }

/-- A frame in hand in a phase, after `n` collisions. -/
def hand (frame : TxFrame) (phase : TxPhase) (n : Nat) : InHand :=
  { frame := frame, bytes := [], lane := .a, secondCopy := false, completedAny := false, collisions := n, phase := phase,
    stale := false }

/-- `s` with it in hand. -/
def sending (s : State) (h : InHand) : State := { s with mbi.inHand := some h }

/-- A PULSE and a DROP are the first valid frames of lane B, with an ALIGN in hand for it, and with lane A quiet. -/
theorem test_meets_AlignBringsALaneUp_any_kind :
    trainingB.takesFrom .b (pulse1 .standby .active 1 2) = true ∧ trainingB.evp.resetHeld = false
    ∧ judge (pulse1 .standby .active 1 2)
        = .valid { sender := .s1, incarnation := 7, content := .pulse (pulseContent .standby .active 1 2) }
    ∧ (trainingB.lane .b).state = .training ∧ (trainingB.laneUsable .a && trainingB.quietFor .a) = false
    ∧ trainingB.evp.laneMarks.get .b = false ∧ trainingB.evp.egress.length < 64
    ∧ (sending trainingB { hand (.align .b) .waitIdle 0 with lane := .b }).takesFrom .b (pair1 .drop 2500) = true
    ∧ judge (pair1 .drop 2500) = .valid { sender := .s1, incarnation := 7, content := .drop [(2500, 1)] }
    ∧ (after (.pulseFrame .b (pulse1 .standby .active 1 2)) trainingB).mbi.workingLane = some .a
    ∧ ((after (.dropFrame .b (pair1 .drop 2500)) trainingB).rpu.receipts.map (·.slot)) = [2500] := by decide +kernel

/-- A pair that has been noted as having waited 2 ms, at a tick from which its own limit is far ahead (R72). -/
def noted : Receipt := { slot := 1, version := 1, join := 5000 - 2147483650, transmitting := false, waited := true }

/-- The 2 ms of R72 stay met: the oldest pairs are sent long after, once what held them back is gone. -/
theorem test_receipt_wait_stays_met :
    ((after .transmitterTake { member with rpu.receipts := [noted] }).mbi.inHand.map (·.frame)) = some .receipt
    ∧ ((after .receiptDelay (sending { member with rpu.receipts := [{ noted with join := 4998, waited := false }] }
        (hand .delta .sending 0))).rpu.receipts.map (·.waited)) = [true]
    ∧ (after .receiptDelay { member with rpu.receipts := [{ noted with join := 4999, waited := false }] }).mbi.inHand = none := by
  decide +kernel

theorem test_meets_TransmitterTakesInOrder :
    member.evp.resetHeld = false ∧ (after .transmitterTake answering).mbi.inHand ≠ none ∧ answering.mbi.inHand = none
    ∧ answering.someLaneUsable = true ∧ answering.mbi.answers = [answerContent .contest]
    ∧ (laneBOnly answering).laneUsable .a = false ∧ (laneBOnly answering).someLaneUsable = true
    ∧ ({ member with mbi.claims := [claimContent .vacant 5] }).mbi.answers = []
    ∧ ({ member with mbi.yields := [.g0] }).mbi.claims = []
    ∧ ({ member with mbi.pulseDue := true }).mayReceipt = false ∧ member.mbi.yields = []
    ∧ trainingB.someLaneUsable = true ∧ trainingB.mbi.pulseDue = false ∧ trainingB.mayReceipt = false
    ∧ trainingB.mayBuild = false ∧ (trainingB.lane .b).alignDue = true ∧ (trainingB.lane .a).state ≠ .training
    ∧ training.someLaneUsable = false ∧ training.mbi.workingLane = none ∧ (training.lane .b).alignDue = true
    ∧ (training.lane .a).alignDue = false
    ∧ ({ member with rpu.receipts := [{ slot := 1, version := 1, join := 4998, transmitting := false, waited := false }] }).mayReceipt = true
    ∧ (({ member with rpu.receipts := [{ slot := 1, version := 1, join := 4998, transmitting := false, waited := false }] }).reached
        ((4998 : Tick) + 2)) = true
    ∧ 32 ≤ (({ fullReceipts with rpu.receipts := fullReceipts.rpu.receipts.take 32 }).rpu.receipts.filter
        fun (r : Receipt) => !r.transmitting).length
    ∧ member.isMember = true ∧ member.otherLive = true ∧ member.mbi.workingLane = some .a
    ∧ ({ member with rpu.receipts := [noted] }).mayReceipt = true ∧ member.reached (noted.join + 2) = false
    ∧ noted.waited = true := by decide +kernel

/-- The heard-lanes byte (R107, R183): both lanes of both members at a witness; at member 0 lane B alone, its last-heard tick 499 ms old
and that of lane A 500; nothing of a LOST record. -/
theorem test_heard_lanes :
    witness.heardByte = 15
    ∧ ({ member with ppu.peers.s1.heardOn := ⟨some 4500, some 4501⟩ }).heardByte = 8
    ∧ ({ member with ppu.peers.s1.state := .lost }).heardByte = 0 := by decide +kernel

theorem test_meets_SessionFrameTakesTheHeadRun :
    ((holding (entry .dirty)).evp.resetHeld = false ∧ (holding (entry .dirty)).mbi.inHand = none
      ∧ (holding (entry .dirty)).mbi.answers = [] ∧ (holding (entry .dirty)).mbi.claims = []
      ∧ (holding (entry .dirty)).mbi.yields = [] ∧ (holding (entry .dirty)).mayReceipt = false
      ∧ (holding (entry .dirty)).mbi.pulseDue = false ∧ (holding (entry .dirty)).isMember = true
      ∧ (holding (entry .dirty)).otherLive = true ∧ (holding (entry .dirty)).rpu.pauseFlag = false
      ∧ (holding (entry .dirty)).rpu.inFlight.length < 2048 ∧ (holding (entry .dirty)).mbi.workingLane = some .a
      ∧ (holding (entry .dirty)).rpu.sendList = 2500 :: [] ∧ (holding (entry .dirty)).entry 2500 = some (entry .dirty)
      ∧ (holding (entry .dirty)).listsAgree = true)
    ∧ (holding (entry .dropDue)).rpu.sendList = 2500 :: [] ∧ (holding (entry .dropDue)).entry 2500 = some (entry .dropDue)
    ∧ (holding (entry .dropDue)).listsAgree = true := by decide +kernel

/-- An IPv6 TCP entry of group 1 with NAT, its age offset at its end. -/
def wideEntry : Entry :=
  { entry .dirty with
    group := .g1
    key := { addrs := .v6 1 2, protocol := 6, ports := some { src := 1234, dst := 80 }, zone := 15 }
    nat := some { kind := .destination, port := some 3000, addr := .v6 3 }
    tcp := some wideTcp
    ageOffset := 4294967295 }

/-- A DELTA record of 64 bytes and one of 100, each written out from R184 (an entry 250 ms old, and one at the end of the age). -/
theorem test_wire_records :
    (holding { entry .dirty with nat := some { kind := .source, port := some 3000, addr := .v4 0xC0A80001 } }).wireOf 2500
      = [0x09, 0xC4, 0, 1, 0x60, 6, 3, 2, 0, 0, 0, 250, 0x1C, 0x20, 0, 64, 10, 0, 0, 1, 10, 0, 0, 2, 0x04, 0xD2, 0, 80,
         1, 1, 0x0B, 0xB8, 0xC0, 0xA8, 0, 1, 0x77, 0x35, 0x94, 0, 0, 0, 0, 77, 0, 0x10, 0, 0, 0x01, 0xF4,
         0, 0, 0x0B, 0xB8, 0, 0, 0, 88, 0, 0, 0xFF, 0xFF, 0, 2]
    ∧ (holding wideEntry).wireOf 2500
      = [0x09, 0xC4, 0, 1, 0xE1, 6, 15, 3, 0xFF, 0xFF, 0xFF, 0xFF, 0x1C, 0x20, 0, 100]
        ++ List.replicate 15 0 ++ [1] ++ List.replicate 15 0 ++ [2] ++ [0x04, 0xD2, 0, 80, 2, 1, 0x0B, 0xB8]
        ++ List.replicate 15 0 ++ [3] ++ [0x11, 0x11, 0x11, 0x11, 0x22, 0x22, 0x22, 0x22, 0x33, 0x33, 0x33, 0x33, 0x44, 0x44,
          0x55, 0x55, 0x66, 0x66, 0x77, 0x77, 0x88, 0x88, 0x99, 0x99, 0xAA, 0xAA, 0xBB, 0xBB] := by decide +kernel

/-- Entries that meet the clauses on a record's fields: IPv4 and IPv6, with and without ports, NAT and TCP part. -/
theorem test_meets_SessionFrameTakesTheHeadRun_fields :
    (holding wideEntry).entry 2500 = some wideEntry ∧ wideEntry.ok = true ∧ wideEntry.wireSize = 100
    ∧ (entry .dirty).ok = true ∧ (entry .dirty).wireSize = 56
    ∧ ({ entry .dirty with key := { key with protocol := 47, ports := none }, tcp := none }).ok = true
    ∧ (holding (entry .dropDue)).dropPairOf 2500 = [0x09, 0xC4, 0, 1] := by decide +kernel

theorem test_meets_CollisionsDrawABackoff :
    (sending member (hand .delta .waitIdle 0)).mbi.inHand = some (hand .delta .waitIdle 0) ∧ member.evp.resetHeld = false
    ∧ (hand .delta .waitIdle 0).phase = .waitIdle ∧ (hand .delta .sending 6).phase = .sending
    ∧ (hand .delta .sending 6).collisions < 7 ∧ (hand .delta (.backoff 15) 6).phase = .backoff 15 := by decide +kernel

/-- `member` with slot 2,500 in a DELTA or DROP that is being sent, its eighth collision to come. -/
def framing (frame : TxFrame) (state : EntryState) : State :=
  { holding (entry state) with
    rpu.inFlight := [{ slot := 2500, version := 1, completion := none, transmitting := true }]
    mbi.inHand := some (hand frame .sending 7) }

theorem test_meets_SessionFrameEnds :
    (framing .delta .sent).evp.resetHeld = false ∧ (framing .delta .sent).mbi.inHand = some (hand .delta .sending 7)
    ∧ (hand .delta .sending 7).secondCopy = false ∧ (hand .delta .sending 7).completedAny = false
    ∧ (hand .delta .sending 7).phase = .sending ∧ (hand .delta .sending 7).collisions = 7
    ∧ (framing .delta .sent).rpu.recallMark = false ∧ (framing .delta .sent).listsAgree = true
    ∧ (framing .drop .dropSent).mbi.inHand = some (hand .drop .sending 7) ∧ (framing .drop .dropSent).listsAgree = true
    ∧ ({ framing .delta .sent with rpu.recallMark := true, smt.refreshWalk := some 2500 }).listsAgree = true := by
  decide +kernel

/-- A claim of group 0 not yet sent. -/
def unsent (kind : ClaimKind) : GroupRec :=
  { claiming kind with claim := (claiming kind).claim.map fun c => { c with txTick := none, deadline := none } }

/-- Its CLAIM. -/
def ownClaim : ClaimFrame := { group := .g0, kind := .vacant, number := 4, merit := 200 }

theorem test_meets_RoleFrameEndsWithItsLastCopy :
    member.evp.resetHeld = false
    ∧ (sending member { hand (.claim ownClaim) .sending 0 with secondCopy := true }).laneUsable .b = true
    ∧ (sending (group0 (unsent .vacant)) (hand (.claim ownClaim) .sending 7)).mbi.inHand
        = some (hand (.claim ownClaim) .sending 7)
    ∧ ((group0 (unsent .vacant)).group .g0).claim.map (fun c => (c.number, c.activeVerdict)) = some (ownClaim.number, none)
    ∧ (hand (.claim ownClaim) .sending 7).collisions = 7 ∧ (hand (.claim ownClaim) .sending 7).completedAny = false
    ∧ (hand (.pulse (.both 9)) .sending 0).phase = .sending ∧ member.isMember = true
    ∧ (hand (.align .b) .sending 0).phase = .sending ∧ (hand (.answer (answerContent .contest)) .sending 7).stale = false
    ∧ member.isWitness = false ∧ (hand (.yield .g1) .sending 7).stale = false ∧ (hand .receipt .sending 7).phase = .sending := by
  decide +kernel

/-- A PREEMPT claim of group 0, not yet sent, that holds a CONCEDE. -/
def concededClaim : Option ClaimRecord :=
  (unsent .preempt).claim.map fun c =>
    { c with activeVerdict := some { verdict := .concede, tick := 4990, incomplete := false } }

/-- The other ends: a first copy abandoned, a second after a first that completed, a stale frame, a claim that is gone or conceded, the
answers of a witness, and a lane that faults. -/
theorem test_meets_RoleFrameEndsWithItsLastCopy_others :
    ({ hand (.yield .g1) .sending 7 with secondCopy := true }).collisions = 7
    ∧ (sending member { hand (.yield .g1) .sending 7 with secondCopy := true }).laneUsable Lane.a.other = true
    ∧ ({ hand (.claim ownClaim) .sending 7 with completedAny := true }).completedAny = true
    ∧ ({ hand (.yield .g1) .sending 7 with stale := true }).stale = true
    ∧ ({ hand (.answer (answerContent .contest)) .sending 7 with stale := true }).stale = true
    ∧ (member.group .g0).claim = none
    ∧ concededClaim.map (fun c => (c.number, c.kind, c.activeVerdict.isSome)) = some (4, .preempt, true)
    ∧ witness.isWitness = true ∧ witness.rcu.latch = false ∧ ({ witness with rcu.latch := true }).rcu.latch = true
    ∧ (granted.vote .g0).grant = some { grantee := .s1, tick := 4500, number := 9 } ∧ (witness.vote .g0).grant = none
    ∧ witness.mbi.answers = []
    ∧ ({ witness with mbi.answers := [answerContent .deny] }).mbi.answers = [answerContent .deny]
    ∧ member.laneUsable .a = true ∧ LineReport.openCircuit ≠ .noFault := by
  decide +kernel

/-- Twice the pulse interval is 200 ms; the attempts that stand are 6 and 7. -/
theorem test_meets_ReplicationTimersRunOut :
    (holding { entry .sent with attempts := 6 }).evp.resetHeld = false
    ∧ (holding { entry .sent with attempts := 6 }).rpu.inFlight
        = [] ++ { slot := 2500, version := 1, completion := some 4900, transmitting := false } :: []
    ∧ min 500 (max 20 (2 * member.pulseInterval)) ≤ (({ member with clock := 5100 }).clock - 4900).toNat
    ∧ (holding { entry .sent with attempts := 6 }).entry 2500 = some { entry .sent with attempts := 6 }
    ∧ (holding { entry .sent with attempts := 6 }).listsAgree = true
    ∧ (holding { entry .sent with attempts := 7 }).entry 2500 = some { entry .sent with attempts := 7 }
    ∧ (holding { entry .sent with attempts := 7 }).listsAgree = true
    ∧ (∀ x ∈ (holding (entry .sent)).rpu.inFlight, (holding (entry .sent)).receiptRanOut x = false)
    ∧ ({ member with rpu.pauseTimer := some 5000 }).reached 5000 = true ∧ member.reached 5001 = false
    ∧ member.rpu.pauseTimer = none
    ∧ (({ member with rpu.receipts := [{ slot := 1, version := 1, join := 4998, transmitting := false, waited := false }] }).rpu.receipts.filter
        fun (r : Receipt) => !r.transmitting) = { slot := 1, version := 1, join := 4998, transmitting := false, waited := false } :: []
    ∧ member.reached ((4998 : Tick) + 2) = true ∧ member.reached ((4999 : Tick) + 2) = false
    ∧ (sending member (hand .delta .sending 0)).mbi.inHand ≠ none ∧ noted.join ≠ member.clock
    ∧ (({ member with rpu.receipts := [noted] }).rpu.receipts.map Receipt.slot).Nodup
    ∧ (after .statusRecord (give .statusRecord { member with rpu.receipts := [noted] } (oneWord 8 0))).rpu.receipts = [noted] := by
  decide +kernel

/-- `member` with a witness configured. -/
def witnessed : State := { member with profile := some { site .s0 41 with witnessConfigured := true } }

theorem test_meets_SilenceLosesThePeer :
    member.evp.resetHeld = false ∧ (member.peer .s1).state = .live ∧ (member.peer .s1).lastHeard = some 4990
    ∧ ({ member with clock := 5490 }).holdDown ≤ (({ member with clock := 5490 }).clock - 4990).toNat
    ∧ (({ member with clock := 5489 }).clock - 4990).toNat < ({ member with clock := 5489 }).holdDown
    ∧ member.isMember = true ∧ Station.s1 = member.otherMember ∧ member.listsAgree = true
    ∧ (group0 (inRole .yielding)).role .g0 = .yielding
    ∧ witnessed.witnessConfigured = true ∧ witnessed.rcu.fence.any = false
    ∧ member.walksOk = true ∧ (holding (entry .sent)).listsAgree = true ∧ (holding (entry .sent)).walksOk = true
    ∧ ({ witnessed with ppu.peers.s1.state := .lost }).peerLive .s1 = false
    ∧ (({ witnessed with ppu.peers.s1.state := .lost }).peer .s2).state = .live ∧ witnessed.role .g0 = .active
    ∧ (group0 (claiming .preempt)).role .g0 = .claiming ∧ member.witnessConfigured = false
    ∧ (claiming .preempt).claim.map (fun c => (c.kind, c.activeVerdict)) = some (.preempt, none)
    ∧ concededClaim.map (fun c => c.activeVerdict.map (·.verdict)) = some (some .concede)
    ∧ (claiming .handed).claim.map (·.kind) = some .handed
    ∧ (group0 (claiming .preempt)).ppu.merits.get .g0 ≠ 0 ∧ (claiming .preempt).holdOff = none
    ∧ ({ claiming .preempt with holdOff := some 6000 }).holdOff ≠ none := by
  decide +kernel

theorem test_meets_HealthMeritsAndEngineFences :
    member.evp.resetHeld = false ∧ ({ member with clock := 5100 }).ppu.epoch = some 5100
    ∧ ({ member with clock := 5100 }).reached 5100 = true ∧ ({ member with clock := 5099 }).reached 5100 = false
    ∧ member.profile = some (site .s0 41) ∧ (site .s0 41).station ≠ .s2
    ∧ ({ member with ppu.pendingHealth := 0 }).ppu.pendingHealth = 0 ∧ member.rcu.fence.any = false
    ∧ member.role .g0 ≠ .dormant ∧ member.role .g0 ≠ .fenced
    ∧ witness.profile = some (site .s2 3) ∧ witness.ppu.epoch = some 5050 ∧ ({ witness with clock := 5050 }).reached 5050 = true
    ∧ member.rcu.silence = some 5300 ∧ ({ member with clock := 5300 }).reached 5300 = true
    ∧ ({ member with clock := 5299 }).reached 5300 = false ∧ member.role .g0 = .active
    ∧ ({ fenced with rcu.silence := some 5000 }).rcu.fence.any = true := by decide +kernel

/-- Member 0 with no other member heard and group 0 in a role. -/
def alone (r : GroupRec) : State := { group0 r with ppu.peers := .all .reset }

theorem test_meets_GroupTimersLeadToClaims :
    member.evp.resetHeld = false
    ∧ (alone { inRole .listen with listen := some 5000 }).role .g0 = .listen
    ∧ ((alone { inRole .listen with listen := some 5000 }).group .g0).listen = some 5000 ∧ member.reached 5000 = true
    ∧ (alone { inRole .listen with listen := some 5000 }).vacantConditions .g0 = true
    ∧ (alone { inRole .listen with listen := some 5000, holdOff := some 5400 }).vacantConditions .g0 = false
    ∧ member.reached 5001 = false
    ∧ (group0 { inRole .standby with vacancy := .running 5000 }).role .g0 = .standby
    ∧ ((group0 { inRole .standby with vacancy := .running 5000 }).group .g0).vacancy = .running 5000
    ∧ (group0 { inRole .standby with vacancy := .running 5000 }).vacancyHolds .g0 = true
    ∧ (group0 { inRole .standby with vacancy := .running 5000 }).merit .g0 ≠ 0
    ∧ (group0 { inRole .standby with vacancy := .running 5000 }).heldOff .g0 = false ∧ member.witnessConfigured = false
    ∧ ({ group0 { inRole .standby with vacancy := .running 5000 } with ppu.merits := .both 0 }).merit .g0 = 0
    ∧ ({ group0 { inRole .standby with vacancy := .running 5000 } with ppu.merits := .both 0 }).vacancyHolds .g0 = true
    ∧ ((alone { inRole .standby with holdOff := some 5000 }).group .g0).holdOff = some 5000
    ∧ (alone { inRole .standby with holdOff := some 5000 }).otherLive = false
    ∧ (alone { inRole .standby with holdOff := some 5000 }).merit .g0 ≠ 0 := by decide +kernel

theorem test_meets_ClaimMeetsItsDeadline :
    member.evp.resetHeld = false ∧ (group0 (claiming .vacant)).role .g0 = .claiming
    ∧ ((group0 (claiming .vacant)).group .g0).claim.map (fun c => (c.txTick, c.deadline, c.held, c.kind))
        = some (some 4990, some 5000, false, .vacant)
    ∧ member.witnessConfigured = false ∧ member.reached 5000 = true ∧ member.smt.forget.get .g0 = none
    ∧ ({ group0 (claiming .handed) with smt.forget.g0 := some 65536 }).smt.forget.get .g0 ≠ none
    ∧ ((group0 (claiming .preempt)).group .g0).claim.map (fun c => (c.kind, c.activeVerdict)) = some (.preempt, none)
    ∧ ({ group0 (claiming .vacant) with clock := 4999 }).reached 5000 = false
    ∧ ((group0 (claiming .vacant)).group .g0).deadTimer = none
    ∧ (quorumLost (claiming .handed)).isMember = true ∧ (quorumLost (claiming .handed)).witnessConfigured = true
    ∧ (quorumLost (claiming .handed)).otherLive = false ∧ (quorumLost (claiming .handed)).peerLive .s2 = false
    ∧ (quorumLost (claiming .handed)).rcu.fence.any = false ∧ (quorumLost (claiming .handed)).smt.forget.get .g0 = none := by
  decide +kernel

/-- A YIELDING group whose handover timer runs out at tick 5,000. -/
def yielding (pending : PendingFrame) : GroupRec :=
  { inRole .yielding with handover := some 5000, pendingFrame := some pending }

theorem test_meets_YieldingEndsWithItsFrame :
    member.evp.resetHeld = false ∧ (group0 (yielding (.concede .s1 9))).role .g0 = .yielding
    ∧ ((group0 (yielding (.concede .s1 9))).group .g0).handover = some 5000 ∧ member.reached 5000 = true
    ∧ (group0 (yielding (.concede .s1 9))).otherLive = true
    ∧ (group0 (yielding (.concede .s1 9))).standing .g0 = some .standby
    ∧ ((group0 (yielding (.concede .s1 9))).group .g0).pendingFrame = some (.concede .s1 9)
    ∧ ((group0 (yielding .yield)).group .g0).pendingFrame = some .yield
    ∧ member.evp.roleMarks.get .g0 = none ∧ member.evp.egress.length < 64
    ∧ ({ group0 (yielding .yield) with clock := 4999 }).reached 5000 = false
    ∧ (group0 (yielding .yield)).outstanding .g0 = 0 ∧ member.role .g0 ≠ .yielding
    ∧ ({ group0 { yielding .yield with peerClaiming := true } with clock := 4999 }).standing .g0 = some .claiming := by
  decide +kernel

/-- The margin is 20: member 1's merit of 180 admits a PREEMPT claim of member 0, whose merit is 200. -/
theorem test_meets_EvaluationOfAGroup :
    (member.role .g0 ≠ .listen ∧ member.role .g0 ≠ .standby)
    ∧ (group0 (inRole .listen)).role .g0 = .listen ∧ (group0 (inRole .listen)).standing .g0 = some .standby
    ∧ (group0 { inRole .listen with peerClaiming := true }).standing .g0 = some .claiming ∧ member.otherLive = true
    ∧ (alone (inRole .standby)).role .g0 = .standby ∧ (alone (inRole .standby)).otherLive = false
    ∧ (alone (inRole .standby)).merit .g0 ≠ 0 ∧ (alone (inRole .standby)).heldOff .g0 = false
    ∧ (alone (inRole .standby)).witnessConfigured = false
    ∧ ((group0 { inRole .standby with rebirthMark := true }).group .g0).rebirthMark = true
    ∧ (witnessed.peerLive .s2 = true ∧ witnessed.witnessHearsNeither = true)
    ∧ member.profile = some (site .s0 41) ∧ (site .s0 41).preempt.get .g0 = true
    ∧ ({ group0 (inRole .standby) with
          ppu.peers.s1 := heardPeer 7 (some .active) none (some 180) none }).standing .g0 = some .active
    ∧ ({ group0 (inRole .listen) with
          ppu.peers.s1 := heardPeer 7 (some .active) none (some 180) none }).standing .g0 = some .active
    ∧ member.merit .g0 < (181 : BitVec 8).toNat + (site .s0 41).margin.toNat ∧ member.heldOff .g0 = false
    ∧ (180 : BitVec 8).toNat + (site .s0 41).margin.toNat ≤ member.merit .g0
    ∧ ({ alone (inRole .standby) with ppu.merits := .both 0 }).merit .g0 = 0 ∧ member.margin ≠ 0 := by decide +kernel

/-- `s` with lane A's record replaced. -/
def laneA (s : State) (r : LaneRec) : State := { s with mbi.lanes.a := r }

theorem test_meets_LanesFollowTimersAndFaults :
    member.evp.resetHeld = false ∧ (member.lane .a).windowEnd = some 5500 ∧ ({ member with clock := 5500 }).reached 5500 = true
    ∧ (member.lane .a).state = .up
    ∧ ((laneA member { laneUp with state := .degraded, badCount := 2 }).lane .a).badCount = 2
    ∧ ((laneA member { laneUp with state := .degraded, badCount := 1 }).lane .a).badCount < 2
    ∧ (laneA member { laneUp with lastValid := some 4500 }).laneUsable .a = true
    ∧ member.holdDown ≤ (member.clock - 4500).toNat ∧ (laneUp).quietElapsed = false
    ∧ (member.lane Lane.a.other).lastValid = some 4990 ∧ (member.clock - 4990).toNat < member.holdDown
    ∧ (({ laneA member { laneUp with lastValid := some 4500 } with mbi.lanes.b.lastValid := none }).lane .b).lastValid = none
    ∧ ((laneA member { LaneRec.reset with state := .down, retrain := some 5000 }).lane .a).retrain = some 5000
    ∧ member.reached 5000 = true ∧ (trainingB.lane .b).alignMark = some 5000
    ∧ (LineReport.openCircuit ≠ .noFault ∧ LineReport.shortCircuit ≠ .noFault)
    ∧ (fresh.lane .a).state = .off ∧ (member.lane .a).state ≠ .off ∧ (member.lane .a).state ≠ .down
    ∧ ((laneA member { LaneRec.reset with state := .down }).lane .a).retrain = none
    ∧ member.evp.laneMarks.get .a = false ∧ member.evp.egress.length < 64
    ∧ (laneA member { laneUp with lastValid := some 4500 }).takesFrom .b (pulse1 .standby .active 1 2) = true
    ∧ judge (pulse1 .standby .active 1 2)
        = .valid { sender := .s1, incarnation := 7, content := .pulse (pulseContent .standby .active 1 2) }
    ∧ (laneA member { laneUp with lastValid := some 4500 }).laneUsable .b = true
    ∧ (laneA member { laneUp with lastValid := some 4500 }).quietFor .a = true := by decide +kernel

theorem test_meets_RefreshWalkMakesEntriesDue :
    ({ holding (entry .clean) with smt.refreshWalk := some 2500 }).evp.resetHeld = false
    ∧ ({ holding (entry .clean) with smt.refreshWalk := some 2500 }).smt.refreshWalk = some 2500
    ∧ ({ holding (entry .clean) with smt.refreshWalk := some 2500 }).listsAgree = true
    ∧ ({ member with smt.refreshWalk := some 65535 }).smt.refreshWalk = some 65535
    ∧ ({ member with smt.refreshWalk := some 65536 }).smt.refreshWalk = some 65536 := by decide +kernel

/-- `s` with group 0's walk at a slot. -/
def walkAt (s : State) (cursor : Nat) : State := { s with smt.takeover.g0 := some { cursor := cursor, wait := .none } }

/-- Eight POSTED buffers, so that none is FREE. -/
def noBuffer (s : State) : State := { s with tku.buffers := Vector.replicate 8 (.posted .g1 [] false true false) }

/-- Buffers 6 and 7 are POSTED and emitted, and buffer 7 holds slot 2,500, where group 0's walk waits for its release. -/
def heldAt2500 (table : List (Slot × Entry)) : State :=
  { member with
    smt.table := table
    smt.takeover.g0 := some { cursor := 2500, wait := .release }
    tku.buffers :=
      (member.tku.buffers.set 6 (.posted .g0 [] false true false)).set 7 (.posted .g0 [buffered false] false true true) }

/-- The premises of RELEASE and HANDOVER beside a walk that waits for the release of another buffer, and of its own. -/
theorem test_meets_ReleaseAndHandover_held :
    (asked (heldAt2500 []) (oneWord 6 6)).hasRecord (some .release) (oneWord 6 6) []
    ∧ (asked (heldAt2500 []) (oneWord 6 7)).hasRecord (some .release) (oneWord 6 7) []
    ∧ (heldAt2500 []).buffer 6 = .posted .g0 [] false true false
    ∧ (heldAt2500 []).buffer 7 = .posted .g0 [buffered false] false true true
    ∧ (heldAt2500 []).releaseRoom (oneWord 6 7) = true ∧ (heldAt2500 []).bufferSlotsOk = true
    ∧ (asked (heldAt2500 []) (oneWord 7 0)).hasRecord (some .handover) (oneWord 7 0) []
    ∧ ({ heldAt2500 [] with
          smt.takeover := ⟨some { cursor := 9, wait := .none }, some { cursor := 2500, wait := .release }⟩
          tku.buffers := (heldAt2500 []).tku.buffers.set 5 (.filling .g0 []) }).fillingBuffer .g0 = some 5 := by
  unfold State.hasRecord; decide +kernel

/-- A walk that reaches a held slot waits for that buffer, whatever becomes of the entry and whichever other buffer becomes FREE (R162). -/
theorem test_held_slot :
    (after (.takeoverWalkVisit .g0) { heldAt2500 [(2500, entry .shadow)] with
        smt.takeover.g0 := some { cursor := 2500, wait := .none } }).smt.takeover.g0 = some { cursor := 2500, wait := .release }
    ∧ after (.takeoverWalkVisit .g0) (heldAt2500 []) = heldAt2500 []
    ∧ (after .releaseRecord (inHand (heldAt2500 []) (oneWord 6 6))).smt.takeover.g0 = some { cursor := 2500, wait := .release }
    ∧ (after .releaseRecord (inHand (heldAt2500 []) (oneWord 6 7))).smt.takeover.g0 = some { cursor := 2501, wait := .none } := by
  decide +kernel

/-- A walk that lacks a buffer waits too, also where a DROP then frees the entry, until one becomes FREE (R154, R162). -/
theorem test_lacking_buffer :
    (after (.takeoverWalkVisit .g0) (walkAt (noBuffer (holding (entry .shadow))) 2500)).smt.takeover.g0
        = some { cursor := 2500, wait := .buffer }
    ∧ (after (.takeoverWalkVisit .g0) (waiting (noBuffer member) .g0)).smt.takeover.g0 = some { cursor := 2500, wait := .buffer } := by
  decide +kernel

theorem test_meets_TakeoverWalkVisitsAndEnds :
    (walkAt (holding (entry .shadow)) 2500).evp.resetHeld = false
    ∧ (walkAt (holding (entry .shadow)) 2500).smt.takeover.get .g0 = some { cursor := 2500, wait := .none }
    ∧ (walkAt (holding (entry .shadow)) 2500).listsAgree = true
    ∧ (heldAt2500 []).smt.takeover.get .g0 = some { cursor := 2500, wait := .release }
    ∧ (heldAt2500 []).slotBuffered 2500 = true ∧ (heldAt2500 []).entry 2500 = none ∧ (heldAt2500 []).listsAgree = true
    ∧ (heldAt2500 []).walkIsWaiting .g1 = false
    ∧ (walkAt member 65535).entry 65535 = none ∧ (walkAt (holding (entry .dropDue)) 2500).entry 2500 = some (entry .dropDue)
    ∧ (entry .dropDue).state.closing = true
    ∧ (walkAt (holding (entry .shadow)) 2500).entry 2500 = some (entry .shadow) ∧ (entry .shadow).group = .g0
    ∧ (entry .shadow).installed = false ∧ (entry .shadow).state.closing = false
    ∧ (buffer7 (.posted .g0 [buffered false] false true true)).slotBuffered 2500 = true
    ∧ (noBuffer (holding (entry .shadow))).freeBuffer = none ∧ (noBuffer (holding (entry .shadow))).fillingBuffer .g0 = none
    ∧ (holding (entry .shadow)).expired (entry .shadow) = false ∧ (holding (entry .shadow)).slotBuffered 2500 = false
    ∧ member.expired { entry .shadow with lifetime := 0 } = true
    ∧ (buffer7 (.filling .g0 (List.replicate 15 { buffered false with record.slot := 1 }))).fillingBuffer .g0 = some 7
    ∧ (buffer7 (.filling .g0 (List.replicate 15 { buffered false with record.slot := 1 }))).slotBuffered 2500 = false
    ∧ (buffer7 (.filling .g0 [{ buffered false with record.slot := 1 }])).fillingBuffer .g0 = some 7
    ∧ (holding (entry .shadow)).fillingBuffer .g0 = none ∧ (holding (entry .shadow)).freeBuffer = some 0
    ∧ (walkAt member 65536).smt.takeover.get .g0 = some { cursor := 65536, wait := .none }
    ∧ (noBuffer member).freeBuffers < (waiting (waiting member .g0) .g1).freeBuffers
    ∧ member.walkIsWaiting .g0 = false := by decide +kernel

theorem test_meets_ExpiryAndTakeoverWindows :
    (entry .shadow).tcp = some tcp ∧ member.profile = some (site .s0 41) ∧ member.expired (entry .shadow) = false
    ∧ (entry .shadow).lifetime.toNat * 1000 - 250 = 7199750 ∧ udpEntry.tcp = none := by decide +kernel

/-- R95 chooses anew when a lane or the other member's report of it changes; here the report names lane B alone. -/
theorem test_meets_LanesAndWorkingLaneAgree :
    Instr.resetEnd ≠ .reset ∧ member.profile ≠ none
    ∧ ((after (.lineFault .a .openCircuit) member).lane .a).state ≠ (member.lane .a).state
    ∧ (member.peer .s1).heardLanes = some 0 ∧ member.isMember = true
    ∧ ((after (.pulseFrame .a (from1 .pulse 0 [2, 4, 100, 200, 2, 0])) member).peer .s1).heardLanes = some 2
    ∧ (after (.pulseFrame .a (from1 .pulse 0 [2, 4, 100, 200, 2, 0])) member).mbi.workingLane = some .b
    ∧ (after (.pulseFrame .a (from1 .pulse 0 [2, 4, 100, 200, 0, 0])) member).mbi.workingLane = some .a
    ∧ ((after (.alignFrame .a align1) { member with ppu.peers.s1.state := .lost }).peer .s1).state = .live := by decide +kernel

/-- `member` meets every invariant together, and it takes a step. -/
theorem test_meets_the_invariants_together :
    member.fpFollows = true ∧ member.bounded = true ∧ member.tableOk = true ∧ member.entriesOk = true ∧ member.clearing = true
    ∧ member.listsAgree = true ∧ member.groupsOk = true ∧ member.fencesOk = true ∧ member.marksOk = true
    ∧ member.buffersOk = true ∧ member.bufferSlotsOk = true ∧ member.lanesOk = true ∧ member.workingLaneOk = true
    ∧ member.smt.clearWalk = none ∧ member.walksOk = true := by decide +kernel

/-- So do states with entries, buffers and marks. -/
theorem test_meets_the_invariants :
    (holding (entry .sent)).bounded = true ∧ (holding (entry .sent)).tableOk = true
    ∧ (holding (entry .sent)).entriesOk = true ∧ State.reset.clearing = true ∧ (holding (entry .sent)).listsAgree = true
    ∧ fenced.groupsOk = true ∧ fenced.fencesOk = true ∧ (holding { entry .clean with installed := true }).marksOk = true
    ∧ posted.buffersOk = true ∧ (buffer7 (.posted .g0 [buffered true] false true false)).bufferSlotsOk = true
    ∧ training.lanesOk = true ∧ training.workingLaneOk = true ∧ (walkAt member 2500).walksOk = true
    ∧ ({ walkAt member 2500 with tku.buffers := member.tku.buffers.set 7 (.filling .g0 [buffered false]) }).walksOk = true
    ∧ Instr.batchRecord ≠ .reset ∧ (after .batchRecord posted).tku.postOrder = posted.tku.postOrder.drop 1 := by decide +kernel

theorem test_meets_the_invariants_with_a_step : step member = .next { member with clock := 5001 } := by
  have h : member.dueExpiry = none := by decide +kernel
  show State.idle member = _
  unfold State.idle
  rw [h]
  rfl

/-- FP0 rises at the deadline of a claim, and at the end of the forget walk that held it. -/
theorem test_meets_OnlyAClaimAtItsDeadlineRaisesFp :
    ((group0 (claiming .vacant)).group .g0).fp = false
    ∧ ((after (.deadTimeExpiry .g0) (group0 (claiming .vacant))).group .g0).fp = true
    ∧ ((after (.forgetWalkEnd .g0)
        { group0 heldClaim with smt.forget.g0 := some 65536 }).group .g0).fp = true
    ∧ (group0 heldClaim).groupsOk = true := by decide +kernel

theorem test_meets_EveryExitFromActiveDropsFp :
    member.groupsOk = true ∧ member.fencesOk = true ∧ member.role .g0 = .active
    ∧ (after .engineSilenceTimerExpiry { member with clock := 5300 }).role .g0 ≠ .active
    ∧ Instr.engineSilenceTimerExpiry ≠ .reset := by decide +kernel

/-- The notice of an exit from ACTIVE: placed behind what the FIFO held, or coalesced into a mark that is there, or for want of a
place (R180). -/
theorem test_exit_notice :
    (let s : State := { member with clock := 5300, evp.egress := List.replicate 55 (.lane .a .up) }
     (after .engineSilenceTimerExpiry s).evp.egress
      = s.evp.egress ++ [.role .g0 .fenced .fence false, .role .g1 .fenced .fence false])
    ∧ (after .engineSilenceTimerExpiry
        { member with clock := 5300, evp.egress := List.replicate 64 (.lane .a .up) }).evp.roleMarks.get .g0
      = some { cause := .fence, leftActive := true, skipped := false }
    ∧ (after .engineSilenceTimerExpiry
        { member with clock := 5300, evp.roleMarks.g0 := some { cause := .claimWon, leftActive := false, skipped := false } }).evp.roleMarks.g0
      = some { cause := .fence, leftActive := true, skipped := false } := by decide +kernel

theorem test_meets_AGrantNeverChangesHands :
    (granted.vote .g0).grant = some { grantee := .s1, tick := 4500, number := 9 } ∧ Station.s1 ≠ .s2
    ∧ ((after (.grantLapse .g0) granted).vote .g0).grant = none
    ∧ ((after (.claimFrame .a (rx .claim .s0 41 1 [0, 1, 200])) granted).vote .g0).grant
        = some { grantee := .s1, tick := 4500, number := 9 } := by decide +kernel

theorem test_meets_ConfigurationAndLatchLastUntilReset :
    Instr.statusRecord ≠ .reset ∧ member.profile = some (site .s0 41) ∧ ({ member with rcu.latch := true }).rcu.latch = true
    ∧ (after .statusRecord { member with rcu.latch := true }).rcu.latch = true := by decide +kernel

end Sys2Proof.Tests
end

/-! ### What keeps the session table and the lists that follow from it -/

namespace Sys2Proof.Machine

/-! #### The table as a set of slots with entries -/

/-- What a slot reads is listed. -/
theorem mem_of_tableGet {table : List (Slot × Entry)} {slot : Slot} {e : Entry} (h : tableGet table slot = some e) :
    (slot, e) ∈ table := by
  induction table with
  | nil => simp [tableGet] at h
  | cons x rest ih =>
    obtain ⟨k, y⟩ := x
    by_cases hk : k = slot
    · simp_all [tableGet]
    · exact List.mem_cons_of_mem _ (ih (by simpa [tableGet, hk] using h))

/-- In canonical form every listed entry is the one its slot reads. -/
theorem tableGet_of_mem {table : List (Slot × Entry)} (hwf : tableWf table = true) {slot : Slot} {e : Entry}
    (h : (slot, e) ∈ table) : tableGet table slot = some e := by
  rw [tableWf_iff] at hwf
  induction table with
  | nil => simp at h
  | cons x rest ih =>
    obtain ⟨k, y⟩ := x
    obtain ⟨hlt, hrest⟩ := List.pairwise_cons.1 hwf
    rcases List.mem_cons.1 h with h | h
    · cases h; simp [tableGet]
    · have : k ≠ slot := fun hk => by
        have := hlt _ (List.mem_map.2 ⟨_, h, rfl⟩)
        simp [hk] at this
      simpa [tableGet, this] using ih hrest h

/-- What is listed after a write: the new entry, or one that was listed before under another slot. -/
theorem mem_tableSet {table : List (Slot × Entry)} {slot : Slot} {e : Option Entry} {x : Slot × Entry}
    (h : x ∈ tableSet table slot e) : (∃ v, e = some v ∧ x = (slot, v)) ∨ x ∈ table := by
  cases e with
  | none => exact .inr (List.mem_of_mem_filter h)
  | some v => exact (mem_tableInsert h).imp_left fun hx => ⟨v, rfl, hx⟩

theorem Part.mem_putEntry {p : Part} {slot : Slot} {e : Option Entry} {x : Slot × Entry}
    (h : x ∈ (p.putEntry slot e).smt.table) : (∃ v, e = some v ∧ x = (slot, v)) ∨ x ∈ p.smt.table := mem_tableSet h

/-- A write of an entry that holds what its state says keeps that of every entry. -/
theorem all_ok_tableSet {table : List (Slot × Entry)} {slot : Slot} {e : Option Entry}
    (h : (table.all fun x => x.2.ok) = true) (he : ∀ v, e = some v → v.ok = true) :
    ((tableSet table slot e).all fun x => x.2.ok) = true :=
  List.all_eq_true.2 fun x hx => by
    rcases mem_tableSet hx with ⟨v, hv, rfl⟩ | hx
    · exact he v hv
    · exact List.all_eq_true.1 h x hx

theorem Part.entriesOk_putEntry {p : Part} (slot : Slot) (e : Option Entry) (h : p.entriesOk = true)
    (he : ∀ v, e = some v → v.ok = true) : (p.putEntry slot e).entriesOk = true := all_ok_tableSet h he

theorem Part.entriesOk_setTable {p : Part} (slot : Slot) (e : Option Entry) (h : p.entriesOk = true)
    (he : ∀ v, e = some v → v.ok = true) : (p.setTable slot e).entriesOk = true := all_ok_tableSet h he

/-- Every entry that is read holds what its state says. -/
theorem Part.ok_of_entry {p : Part} (h : p.entriesOk = true) {slot : Slot} {e : Entry} (he : p.entry slot = some e) :
    e.ok = true :=
  List.all_eq_true.1 h _ (mem_of_tableGet he)

/-! #### What an entry holds by its state -/

/-- What an entry holds whatever its state (R3 to R6). -/
def Entry.contentOk (e : Entry) : Bool :=
  decide (e.lifetime ≠ 0) && decide (e.tcp.isSome = decide (e.key.protocol.toNat = 6))
    && decide (e.key.ports.isSome = protocolHasPorts e.key.protocol) && e.nat.all (natSuits e.key)

/-- `Entry.ok`, as its content and what each state adds (R10 to R12). -/
theorem Entry.ok_iff (e : Entry) :
    e.ok = true ↔ e.contentOk = true ∧ e.attempts ≤ 8
      ∧ (e.state.owned = true ∨ (e.peerMayHold = true ∧ e.attempts = 0 ∧ e.installed = false))
      ∧ (e.state.closing = false ∨ e.installed = false) := by
  simp only [Entry.ok, Entry.contentOk, Bool.and_eq_true, Bool.or_eq_true, decide_eq_true_eq, Bool.not_eq_true']
  tauto

theorem Entry.contentOk_of_ok {e : Entry} (h : e.ok = true) : e.contentOk = true := ((Entry.ok_iff e).1 h).1

theorem Entry.closing_of_ok {e : Entry} (h : e.ok = true) : e.state.closing = false ∨ e.installed = false :=
  ((Entry.ok_iff e).1 h).2.2.2

theorem Entry.attempts_of_ok {e : Entry} (h : e.ok = true) : e.attempts ≤ 8 := ((Entry.ok_iff e).1 h).2.1

/-- What an owned entry must hold. -/
theorem Entry.ok_owned {e : Entry} (hc : e.contentOk = true) (ha : e.attempts ≤ 8) (ho : e.state.owned = true)
    (hi : e.state.closing = false ∨ e.installed = false) : e.ok = true :=
  (Entry.ok_iff e).2 ⟨hc, ha, .inl ho, hi⟩

/-- An entry that becomes, or stays, owned with its content unchanged. -/
theorem Entry.ok_restate {e v : Entry} (h : e.ok = true) (hc : v.contentOk = e.contentOk)
    (ha : v.attempts = 0 ∨ v.attempts = e.attempts) (ho : v.state.owned = true)
    (hi : v.state.closing = false ∨ v.installed = false) : v.ok = true :=
  Entry.ok_owned (hc ▸ Entry.contentOk_of_ok h) (by have := Entry.attempts_of_ok h; omega) ho hi

/-! #### The lists, slot by slot -/

/-- The slot of an entry is on the Send List (R37). -/
def awaits (e : Option Entry) : Bool := (e.map (·.state.awaitsSend)).getD false

/-- The slot of an entry has an In-Flight record (R44). -/
def flies (e : Option Entry) : Bool := (e.map (·.state.inFlight)).getD false

@[simp] theorem awaits_none : awaits none = false := rfl
@[simp] theorem awaits_some (e : Entry) : awaits (some e) = e.state.awaitsSend := rfl
@[simp] theorem flies_none : flies none = false := rfl
@[simp] theorem flies_some (e : Entry) : flies (some e) = e.state.inFlight := rfl

/-- No state has its slot on both lists. -/
theorem EntryState.not_inFlight_of_awaitsSend {st : EntryState} (h : st.awaitsSend = true) : st.inFlight = false := by
  cases st <;> simp_all [EntryState.awaitsSend, EntryState.inFlight]

/-- `Part.listsAgree` read slot by slot (R37, R44). -/
structure Part.Agree (p : Part) : Prop where
  send : ∀ x, x ∈ p.rpu.sendList ↔ awaits (p.entry x) = true
  flight : ∀ x, x ∈ p.rpu.inFlight.map (·.slot) ↔ flies (p.entry x) = true
  sendNodup : p.rpu.sendList.Nodup
  flightNodup : (p.rpu.inFlight.map (·.slot)).Nodup

theorem Part.agree_of_listsAgree {p : Part} (h : p.listsAgree = true) : p.Agree := by
  simp only [Part.listsAgree, Bool.and_eq_true, decide_eq_true_eq, List.all_eq_true] at h
  obtain ⟨⟨⟨⟨htable, hsend⟩, hflight⟩, hsd⟩, hfd⟩ := h
  refine ⟨fun x => ?_, fun x => ?_, hsd, hfd⟩
  · cases he : p.entry x with
    | none => simpa using fun hx => by simpa [he] using hsend x hx
    | some e => simp [← (htable _ (mem_of_tableGet he)).1]
  · cases he : p.entry x with
    | none =>
      simp only [flies_none, Bool.false_eq_true, iff_false, List.mem_map, not_exists, not_and]
      exact fun r hr hx => by simpa [hx, he] using hflight r hr
    | some e => simp [← (htable _ (mem_of_tableGet he)).2]

theorem Part.listsAgree_of_agree {p : Part} (hwf : p.tableOk = true) (h : p.Agree) : p.listsAgree = true := by
  have isSome_of {f : Option Entry → Bool} (hf : f none = false) {x : Slot} (hx : f (p.entry x) = true) :
      (p.entry x).isSome = true := by
    cases he : p.entry x <;> simp_all
  simp only [Part.listsAgree, Bool.and_eq_true, decide_eq_true_eq, List.all_eq_true]
  refine ⟨⟨⟨⟨fun x hx => ?_, fun x hx => isSome_of awaits_none ((h.send x).1 hx)⟩,
    fun r hr => isSome_of flies_none ((h.flight r.slot).1 (List.mem_map_of_mem hr))⟩, h.sendNodup⟩, h.flightNodup⟩
  have he : p.entry x.1 = some x.2 := tableGet_of_mem hwf hx
  simp [h.send, h.flight, he]

/-- Membership in the Send List after an act on a slot. -/
theorem mem_sendPlace (list : List Slot) (slot x : Slot) (e : Option Entry) :
    x ∈ sendPlace list slot e ↔ if x = slot then awaits e = true else x ∈ list := by
  change x ∈ (if awaits e then _ else _) ↔ _
  by_cases hx : x = slot <;> cases awaits e <;> by_cases hl : slot ∈ list <;> simp_all

theorem nodup_sendPlace {list : List Slot} (h : list.Nodup) (slot : Slot) (e : Option Entry) :
    (sendPlace list slot e).Nodup := by
  unfold sendPlace
  split
  · split
    · exact h
    · rename_i hl
      exact List.concat_eq_append ▸ h.concat hl
  · exact h.filter _

/-- Which slots have an In-Flight record after an act on a slot that brings no new record. -/
theorem mem_flightPlace {list : List InFlight} {slot : Slot} {e : Option Entry}
    (h : flies e = true → slot ∈ list.map (·.slot)) (x : Slot) :
    x ∈ (flightPlace list slot e).map (·.slot) ↔ if x = slot then flies e = true else x ∈ list.map (·.slot) := by
  change x ∈ (if flies e then _ else _ : List InFlight).map _ ↔ _
  cases hf : flies e with
  | true => by_cases hx : x = slot <;> simp_all
  | false =>
    by_cases hx : x = slot
    · simp [hx]
    · simp only [Bool.false_eq_true, if_false, if_neg hx, List.mem_map, List.mem_filter, decide_eq_true_eq]
      exact ⟨fun ⟨r, hr, hs⟩ => ⟨r, hr.1, hs⟩, fun ⟨r, hr, hs⟩ => ⟨r, ⟨hr, hs ▸ hx⟩, hs⟩⟩

theorem nodup_flightPlace {list : List InFlight} (h : (list.map (·.slot)).Nodup) (slot : Slot) (e : Option Entry) :
    ((flightPlace list slot e).map (·.slot)).Nodup := by
  unfold flightPlace
  split
  · exact h
  · exact h.sublist (List.filter_sublist.map _)

/-- An act on a slot keeps the lists in step with the table, unless it puts in flight a slot that has no record (R14). -/
theorem Part.Agree.putEntry {p : Part} (h : p.Agree) {slot : Slot} {e : Option Entry}
    (hf : flies e = true → flies (p.entry slot) = true) : (p.putEntry slot e).Agree where
  send x := (mem_sendPlace _ _ _ _).trans (by rw [Part.entry_putEntry]; split <;> simp [h.send])
  flight x := (mem_flightPlace (fun he => (h.flight slot).2 (hf he)) x).trans
    (by rw [Part.entry_putEntry]; split <;> simp [h.flight])
  sendNodup := nodup_sendPlace h.sendNodup _ _
  flightNodup := nodup_flightPlace h.flightNodup _ _

/-- The lists depend on the entries' states alone. -/
theorem Part.Agree.congr {p q : Part} (h : p.Agree) (ha : ∀ x, awaits (q.entry x) = awaits (p.entry x))
    (hf : ∀ x, flies (q.entry x) = flies (p.entry x)) (hs : q.rpu.sendList = p.rpu.sendList)
    (hi : q.rpu.inFlight.map (·.slot) = p.rpu.inFlight.map (·.slot)) : q.Agree where
  send x := by rw [hs, ha, h.send]
  flight x := by rw [hi, hf, h.flight]
  sendNodup := hs ▸ h.sendNodup
  flightNodup := hi ▸ h.flightNodup

/-! #### Acts that keep the table's invariants -/

/-- `q` comes of `p` by acts that keep the table's canonical form and the lists in step with it; the clear walk stands where it
stood. -/
structure Part.KeepsLists (p q : Part) : Prop where
  clearWalk : q.smt.clearWalk = p.smt.clearWalk
  tableOk : p.tableOk = true → q.tableOk = true
  agree : p.Agree → q.Agree

theorem Part.KeepsLists.trans {p q r : Part} (h : p.KeepsLists q) (h' : q.KeepsLists r) : p.KeepsLists r :=
  ⟨h'.clearWalk.trans h.clearWalk, h'.tableOk ∘ h.tableOk, h'.agree ∘ h.agree⟩

theorem Part.KeepsLists.putEntry {p : Part} {slot : Slot} {e : Option Entry}
    (hf : flies e = false ∨ flies (p.entry slot) = true) : p.KeepsLists (p.putEntry slot e) :=
  ⟨rfl, Part.tableOk_putEntry _ _, fun h => h.putEntry (by cases hf <;> simp_all)⟩

/-- `q` comes of `p` by acts that keep every invariant of the session table: those, and what its entries hold. -/
structure Part.Keeps (p q : Part) : Prop extends p.KeepsLists q where
  entriesOk : p.entriesOk = true → q.entriesOk = true

namespace Part.Keeps

@[refl] theorem refl (p : Part) : p.Keeps p := ⟨⟨rfl, id, id⟩, id⟩

theorem trans {p q r : Part} (h : p.Keeps q) (h' : q.Keeps r) : p.Keeps r :=
  ⟨h.toKeepsLists.trans h'.toKeepsLists, h'.entriesOk ∘ h.entriesOk⟩

/-- Acts that touch neither the table nor the two lists keep its invariants. -/
theorem of_table {p q : Part} (ht : q.smt.table = p.smt.table) (hc : q.smt.clearWalk = p.smt.clearWalk)
    (hs : q.rpu.sendList = p.rpu.sendList)
    (hi : q.rpu.inFlight.map (·.slot) = p.rpu.inFlight.map (·.slot)) : p.Keeps q := by
  have he : ∀ x, q.entry x = p.entry x := fun x => by simp [Part.entry, ht]
  refine ⟨⟨hc, fun h => ?_, fun h => h.congr (by simp [he]) (by simp [he]) hs hi⟩, fun h => ?_⟩
  · simpa [Part.tableOk, ht] using h
  · simpa [Part.entriesOk, ht] using h

/-- Acts that touch neither the Session Mirror nor the Replication Unit keep the invariants. -/
theorem of_eq {p q : Part} (hsmt : q.smt = p.smt) (hrpu : q.rpu = p.rpu) : p.Keeps q :=
  of_table (by rw [hsmt]) (by rw [hsmt]) (by rw [hrpu]) (by rw [hrpu])

/-- The same after, and before, acts that keep the invariants. -/
theorem then_eq {p q r : Part} (h : p.Keeps q) (hsmt : r.smt = q.smt) (hrpu : r.rpu = q.rpu) : p.Keeps r :=
  h.trans (of_eq hsmt hrpu)

theorem from_eq {p q r : Part} (h : q.Keeps r) (hsmt : q.smt = p.smt) (hrpu : q.rpu = p.rpu) : p.Keeps r :=
  (of_eq hsmt hrpu).trans h

theorem evaluateAll {p q : Part} (h : p.Keeps q) : p.Keeps q.evaluateAll := h.then_eq (by simp) (by simp)

theorem flushTest {p q : Part} (h : p.Keeps q) (g : Group) : p.Keeps (q.flushTest g) := h.then_eq (by simp) (by simp)

theorem flushTests {p q : Part} (h : p.Keeps q) : p.Keeps q.flushTests := h.then_eq (by simp) (by simp)

/-- A left fold of acts that keep the invariants keeps them. -/
theorem foldl {α : Type} {f : Part → α → Part} (hf : ∀ (q : Part) a, q.Keeps (f q a)) (xs : List α) (p : Part) :
    p.Keeps (xs.foldl f p) := by
  induction xs generalizing p with
  | nil => exact refl p
  | cons x xs ih => exact (hf p x).trans (ih _)

/-- The same for a right fold. -/
theorem foldr {α : Type} {f : α → Part → Part} (hf : ∀ (q : Part) a, q.Keeps (f a q)) (xs : List α) (p : Part) :
    p.Keeps (xs.foldr f p) := by
  induction xs with
  | nil => exact refl p
  | cons x xs ih => exact ih.trans (hf _ x)

/-- An act that frees a slot. -/
theorem putEntry_none (p : Part) (slot : Slot) : p.Keeps (p.putEntry slot none) :=
  ⟨.putEntry (.inl rfl), fun h => Part.entriesOk_putEntry _ _ h (by simp)⟩

/-- An act that makes an entry: it holds what its state says, given that the slot's entry did, and it is in flight only where that
was. -/
theorem putEntry_some {p : Part} {slot : Slot} {v : Entry}
    (hok : (∀ e, p.entry slot = some e → e.ok = true) → v.ok = true)
    (hf : v.state.inFlight = false ∨ flies (p.entry slot) = true) : p.Keeps (p.putEntry slot (some v)) :=
  ⟨.putEntry hf,
    fun h => Part.entriesOk_putEntry _ _ h fun _ hw => Option.some.inj hw ▸ hok fun _ he => Part.ok_of_entry h he⟩

/-- An act that changes the entry of a slot. -/
theorem putEntry_change {p : Part} {slot : Slot} {e v : Entry} (he : p.entry slot = some e)
    (hok : e.ok = true → v.ok = true) (hf : v.state.inFlight = false ∨ e.state.inFlight = true) :
    p.Keeps (p.putEntry slot (some v)) :=
  putEntry_some (fun h => hok (h e he)) (by simpa [he] using hf)

/-- A change of an entry that leaves its state. -/
theorem setTable_change {p : Part} {slot : Slot} {e v : Entry} (he : p.entry slot = some e)
    (hok : e.ok = true → v.ok = true) (hst : v.state = e.state) : p.Keeps (p.setTable slot (some v)) where
  clearWalk := rfl
  tableOk := Part.tableOk_setTable _ _
  entriesOk h := Part.entriesOk_setTable _ _ h fun _ hw => Option.some.inj hw ▸ hok (Part.ok_of_entry h he)
  agree h := by
    refine h.congr (fun x => ?_) (fun x => ?_) rfl rfl <;> rw [Part.entry_setTable] <;> split <;> simp_all

/-- A change of every entry in place that leaves its state. -/
theorem mapEntries {p : Part} {f : Entry → Entry} (hok : ∀ e, e.ok = true → (f e).ok = true)
    (hst : ∀ e, (f e).state = e.state) : p.Keeps (p.mapEntries f) where
  clearWalk := rfl
  tableOk := Part.tableOk_mapEntries f
  entriesOk h := by
    simp only [Part.entriesOk, Part.mapEntries, List.all_map, List.all_eq_true] at h ⊢
    exact fun x hx => hok _ (h x hx)
  agree h := by
    refine h.congr (fun x => ?_) (fun x => ?_) rfl rfl <;> rw [Part.entry_mapEntries] <;> cases p.entry x <;>
      simp [hst]

end Part.Keeps

end Sys2Proof.Machine

namespace Sys2Proof.Machine

/-! #### The operations on entries -/

theorem Part.keeps_closeEntry {p : Part} {slot : Slot} {e : Entry} (he : p.entry slot = some e) :
    p.Keeps (p.closeEntry slot e) := by
  unfold Part.closeEntry
  split
  case h_1 => exact .putEntry_change he (Entry.ok_restate · rfl (.inr rfl) rfl (.inr rfl)) (.inl rfl)
  case h_2 =>
    split
    · exact .putEntry_change he (Entry.ok_restate · rfl (.inr rfl) rfl (.inr rfl)) (.inl rfl)
    · exact .putEntry_none _ _
  case h_3 hst => exact .putEntry_change he (Entry.ok_restate · rfl (.inr rfl) rfl (.inr rfl)) (.inr (by rw [hst]; rfl))
  case h_4 hst => exact .putEntry_change he (Entry.ok_restate · rfl (.inr rfl) rfl (.inr rfl)) (.inr (by rw [hst]; rfl))
  case h_5 => rfl

theorem Part.keeps_disposeExpired {p : Part} {slot : Slot} {e : Entry} (he : p.entry slot = some e) :
    p.Keeps (p.disposeExpired slot e) := by
  unfold Part.disposeExpired
  split
  · exact .putEntry_change he (Entry.ok_restate · rfl (.inl rfl) rfl (.inr rfl)) (.inl rfl)
  · exact Part.keeps_closeEntry he

theorem Part.keeps_adopt {p : Part} {slot : Slot} {e : Entry} (he : p.entry slot = some e) :
    p.Keeps (p.adopt slot e) := by
  unfold Part.adopt
  split
  · exact .putEntry_change he (Entry.ok_restate · rfl (.inl rfl) rfl (.inr rfl)) (.inl rfl)
  · rfl

/-! #### The takeover and forget walks -/

variable (p : Part)

theorem Part.keeps_setWalk (g : Group) (w : Option TakeoverWalk) : p.Keeps (p.setWalk g w) := .of_table rfl rfl rfl rfl

theorem Part.keeps_walkTo (g : Group) (c : Nat) : p.Keeps (p.walkTo g c) := p.keeps_setWalk g _

theorem Part.keeps_walkPast (g : Group) (c : Nat) : p.Keeps (p.walkPast g c) := p.keeps_setWalk g _

theorem Part.keeps_visitEntry (g : Group) (c : Nat) {e : Entry} (he : p.entry (slotAt c) = some e) :
    p.Keeps (p.visitEntry g c e) := by
  unfold Part.visitEntry
  dsimp only
  split
  · exact p.keeps_setWalk g _
  · split
    · exact (Part.keeps_disposeExpired he).trans (Part.keeps_walkPast _ g c)
    · split
      · exact p.keeps_setWalk g _
      · exact ((Part.keeps_adopt he).trans (.of_eq (by simp) (by simp))).trans (Part.keeps_walkPast _ g c)

theorem Part.keeps_takeoverVisit (g : Group) : p.Keeps (p.takeoverVisit g) := by
  unfold Part.takeoverVisit
  split
  · rfl
  · split
    · rfl
    · split
      · rename_i hf
        exact p.keeps_visitEntry g _ (Option.filter_eq_some_iff.1 hf).1
      · split
        · rfl
        · exact p.keeps_walkPast g _

theorem Part.keeps_takeoverEnd (g : Group) : p.Keeps (p.takeoverEnd g) := by
  unfold Part.takeoverEnd
  split
  · rfl
  · split
    · rfl
    · split
      · exact p.keeps_setWalk g _
      · exact .of_table rfl rfl rfl rfl

theorem Part.keeps_retryWalk (g : Group) : p.Keeps (p.retryWalk g) := by
  unfold Part.retryWalk
  split
  · split
    · rfl
    · split
      · exact (p.keeps_walkTo g _).trans (Part.keeps_takeoverVisit _ g)
      · exact (p.keeps_walkTo g _).trans (Part.keeps_takeoverEnd _ g)
  · rfl

theorem Part.keeps_serveWaiting : p.Keeps p.serveWaiting := by
  have both (q : Part) (g h : Group) : q.Keeps ((q.retryWalk g).retryWalk h) :=
    (q.keeps_retryWalk g).trans (Part.keeps_retryWalk _ h)
  have drawn : p.Keeps p.drawn := .of_eq rfl rfl
  unfold Part.serveWaiting
  split
  · split
    · exact drawn.trans (both _ _ _)
    · exact drawn.trans (both _ _ _)
  · exact both _ _ _

theorem Part.keeps_serveFreed (before : Part) : p.Keeps (p.serveFreed before) := by
  unfold Part.serveFreed
  split
  · exact p.keeps_serveWaiting
  · rfl

theorem Part.keeps_forgetVisit (g : Group) : p.Keeps (p.forgetVisit g) := by
  have cursor (q : Part) (c : Nat) : q.Keeps (q.setForget g (some c)) := .of_table rfl rfl rfl rfl
  unfold Part.forgetVisit
  split
  · rfl
  · split
    · rfl
    · split
      · rename_i e he
        split
        · refine .trans ?_ (cursor _ _)
          refine .setTable_change he (fun h => ?_) rfl
          obtain ⟨hc, ha, hs, -⟩ := (Entry.ok_iff e).1 h
          exact (Entry.ok_iff _).2 ⟨hc, ha, hs.imp_right fun ⟨hp, h0, _⟩ => ⟨hp, h0, rfl⟩, .inr rfl⟩
        · exact cursor _ _
      · exact cursor _ _

/-! #### Roles and fences -/

theorem Part.keeps_exitActive (g : Group) (new : Role) (cause : RoleCause) : p.Keeps (p.exitActive g new cause) :=
  .of_table (by rw [Part.smt_exitActive]) (by rw [Part.smt_exitActive]) (by simp) (by simp)

theorem Part.keeps_fenceGroup (g : Group) : p.Keeps (p.fenceGroup g) := by
  unfold Part.fenceGroup
  split
  · rfl
  · rfl
  · exact p.keeps_exitActive g _ _
  · exact .of_eq (by simp) (by simp)

theorem Part.keeps_fenceAll : p.Keeps p.fenceAll :=
  ((p.keeps_fenceGroup .g0).trans (Part.keeps_fenceGroup _ .g1)).trans (Part.keeps_serveFreed _ p)

theorem Part.keeps_applyFence (f : FenceCauses) : p.Keeps (p.applyFence f) := by
  unfold Part.applyFence
  split
  · exact .of_eq rfl rfl
  · exact (p.setFence f).keeps_fenceAll.from_eq rfl rfl

theorem Part.keeps_testQuorum : p.Keeps p.testQuorum := by
  unfold Part.testQuorum
  split
  · exact p.keeps_applyFence _
  · rfl

theorem Part.keeps_enterActive (g : Group) (cause : RoleCause) : p.Keeps (p.enterActive g cause) :=
  ((Part.keeps_setWalk (p.setRole g .active cause) g _).trans (Part.keeps_testQuorum _)).from_eq (by simp) (by simp)

theorem Part.keeps_resolveDeadline (g : Group) (c : ClaimRecord) : p.Keeps (p.resolveDeadline g c) := by
  unfold Part.resolveDeadline
  split
  · split
    · exact .of_eq rfl rfl
    · exact p.keeps_enterActive g _
  · exact .of_eq (by simp) (by simp)

theorem Part.keeps_enterYielding (g : Group) (cause : RoleCause) (pending : PendingFrame) :
    p.Keeps (p.enterYielding g cause pending) := by
  unfold Part.enterYielding
  dsimp only
  refine ((p.keeps_exitActive g .yielding cause).trans ?_).trans (Part.keeps_serveFreed _ p)
  refine .flushTest ?_ g
  exact .from_eq (Part.keeps_testQuorum _) rfl rfl

/-- An exit from ACTIVE to STANDBY, with the walks it serves. -/
theorem Part.keeps_exitToStandby (g : Group) (cause : RoleCause) :
    p.Keeps (((p.exitActive g .standby cause).evalStandby g).serveFreed p) :=
  ((p.keeps_exitActive g .standby cause).then_eq (by simp) (by simp)).trans (Part.keeps_serveFreed _ p)

theorem Part.keeps_claimByRole (c : ClaimFrame) : p.Keeps (p.claimByRole c) := by
  have active : p.Keeps (p.claimMeetsActive c) := by
    unfold Part.claimMeetsActive
    split
    · exact .of_eq (by simp) (by simp)
    · split
      · exact p.keeps_enterYielding _ _ _
      · exact .of_eq (by simp) (by simp)
    · exact p.keeps_exitToStandby _ _
  unfold Part.claimByRole
  split
  · exact active
  · split
    · exact .of_eq (by simp) (by simp)
    · rfl
  · split
    · split
      · exact .of_eq (by simp) (by simp)
      · rfl
    · rfl
  · rfl

theorem Part.keeps_takeClaim (c : ClaimFrame) : p.Keeps (p.takeClaim c) :=
  .evaluateAll (.from_eq (Part.keeps_claimByRole _ c) rfl rfl)

theorem Part.keeps_pulseMeetsGroup (g : Group) (r : Role) (announced : Nat) :
    p.Keeps (p.pulseMeetsGroup g r announced) := by
  unfold Part.pulseMeetsGroup
  split
  · (repeat' split) <;> exact .of_eq (by simp) (by simp)
  · split
    · exact p.keeps_exitToStandby _ _
    · rfl
  · rfl

theorem Part.keeps_pulseOfOther (roles : PerGroup (Option Role)) (merits : PerGroup (Option (BitVec 8))) :
    p.Keeps (p.pulseOfOther roles merits) := by
  unfold Part.pulseOfOther
  dsimp only
  have meets (q : Part) (g : Group) : q.Keeps
      (match roles.get g with
        | some r => q.pulseMeetsGroup g r ((merits.get g).elim 0 BitVec.toNat)
        | none => q) := by
    split
    · exact q.keeps_pulseMeetsGroup _ _ _
    · rfl
  exact .evaluateAll (.from_eq (.trans (meets _ .g0) (meets _ .g1)) (by simp) (by simp))

theorem Part.keeps_otherLost : p.Keeps p.otherLost := by
  unfold Part.otherLost
  dsimp only
  have groups (q : Part) : q.Keeps ((q.lossMeetsGroup .g0).lossMeetsGroup .g1) := .of_eq (by simp) (by simp)
  refine .evaluateAll (.from_eq (q := p.drawn) ?_ rfl rfl)
  split
  · exact (Part.keeps_testQuorum _).trans (groups _)
  · exact (groups _).trans (Part.keeps_testQuorum _)

theorem Part.keeps_setLatch : p.Keeps p.setLatch := by
  unfold Part.setLatch
  dsimp only
  split
  · exact (Part.keeps_applyFence _ _).from_eq rfl rfl
  · exact .of_eq rfl rfl

end Sys2Proof.Machine

namespace Sys2Proof.Machine

variable (p : Part)

/-! #### Records that return from flight -/

@[simp] theorem EntryState.closing_returned (st : EntryState) : st.returned.closing = st.closing := by cases st <;> rfl

@[simp] theorem EntryState.owned_returned (st : EntryState) : st.returned.owned = st.owned := by cases st <;> rfl

@[simp] theorem EntryState.inFlight_returned (st : EntryState) : st.returned.inFlight = false := by cases st <;> rfl

/-- An entry in flight is owned (R2, R44). -/
theorem EntryState.owned_of_inFlight {st : EntryState} (h : st.inFlight = true) : st.owned = true := by
  cases st <;> simp_all [EntryState.inFlight, EntryState.owned]

/-- A return that keeps the attempts count within bounds keeps what an entry holds. -/
theorem Entry.ok_returned {e : Entry} (h : e.ok = true) (hf : e.state.inFlight = true) {n : Nat} (hn : n ≤ 8) :
    ({ e with state := e.state.returned, attempts := n } : Entry).ok = true :=
  Entry.ok_owned (Entry.contentOk_of_ok (e := e) h) hn
    ((EntryState.owned_returned _).trans (EntryState.owned_of_inFlight hf))
    ((EntryState.closing_returned e.state).symm ▸ Entry.closing_of_ok h)

theorem Part.keepsLists_returnTail (attempts : Entry → Nat) (slot : Slot) :
    p.KeepsLists (p.returnTail attempts slot) := by
  unfold Part.returnTail
  split
  · split
    · exact .putEntry (.inl (EntryState.inFlight_returned _))
    · exact (Part.Keeps.refl p).toKeepsLists
  · exact (Part.Keeps.refl p).toKeepsLists

theorem Part.keeps_returnTail {attempts : Entry → Nat} (hatt : ∀ e : Entry, e.ok = true → attempts e ≤ 8) (slot : Slot) :
    p.Keeps (p.returnTail attempts slot) := by
  unfold Part.returnTail
  split
  · rename_i e he
    split
    · rename_i hf
      exact .putEntry_change he (fun h => Entry.ok_returned h hf (hatt e h)) (.inl (EntryState.inFlight_returned _))
    · rfl
  · rfl

/-- A return to the head differs from one to the tail in the slot's place alone. -/
theorem Part.keeps_returnHead (slot : Slot) : p.Keeps (p.returnHead slot) := by
  unfold Part.returnHead
  split
  · rename_i e he
    split
    · rename_i hf
      have h0 : p.Keeps (p.putEntry slot (some { e with state := e.state.returned })) :=
        .putEntry_change he (fun h => Entry.ok_returned h hf (Entry.attempts_of_ok h))
          (.inl (EntryState.inFlight_returned _))
      have hw : e.state.returned.awaitsSend = true := by
        revert hf; cases e.state <;> simp [EntryState.inFlight, EntryState.returned, EntryState.awaitsSend]
      refine ⟨⟨h0.clearWalk, h0.tableOk, fun h => ?_⟩, h0.entriesOk⟩
      have h1 := h0.agree h
      have hfl : flightPlace p.rpu.inFlight slot (some { e with state := e.state.returned })
          = p.rpu.inFlight.filter fun r => decide (r.slot ≠ slot) := by simp [flightPlace]
      refine ⟨fun x => ?_, hfl ▸ h1.flight, ?_, hfl ▸ h1.flightNodup⟩
      · refine Iff.trans ?_ (h1.send x)
        refine Iff.trans ?_ (mem_sendPlace _ _ _ _).symm
        by_cases hx : x = slot <;> simp [hx, hw]
      · exact List.nodup_cons.2 ⟨by simp, h.sendNodup.filter _⟩
    · rfl
  · rfl

theorem Part.keeps_markRecall : p.Keeps p.markRecall := by
  unfold Part.markRecall
  split
  · split
    · exact .of_table rfl rfl rfl rfl
    · rfl
  · rfl

/-- Clearing the attempts count keeps what an entry holds, and mends a count that ran over (R53). -/
theorem Entry.ok_attemptsCleared {e : Entry} (h : e.ok = true) : e.attemptsCleared.ok = true := by
  unfold Entry.attemptsCleared
  split
  · rename_i ho
    exact Entry.ok_restate h rfl (.inl rfl) ho (Entry.closing_of_ok (e := e) h)
  · exact h

theorem Part.keeps_attemptsCleared : p.Keeps (p.mapEntries Entry.attemptsCleared) :=
  .mapEntries (fun _ => Entry.ok_attemptsCleared) fun e => by unfold Entry.attemptsCleared; split <;> rfl

theorem Part.keeps_returnAll : p.Keeps p.returnAll :=
  ((Part.Keeps.foldl (fun q slot => q.keeps_returnTail (fun _ => Entry.attempts_of_ok) slot) _ p).trans
    (Part.keeps_markRecall _)).trans (Part.keeps_attemptsCleared _)

/-- Every entry holds what its state says once its attempts count is cleared. -/
def Part.clearedOk (p : Part) : Prop := (p.mapEntries Entry.attemptsCleared).entriesOk = true

theorem Part.clearedOk_iff : p.clearedOk ↔ ∀ x ∈ p.smt.table, x.2.attemptsCleared.ok = true := by
  simp [Part.clearedOk, Part.entriesOk, Part.mapEntries, List.all_map]

/-- A return keeps this, whatever it makes of the attempts count. -/
theorem Part.clearedOk_returnTail {p : Part} (h : p.clearedOk) (attempts : Entry → Nat) (slot : Slot) :
    (p.returnTail attempts slot).clearedOk := by
  unfold Part.returnTail
  split
  · rename_i e he
    split
    · rename_i hf
      rw [Part.clearedOk_iff] at h ⊢
      intro x hx
      rcases Part.mem_putEntry hx with ⟨v, hv, rfl⟩ | hx
      · have ho := EntryState.owned_of_inFlight hf
        have h0 : ({ e with attempts := 0 } : Entry).ok = true := by
          simpa [Entry.attemptsCleared, ho] using h _ (mem_of_tableGet he)
        cases hv
        simpa [Entry.attemptsCleared, ho] using Entry.ok_returned h0 hf (Nat.zero_le 8)
      · exact h x hx
    · exact h
  · exact h

theorem Part.entriesOk_returnAll {p : Part} (h : p.clearedOk) : p.returnAll.entriesOk = true := by
  have fold : ∀ (xs : List Slot) (q : Part), q.clearedOk →
      (xs.foldl (fun q slot => q.returnTail (fun e => e.attempts) slot) q).clearedOk := by
    intro xs
    induction xs with
    | nil => exact fun _ => id
    | cons x xs ih => exact fun q hq => ih _ (Part.clearedOk_returnTail hq _ x)
  have mark (q : Part) (hq : q.clearedOk) : q.markRecall.clearedOk := by
    rw [Part.clearedOk_iff, Part.markRecall_smt, ← Part.clearedOk_iff]
    exact hq
  exact mark _ (fold _ p h)

/-- A receipt timer that runs out (R52, R53): a count that reaches 8 is cleared with all the others in the same act. -/
theorem Part.keeps_timeOut (slot : Slot) : p.Keeps (p.timeOut slot) := by
  unfold Part.timeOut
  split
  · rename_i e he
    dsimp only
    split
    · rename_i ha
      unfold Part.returnTail
      simp only [he]
      split
      · rename_i hf
        exact .putEntry_change he (fun h => Entry.ok_returned h hf (by omega)) (.inl (EntryState.inFlight_returned _))
      · rfl
    · have hlists := (p.keepsLists_returnTail (fun e => e.attempts + 1) slot).trans
        (Part.keeps_returnAll (p.returnTail (fun e => e.attempts + 1) slot)).toKeepsLists
      refine .trans ⟨hlists, fun h => ?_⟩ (.of_table rfl rfl rfl rfl)
      exact Part.entriesOk_returnAll (Part.clearedOk_returnTail (p.keeps_attemptsCleared.entriesOk h) _ _)
  · rfl

/-! #### Receipts -/

/-- A matched entry is owned, out of flight, and closing as it was (R49). -/
theorem EntryState.received_spec {st st' : EntryState} (h : st.received = some st') :
    st'.owned = true ∧ st'.inFlight = false ∧ st'.closing = st.closing := by
  cases st <;> simp_all [EntryState.received] <;> subst h <;> exact ⟨rfl, rfl, rfl⟩

theorem Part.keeps_takePair (x : Slot × Version) : p.Keeps (p.takePair x) := by
  unfold Part.takePair
  split
  · rename_i e _ he
    split
    · cases hr : e.state.received with
      | none => exact .putEntry_none _ _
      | some st =>
        obtain ⟨ho, hf, hc⟩ := EntryState.received_spec hr
        exact .putEntry_change he
          (fun h => Entry.ok_restate h rfl (.inl rfl) ho (hc ▸ Entry.closing_of_ok h))
          (.inl hf)
    · rfl
  · rfl

theorem Part.keeps_takePairs (pairs : List (Slot × Version)) : p.Keeps (p.takePairs pairs) :=
  .foldl (fun q x => .flushTests (q.keeps_takePair x)) pairs p

/-! #### Frames of the Send List -/

@[simp] theorem EntryState.closing_framed (st : EntryState) : st.framed.closing = st.closing := by cases st <;> rfl

@[simp] theorem EntryState.owned_framed (st : EntryState) : st.framed.owned = st.owned := by cases st <;> rfl

/-- A slot that awaits sending goes into flight, off the Send List, as a frame takes it (R43). -/
theorem EntryState.framed_of_awaitsSend {st : EntryState} (h : st.awaitsSend = true) :
    st.framed.inFlight = true ∧ st.framed.awaitsSend = false := by
  cases st <;> simp_all [EntryState.awaitsSend, EntryState.framed, EntryState.inFlight]

/-- What a frame leaves of the other slots' entries. -/
theorem Part.entry_frameSlot_ne {slot other : Slot} (hne : other ≠ slot) :
    (p.frameSlot slot).entry other = p.entry other := by
  unfold Part.frameSlot
  split
  · exact (Part.entry_putEntry _ _ _ _).trans (if_neg hne)
  · rfl

/-- A frame that takes a slot which awaits sending keeps the lists in step with the table (R43). -/
theorem Part.Agree.frameSlot {p : Part} (h : p.Agree) {slot : Slot} (ha : awaits (p.entry slot) = true) :
    (p.frameSlot slot).Agree := by
  cases he : p.entry slot with
  | none => simp [he] at ha
  | some e =>
    rw [he] at ha
    obtain ⟨hfl, haw⟩ := EntryState.framed_of_awaitsSend ha
    have hout : slot ∉ p.rpu.inFlight.map (·.slot) := by
      rw [h.flight, he, flies_some, EntryState.not_inFlight_of_awaitsSend ha]
      exact Bool.false_ne_true
    have heq : p.frameSlot slot
        = { p.putEntry slot (some { e with state := e.state.framed }) with
            rpu := { (p.putEntry slot (some { e with state := e.state.framed })).rpu with
              inFlight := p.rpu.inFlight ++ [{ slot := slot, version := e.version, completion := none, transmitting := true }] } } := by
      simp [Part.frameSlot, he, Part.putEntry, flightPlace, hfl]
    have hentry (x : Slot) : (p.frameSlot slot).entry x
        = if x = slot then some { e with state := e.state.framed } else p.entry x := by
      rw [heq]; exact Part.entry_putEntry _ _ _ _
    have hsend : (p.frameSlot slot).rpu.sendList
        = sendPlace p.rpu.sendList slot (some { e with state := e.state.framed }) := by rw [heq]; rfl
    have hflight : (p.frameSlot slot).rpu.inFlight.map (·.slot) = p.rpu.inFlight.map (·.slot) ++ [slot] := by
      rw [heq]; simp
    refine ⟨fun x => ?_, fun x => ?_, ?_, ?_⟩
    · rw [hsend, mem_sendPlace, hentry]
      split
      · rfl
      · exact h.send x
    · rw [hflight, hentry, List.mem_append, h.flight]
      by_cases hx : x = slot <;> simp [hx, hfl]
    · rw [hsend]; exact nodup_sendPlace h.sendNodup _ _
    · rw [hflight, ← List.concat_eq_append]; exact h.flightNodup.concat hout

/-- The same for a run of different slots. -/
theorem Part.Agree.frameRun {slots : List Slot} {p : Part} (h : p.Agree) (hn : slots.Nodup)
    (ha : ∀ x ∈ slots, awaits (p.entry x) = true) : (slots.foldl Part.frameSlot p).Agree := by
  induction slots generalizing p with
  | nil => exact h
  | cons x xs ih =>
    obtain ⟨hx, hxs⟩ := List.nodup_cons.1 hn
    refine ih (h.frameSlot (ha x List.mem_cons_self)) hxs fun y hy => ?_
    rw [Part.entry_frameSlot_ne _ (by rintro rfl; exact hx hy)]
    exact ha y (List.mem_cons_of_mem _ hy)

theorem Part.entriesOk_frameSlot {p : Part} (h : p.entriesOk = true) (slot : Slot) : (p.frameSlot slot).entriesOk = true := by
  unfold Part.frameSlot
  split
  · rename_i e he
    refine Part.entriesOk_putEntry (p := p) slot _ h fun v hv => ?_
    obtain ⟨hc, ha, hs, hi⟩ := (Entry.ok_iff e).1 (Part.ok_of_entry h he)
    cases hv
    exact (Entry.ok_iff _).2 ⟨hc, ha, by simpa using hs, by simpa using hi⟩
  · exact h

/-- A frame that takes a run of slots of the Send List. -/
theorem Part.keeps_frameRun {slots : List Slot} (hsub : slots.Sublist p.rpu.sendList)
    (ha : ∀ x ∈ slots, awaits (p.entry x) = true) : p.Keeps (slots.foldl Part.frameSlot p) where
  clearWalk := foldl_keeps _ (fun q => q.smt.clearWalk)
    (fun q x => by unfold Part.frameSlot; split <;> rfl) slots p
  tableOk h := List.foldlRecOn slots Part.frameSlot (motive := fun q => q.tableOk = true) h fun q hq x _ => by
    unfold Part.frameSlot
    split
    · exact Part.tableOk_putEntry _ _ hq
    · exact hq
  agree h := h.frameRun (h.sendNodup.sublist hsub) ha
  entriesOk h := List.foldlRecOn slots Part.frameSlot (motive := fun q => q.entriesOk = true) h
    fun _ hq x _ => Part.entriesOk_frameSlot hq x

theorem Part.dropRun_sublist : p.dropRun.Sublist p.rpu.sendList :=
  (List.take_sublist _ _).trans (List.takeWhile_sublist _)

theorem Part.awaits_of_mem_dropRun {x : Slot} (h : x ∈ p.dropRun) : awaits (p.entry x) = true := by
  have hx := List.mem_takeWhile_imp (List.mem_of_mem_take h)
  cases he : p.entry x <;> simp_all [EntryState.awaitsSend]

/-- A DELTA takes slots in list order, each DIRTY (R41). -/
theorem Part.deltaTake_spec (n left : Nat) (list : List Slot) :
    (p.deltaTake n left list).Sublist list ∧ ∀ x ∈ p.deltaTake n left list, awaits (p.entry x) = true := by
  induction list generalizing n left with
  | nil => simp [Part.deltaTake]
  | cons s rest ih =>
    cases n with
    | zero => simp [Part.deltaTake]
    | succ n =>
      cases he : p.entry s with
      | none => simp [Part.deltaTake, he]
      | some e =>
        by_cases hd : e.state = .dirty ∧ e.wireSize ≤ left
        · obtain ⟨hsub, haw⟩ := ih n (left - e.wireSize)
          simp only [Part.deltaTake, he, hd, and_self, if_true]
          refine ⟨hsub.cons_cons s, fun x hx => ?_⟩
          rcases List.mem_cons.1 hx with rfl | hx
          · simp [he, hd.1, EntryState.awaitsSend]
          · exact haw x hx
        · simp [Part.deltaTake, he, hd]

theorem Part.keeps_buildSession {x : TxFrame × List Byte × Part} (h : p.buildSession = some x) : p.Keeps x.2.2 := by
  have hdrop : p.Keeps (p.dropRun.foldl Part.frameSlot p) :=
    p.keeps_frameRun p.dropRun_sublist fun _ => p.awaits_of_mem_dropRun
  have hdelta : p.Keeps (p.deltaRun.foldl Part.frameSlot p) :=
    p.keeps_frameRun (p.deltaTake_spec _ _ _).1 (p.deltaTake_spec _ _ _).2
  unfold Part.buildSession at h
  split at h
  · split at h
    · rename_i hr
      cases h
      exact hr ▸ hdrop
    · split at h
      · rename_i hr
        cases h
        exact hr ▸ hdelta
      · cases h
  · cases h

/-! #### The end of a session frame -/

theorem Part.keeps_heldByPeer (slot : Slot) : p.Keeps (p.heldByPeer slot) := by
  unfold Part.heldByPeer
  split
  · rename_i e he
    refine .setTable_change he (fun h => ?_) rfl
    obtain ⟨hc, ha, hs, hi⟩ := (Entry.ok_iff e).1 h
    exact (Entry.ok_iff _).2 ⟨hc, ha, hs.imp_right fun ⟨_, h0⟩ => ⟨rfl, h0⟩, hi⟩
  · rfl

theorem Part.keeps_stampCompletion : p.Keeps p.stampCompletion :=
  .of_table rfl rfl rfl (by
    simp only [Part.stampCompletion, List.map_map]
    exact List.map_congr_left fun r _ => by dsimp only [Function.comp]; split <;> rfl)

theorem Part.keeps_recallCleared : p.Keeps p.recallCleared := .of_table rfl rfl rfl rfl

theorem Part.keeps_sessionCompleted (isDelta : Bool) : p.Keeps (p.sessionCompleted isDelta) := by
  unfold Part.sessionCompleted
  dsimp only
  have held : p.Keeps (if isDelta then p.frameSlots.foldl Part.heldByPeer p.stampCompletion else p.stampCompletion) := by
    split
    · exact p.keeps_stampCompletion.trans (.foldl (fun q x => q.keeps_heldByPeer x) _ _)
    · exact p.keeps_stampCompletion
  have recalled (q : Part) : q.Keeps
      (if p.rpu.recallMark then p.frameSlots.foldl (fun q slot => q.returnTail (fun _ => 0) slot) q else q) := by
    split
    · exact .foldl (fun q x => q.keeps_returnTail (fun _ _ => Nat.zero_le _) x) _ _
    · rfl
  exact (held.trans (recalled _)).trans (Part.keeps_recallCleared _)

theorem Part.keeps_sessionAbandoned : p.Keeps p.sessionAbandoned :=
  (Part.Keeps.foldr (fun q x => q.keeps_returnHead x) _ p).trans (Part.keeps_recallCleared _)

/-! #### Inbound records -/

/-- What the session of a record holds (R3 to R5, R22, R91). -/
def Session.ok (x : Session) : Bool :=
  decide (x.tcp.isSome = decide (x.key.protocol.toNat = 6)) && decide (x.key.ports.isSome = protocolHasPorts x.key.protocol)
    && x.nat.all (natSuits x.key)

/-- The entry that a stored session makes, its lifetime clamped (R25, R63). -/
theorem Session.contentOk_of_ok {x : Session} (h : x.ok = true) {e : Entry} (hk : e.key = x.key) (hn : e.nat = x.nat)
    (ht : e.tcp = x.tcp.map clampTcp) (hl : e.lifetime = clampLifetime x.lifetime) : e.contentOk = true := by
  have hlife : clampLifetime x.lifetime ≠ 0 := by unfold clampLifetime; split <;> simp_all
  simp only [Session.ok, Entry.contentOk, hk, hn, ht, hl, Option.isSome_map, Bool.and_eq_true, decide_eq_true_eq] at h ⊢
  exact ⟨⟨⟨hlife, h.1.1⟩, h.1.2⟩, h.2⟩

theorem Part.ok_shadowOf {w : WireRecord} (h : w.session.ok = true) : (p.shadowOf w).ok = true :=
  (Entry.ok_iff _).2 ⟨Session.contentOk_of_ok h rfl rfl rfl rfl, Nat.zero_le _, .inr ⟨rfl, rfl, rfl⟩, .inl rfl⟩

theorem Part.keeps_applyWire {w : WireRecord} (h : w.session.ok = true) : p.Keeps (p.applyWire w) := by
  have put (q : Part) (e : Entry) (he : e.ok = true) (hf : e.state.inFlight = false) :
      q.Keeps (q.putEntry w.slot (some e)) := .putEntry_some (fun _ => he) (.inl hf)
  unfold Part.applyWire
  dsimp only
  split
  · refine .from_eq (put _ _ (p.ok_shadowOf h) rfl) rfl rfl
  · exact put _ _ (p.ok_shadowOf h) rfl

theorem Part.keeps_makeReceipt (slot : Slot) (version : Version) : p.Keeps (p.makeReceipt slot version) :=
  .of_table rfl rfl rfl rfl

theorem Part.keeps_reassert {slot : Slot} {e : Entry} (he : p.entry slot = some e) : p.Keeps (p.reassert slot e) := by
  unfold Part.reassert
  split
  · exact .putEntry_change he (Entry.ok_restate · rfl (.inr rfl) rfl (.inl rfl)) (.inl rfl)
  · rename_i hst
    exact .putEntry_change he (Entry.ok_restate · rfl (.inr rfl) rfl (.inl rfl)) (.inr (by rw [hst]; rfl))
  · rfl

theorem Part.keeps_meetCollision {w : WireRecord} (h : w.session.ok = true) {e : Entry} (he : p.entry w.slot = some e)
    {q : Part} (hq : p.meetCollision w e = some q) : p.Keeps q := by
  have applied (r : Part) : r.Keeps ((r.applyWire w).makeReceipt w.slot w.version) :=
    (r.keeps_applyWire h).trans (Part.keeps_makeReceipt _ _ _)
  unfold Part.meetCollision at hq
  split at hq
  · cases hq
    exact (p.keeps_reassert he).trans (Part.keeps_makeReceipt _ _ _)
  · split at hq
    · split at hq
      · cases hq
        exact .trans (q := p.revokeAppend w.slot) (.of_table rfl rfl rfl rfl) (applied _)
      · cases hq
    · cases hq
      exact applied p

theorem Part.keeps_takeWire {w : WireRecord} (h : w.session.ok = true) {q : Part} (hq : p.takeWire w = some q) :
    p.Keeps q := by
  have applied : p.Keeps ((p.applyWire w).makeReceipt w.slot w.version) :=
    (p.keeps_applyWire h).trans (Part.keeps_makeReceipt _ _ _)
  unfold Part.takeWire at hq
  split at hq
  · split at hq
    · cases hq; exact applied
    · rename_i e he
      split at hq
      · split at hq
        · split at hq
          · cases hq; exact p.keeps_reassert he
          · cases hq; exact applied
        · exact p.keeps_meetCollision h he hq
      · cases hq; exact applied
  · cases hq

theorem Part.keeps_takeDelta {ws : List WireRecord} (h : ∀ w ∈ ws, w.session.ok = true) : p.Keeps (p.takeDelta ws) := by
  induction ws generalizing p with
  | nil => rfl
  | cons w ws ih =>
    unfold Part.takeDelta
    split
    · rename_i q hq
      exact .trans (.flushTests (p.keeps_takeWire (h w List.mem_cons_self) hq))
        (ih _ fun v hv => h v (List.mem_cons_of_mem _ hv))
    · rfl

theorem Part.keeps_removeShadow (slot : Slot) : p.Keeps (p.removeShadow slot) := by
  unfold Part.removeShadow
  split
  · split
    · exact .putEntry_none _ _
    · rfl
  · rfl

theorem Part.keeps_takeDrop (pairs : List (Slot × Version)) : p.Keeps (p.takeDrop pairs) := by
  induction pairs generalizing p with
  | nil => rfl
  | cons x rest ih =>
    unfold Part.takeDrop
    split
    · exact .trans (.trans (p.keeps_removeShadow _) (Part.keeps_makeReceipt _ _ _)) (ih _)
    · rfl

/-! #### The refresh walk -/

/-- A note says nothing of what an entry must hold. -/
theorem Entry.ok_noted {e : Entry} (h : e.ok = true) (b : Bool) : ({ e with noted := b } : Entry).ok = true := h

theorem Part.keeps_startRefresh : p.Keeps p.startRefresh :=
  .trans (.mapEntries (f := fun e => { e with noted := false }) (fun _ h => Entry.ok_noted h _) fun _ => rfl)
    (.of_table rfl rfl rfl rfl)

theorem Part.keeps_refreshEntry {slot : Slot} {e : Entry} (he : p.entry slot = some e) :
    p.Keeps (p.refreshEntry slot e) := by
  unfold Part.refreshEntry
  split
  · exact .setTable_change he (fun h => Entry.ok_noted h _) rfl
  · split
    · exact .putEntry_change he (Entry.ok_restate · rfl (.inr rfl) rfl (.inl rfl)) (.inl rfl)
    · rename_i hst
      exact .putEntry_change he
        (fun h => Entry.ok_restate h rfl (.inr rfl) (by rw [hst]; rfl) (Entry.closing_of_ok (e := e) h))
        (.inl (by rw [hst]; rfl))
    · exact .putEntry_none _ _
    · rfl

theorem Part.keeps_refreshVisit : p.Keeps p.refreshVisit := by
  have cursor (q : Part) (c : Nat) : q.Keeps { q with smt := { q.smt with refreshWalk := some c } } :=
    .of_table rfl rfl rfl rfl
  unfold Part.refreshVisit
  split
  · rfl
  · split
    · rfl
    · refine .flushTests (.trans ?_ (cursor _ _))
      split
      · rename_i he
        exact p.keeps_refreshEntry he
      · rfl

end Sys2Proof.Machine

namespace Sys2Proof.Machine

/-! #### Session content as records carry it -/

theorem isV6_readAddressPair (bs : List Byte) (i : Nat) (v6 : Bool) : (readAddressPair bs i v6).isV6 = v6 := by
  cases v6 <;> rfl

theorem isV6_readAddress (bs : List Byte) (i : Nat) (v6 : Bool) : (readAddress bs i v6).isV6 = v6 := by
  cases v6 <;> rfl

/-- A NAT part that is read suits a key of the family and with the ports it was read for (R22, R91). -/
theorem natSuits_readNat {bs : List Byte} {i : Nat} {v6 hasPort : Bool} {n : NatPart} {key : Key}
    (h : readNat bs i v6 hasPort = some n) (hv : key.addrs.isV6 = v6) (hp : key.ports.isSome = hasPort) :
    natSuits key n = true := by
  obtain ⟨k, -, rfl⟩ := Option.map_eq_some_iff.1 h
  cases hasPort <;> simp [natSuits, isV6_readAddress, hv, hp]

/-- A part that a flag announces is there exactly when the flag is set. -/
theorem isSome_ite_some {α : Type} (b : Bool) (x : α) : (if b then some x else none : Option α).isSome = b := by
  cases b <;> rfl

/-- A TCP part that a flag announces is there exactly when the flag is set, its tracking state being known (R22, R91). -/
theorem isSome_announcedTcp {hasTcp : Bool} {tracking : Option TrackingState} (h : ¬ (hasTcp && !tracking.isSome) = true)
    (f : TrackingState → TcpPart) : (if hasTcp then tracking.map f else none).isSome = hasTcp := by
  cases hasTcp <;> cases tracking <;> simp_all

/-- A session record that passes the record tests (R91). -/
theorem readWire_ok {bs : List Byte} {x : WireRecord × Nat} (h : readWire bs = some x) : x.1.session.ok = true := by
  simp only [readWire, Option.ite_none_left_eq_some] at h
  obtain ⟨-, -, -, htcp, -, htrack, hnat, h⟩ := h
  obtain rfl := Option.some.inj h
  simp only [Session.ok, Bool.and_eq_true, decide_eq_true_eq, isSome_ite_some, isSome_announcedTcp htrack,
    Option.all_eq_true]
  refine ⟨⟨not_not.1 htcp, trivial⟩, fun n hn => ?_⟩
  split at hn
  · exact natSuits_readNat hn (isV6_readAddressPair _ _ _) (isSome_ite_some _ _)
  · cases hn

theorem readWires_ok {n : Nat} {bs : List Byte} {ws : List WireRecord} (h : readWires n bs = some ws) :
    ∀ w ∈ ws, w.session.ok = true := by
  induction n, bs using readWires.induct generalizing ws with
  | case1 => simp_all [readWires]
  | case2 => simp [readWires] at h
  | case3 _ _ _ hr => simp [readWires, hr] at h
  | case4 n b bs w size hr ih =>
    simp only [readWires, hr, Option.map_eq_some_iff] at h
    obtain ⟨vs, hvs, rfl⟩ := h
    exact List.forall_mem_cons.2 ⟨readWire_ok hr, ih hvs⟩

/-- The session records of a DELTA that passes the frame tests (R89, R91). -/
theorem readPayload_ok {kind : FrameKind} {y : Station} {b : Byte} {pl : List Byte} {ws : List WireRecord}
    (h : readPayload kind y b pl = some (.delta ws)) : ∀ w ∈ ws, w.session.ok = true := by
  cases kind with
  | delta =>
    simp only [readPayload] at h
    split at h
    · cases h
    · split at h
      · rename_i hr
        cases h
        exact readWires_ok hr
      · cases h
  | yield =>
    simp [readPayload] at h
  | _ =>
    simp only [readPayload] at h
    grind

theorem judge_ok {rx : Reception} {f : Frame} {ws : List WireRecord} (h : judge rx = .valid f)
    (hc : f.content = .delta ws) : ∀ w ∈ ws, w.session.ok = true := by
  unfold judge at h
  split at h
  · cases h
  split at h
  · cases h
  split at h
  · rename_i hf
    cases h
    simp only [readFrame, Option.ite_none_left_eq_some] at hf
    obtain ⟨-, -, -, -, hf⟩ := hf
    split at hf
    · split at hf
      · obtain ⟨c, hp, rfl⟩ := Option.map_eq_some_iff.1 hf
        obtain rfl : c = .delta ws := hc
        exact readPayload_ok hp
      · cases hf
    · cases hf
  · cases h

/-- An OPEN that passes the form tests (R22). -/
theorem readOpen_ok {ws : List Word32} {x : Session} (h : readOpen ws = some x) : x.ok = true := by
  simp only [readOpen, Option.ite_none_left_eq_some] at h
  obtain ⟨-, -, hports, htcp, hnat, htrack, h⟩ := h
  obtain rfl := Option.some.inj h
  simp only [Session.ok, Bool.and_eq_true, decide_eq_true_eq, isSome_ite_some, isSome_announcedTcp htrack,
    Option.all_eq_true]
  refine ⟨⟨not_not.1 htcp, not_not.1 hports⟩, fun n hn => ?_⟩
  cases hb : bitOf (byteAt (wordBytes ws) 4) 6 <;> simp_all

end Sys2Proof.Machine

namespace Sys2Proof.Machine

variable (p : Part)

/-! #### The bus -/

theorem Part.keeps_outcome (frame : TxFrame) (stale completed : Bool) : p.Keeps (p.outcome frame stale completed) := by
  have split_on (a b : Part) (ha : p.Keeps a) (hb : p.Keeps b) : p.Keeps (if completed then a else b) := by
    split
    · exact ha
    · exact hb
  cases frame with
  | align => rfl
  | pulse => exact split_on _ _ (.of_eq (by simp) (by simp)) (.refl p)
  | delta => exact split_on _ _ (p.keeps_sessionCompleted _) p.keeps_sessionAbandoned
  | drop => exact split_on _ _ (p.keeps_sessionCompleted _) p.keeps_sessionAbandoned
  | receipt => exact .of_table rfl rfl rfl rfl
  | claim => exact split_on _ _ (.of_eq (by simp) (by simp)) (.of_eq (by simp) (by simp))
  | answer => exact split_on _ _ (.refl p) (.of_eq (by simp) (by simp))
  | yield g =>
    change p.Keeps (if completed || stale then p else p.queueYield g)
    split
    · rfl
    · exact .of_eq rfl rfl

theorem Part.keeps_endCopy (h : InHand) (completed : Bool) : p.Keeps (p.endCopy h completed) := by
  unfold Part.endCopy
  dsimp only
  split
  · exact .of_eq rfl rfl
  · exact .from_eq (Part.keeps_outcome _ _ _ _) rfl rfl

theorem Part.keeps_abandonLost : p.Keeps p.abandonLost := by
  unfold Part.abandonLost
  split
  · split
    · exact p.keeps_endCopy _ _
    · rfl
  · rfl

theorem Part.keeps_laneTo (l : Lane) (new : LaneState) : p.Keeps (p.laneTo l new) :=
  ((Part.keeps_abandonLost _).from_eq ((Part.laneNotice_smt _ l).trans (Part.setLane_smt p l _))
    ((Part.laneNotice_rpu _ l).trans (Part.setLane_rpu p l _))).then_eq (Part.chooseLane_smt _) (Part.chooseLane_rpu _)

/-- A change of a lane's record, then of its state where `c` says so. -/
theorem Part.keeps_setLane_laneTo (l : Lane) (r : LaneRec) (c : Prop) [Decidable c] (new : LaneState) :
    p.Keeps (if c then (p.setLane l r).laneTo l new else p.setLane l r) := by
  split
  · exact (Part.keeps_laneTo _ l new).from_eq rfl rfl
  · exact .of_eq rfl rfl

theorem Part.keeps_countBad (l : Lane) : p.Keeps (p.countBad l) := by
  unfold Part.countBad
  dsimp only
  split
  · exact p.keeps_setLane_laneTo l _ _ _
  · rfl

theorem Part.keeps_quietExpiry (l : Lane) : p.Keeps (p.quietExpiry l) := by
  unfold Part.quietExpiry
  split
  · exact p.keeps_laneTo l _
  · exact .of_eq rfl rfl

theorem Part.keeps_lateEvidence (l : Lane) : p.Keeps (p.lateEvidence l) := by
  unfold Part.lateEvidence
  split
  · exact p.keeps_laneTo l _
  · rfl

theorem Part.keeps_laneHears (l : Lane) : p.Keeps (p.laneHears l) :=
  (p.keeps_setLane_laneTo l _ _ _).trans (Part.keeps_lateEvidence _ _)

/-- Each frame that the transmitter takes is built by an act that keeps the invariants (R97). -/
theorem Part.keeps_takeFrame {q : Part} (h : p.takeFrame = some q) : p.Keeps q := by
  have align (l : Lane) (q : Part) (h : p.takeAlignFrame l = some q) : p.Keeps q := by
    unfold Part.takeAlignFrame at h
    dsimp only at h
    split at h <;> cases h
    exact .of_eq rfl rfl
  simp only [Part.takeFrame, Option.orElse_eq_orElse, Option.orElse_eq_or, Option.or_eq_some_iff] at h
  rcases h with h | ⟨-, h | ⟨-, h | ⟨-, h | ⟨-, h | ⟨-, h | ⟨-, h | ⟨-, h⟩⟩⟩⟩⟩⟩⟩
  · unfold Part.takeAnswerFrame at h
    split at h
    · split at h <;> cases h
      exact .of_eq rfl rfl
    · cases h
  · unfold Part.takeClaimFrame at h
    split at h
    · split at h <;> cases h
      exact .of_eq rfl rfl
    · cases h
  · unfold Part.takeYieldFrame at h
    split at h
    · split at h <;> cases h
      exact .of_eq rfl rfl
    · cases h
  · unfold Part.takeReceiptFrame at h
    split at h <;> cases h
    rename_i hb
    unfold Part.buildReceipt at hb
    split at hb <;> cases hb
    exact .of_table rfl rfl rfl rfl
  · unfold Part.takePulseFrame at h
    split at h <;> cases h
    exact .of_eq rfl rfl
  · unfold Part.takeSessionFrame at h
    split at h <;> cases h
    rename_i hb
    exact (p.keeps_buildSession hb).then_eq rfl rfl
  · exact align _ _ h
  · exact align _ _ h

theorem Part.keeps_transmitterTake : p.Keeps p.transmitterTake := by
  unfold Part.transmitterTake
  split
  · cases h : p.takeFrame with
    | none => rfl
    | some q => exact p.keeps_takeFrame h
  · rfl

theorem Part.keeps_collision : p.Keeps p.collision := by
  unfold Part.collision
  split
  · split
    · unfold Part.collide
      split
      · exact p.keeps_endCopy _ _
      · exact .of_eq rfl rfl
    · rfl
  · rfl

theorem Part.keeps_frameDone : p.Keeps p.frameDone := by
  unfold Part.frameDone
  split
  · split
    · exact p.keeps_endCopy _ _
    · rfl
  · rfl

/-! #### Peers -/

theorem Part.keeps_epoch (deadline : Tick) : p.Keeps (p.epoch deadline) := by
  have health (q : Part) : q.Keeps q.judgeHealth := by
    unfold Part.judgeHealth
    split
    · exact q.keeps_applyFence _
    · exact .of_eq (by simp) (by simp)
  unfold Part.epoch
  dsimp only
  split
  · exact .evaluateAll (.from_eq (health _) rfl rfl)
  · exact .of_eq rfl rfl

theorem Part.keeps_replicationHears (wasLive reborn first : Bool) : p.Keeps (p.replicationHears wasLive reborn first) := by
  have returned : p.Keeps (if wasLive then p.returnAll else p) := by
    split
    · exact p.keeps_returnAll
    · rfl
  unfold Part.replicationHears
  split
  · exact p.keeps_startRefresh
  · split
    · have emptied (q : Part) : q.Keeps q.emptyReceipts := .of_table rfl rfl rfl rfl
      exact (returned.trans (emptied _)).trans (Part.keeps_startRefresh _)
    · rfl

theorem Part.keeps_rolesHearOther (wasLive : Bool) : p.Keeps (p.rolesHearOther wasLive) := by
  unfold Part.rolesHearOther
  dsimp only
  split <;> exact .of_eq (by simp) (by simp)

theorem Part.keeps_rolesHearWitness (wasLive : Bool) : p.Keeps (p.rolesHearWitness wasLive) := by
  unfold Part.rolesHearWitness
  split <;> exact .of_eq (by simp) (by simp)

theorem Part.keeps_recordChanged (y : Station) (wasLive reborn first : Bool) :
    p.Keeps (p.recordChanged y wasLive reborn first) := by
  have expect (q : Part) : q.Keeps (if reborn then { q with mbi := { q.mbi with expect := q.mbi.expect.set y none } } else q) := by
    split <;> exact .of_eq rfl rfl
  have chosen (q : Part) : q.Keeps (if wasLive then q else q.chooseLane) := by
    split <;> exact .of_eq rfl rfl
  have marked (q : Part) : q.Keeps (if reborn then q.markRebirth else q) := by
    split <;> exact .of_eq rfl rfl
  have notice : p.Keeps (p.peerNotice y) := .of_eq (by simp) (by simp)
  have roles (q : Part) : q.Keeps
      (if q.isMember then
        if y = q.otherMember then
          ((if reborn then q.markRebirth else q).replicationHears wasLive reborn first).rolesHearOther wasLive
        else q.rolesHearWitness wasLive
      else if reborn then q.forgetAnswers y else q) := by
    split
    · split
      · exact ((marked _).trans (Part.keeps_replicationHears _ _ _ _)).trans (Part.keeps_rolesHearOther _ _)
      · exact q.keeps_rolesHearWitness _
    · split
      · exact .of_eq (by simp) (by simp)
      · rfl
  exact ((notice.trans (expect _)).trans (chosen _)).trans (roles _)

theorem Part.keeps_heard (y : Station) (l : Lane) (incarnation : BitVec 16) : p.Keeps (p.heard y l incarnation) := by
  unfold Part.heard
  dsimp only
  split
  · exact .of_eq rfl rfl
  · exact .from_eq (Part.keeps_recordChanged _ _ _ _ _) rfl rfl

theorem Part.keeps_lose (y : Station) : p.Keeps (p.lose y) := by
  have roles (q : Part) : q.Keeps
      (if q.isMember then if y = q.otherMember then q.returnAll.otherLost else q.testQuorum.evaluateAll else q) := by
    split
    · split
      · exact q.keeps_returnAll.trans (Part.keeps_otherLost _)
      · exact .evaluateAll q.keeps_testQuorum
    · rfl
  exact .from_eq (roles _) (Part.peerNotice_smt _ y) (Part.peerNotice_rpu _ y)

theorem Part.keeps_takePulse (y : Station) (c : PulseContent) : p.Keeps (p.takePulse y c) := by
  unfold Part.takePulse
  dsimp only
  refine .from_eq (q := p.writePulse y c) ?_ rfl rfl
  split
  · split
    · exact .from_eq (Part.keeps_pulseOfOther _ _ _) rfl rfl
    · exact .evaluateAll (.refl _)
  · rfl

/-! #### Receptions -/

theorem Part.keeps_handUp (x : Station) (c : Content) (hc : ∀ ws, c = .delta ws → ∀ w ∈ ws, w.session.ok = true) :
    p.Keeps (p.handUp x c) := by
  have member : p.Keeps (p.memberTakes x c) := by
    cases c with
    | align => rfl
    | pulse pc => exact p.keeps_takePulse x pc
    | delta ws => exact p.keeps_takeDelta (hc ws rfl)
    | drop pairs => exact p.keeps_takeDrop pairs
    | receipt pairs => exact p.keeps_takePairs pairs
    | claim f => exact p.keeps_takeClaim f
    | answer a => exact .of_eq (Part.takeAnswer_smt p x a) (Part.takeAnswer_rpu p x a)
    | yield g => exact .of_eq (Part.takeYield_smt p g) (Part.takeYield_rpu p g)
  have decided (f : ClaimFrame) : p.Keeps (p.witnessClaim x f) := by
    unfold Part.witnessClaim Part.decideClaim
    (repeat' (first | split | dsimp only)) <;> exact .of_eq rfl rfl
  have witness : p.Keeps (p.witnessTakes x c) := by
    cases c with
    | pulse pc => exact p.keeps_takePulse x pc
    | claim f => exact decided f
    | _ => rfl
  unfold Part.handUp
  split
  · exact witness
  · exact member

theorem Part.keeps_takeFromOther (l : Lane) (bytes : List Byte) (f : Frame)
    (hf : ∀ ws, f.content = .delta ws → ∀ w ∈ ws, w.session.ok = true) : p.Keeps (p.takeFromOther l bytes f) := by
  unfold Part.takeFromOther
  dsimp only
  refine .trans (q := (p.setExpect f.sender none).heard f.sender l f.incarnation)
    (.from_eq (Part.keeps_heard _ _ _ _) rfl rfl) ?_
  split
  · rfl
  · refine .from_eq (Part.keeps_handUp _ _ _ hf) ?_ ?_ <;> split <;> rfl

theorem Part.keeps_receive (kind : FrameKind) (l : Lane) (rx : Reception) : p.Keeps (p.receive kind l rx) := by
  unfold Part.receive
  split
  · split
    · rename_i f hj
      split
      · unfold Part.takeValid
        dsimp only
        refine (p.keeps_laneHears l).trans ?_
        split
        · exact Part.keeps_setLatch _
        · exact Part.keeps_takeFromOther _ _ _ _ fun _ hc => judge_ok hj hc
      · rfl
    · rfl
    · rfl
  · rfl

theorem Part.keeps_receiveBad (l : Lane) (rx : Reception) : p.Keeps (p.receiveBad l rx) := by
  unfold Part.receiveBad
  split
  · exact p.keeps_countBad l
  · rfl

/-! #### Records -/

theorem Part.keeps_pushWords (ws : List Word32) : p.Keeps (p.pushWords ws) :=
  .foldl (fun q w => by unfold Part.pushWord; split <;> exact .of_eq rfl rfl) ws p

theorem Part.keeps_takeProfile (ws : List Word32) : p.Keeps (p.takeProfile ws).1 := by
  have enabled (q : Part) (c : Profile) (l : Lane) : q.Keeps (q.enableLane c l) := by
    unfold Part.enableLane
    split
    · exact q.keeps_laneTo l _
    · rfl
  have started (q : Part) (c : Profile) : q.Keeps (if c.station = .s2 then q else q.startMember c) := by
    split
    · rfl
    · exact .of_eq (by simp [Part.startMember]) (by simp [Part.startMember])
  unfold Part.takeProfile
  split
  · rfl
  · split
    · rfl
    · exact .from_eq (.trans (.trans (enabled _ _ .a) (enabled _ _ .b)) (started _ _)) rfl rfl

theorem Part.keeps_takeOpen (ws : List Word32) : p.Keeps (p.takeOpen ws).1 := by
  unfold Part.takeOpen
  split
  · rfl
  · rename_i x hx
    split
    · rfl
    · refine .putEntry_some (fun _ => ?_) (.inl rfl)
      exact Entry.ok_owned (Session.contentOk_of_ok (readOpen_ok hx) rfl rfl rfl rfl) (Nat.zero_le _) rfl (.inl rfl)

/-- The entry that an UPDATE or a CLOSE acts on is the slot's, owned and live (R26, R28). -/
theorem Part.sessionCheck_ok {slot : Slot} {e : Entry} (h : p.sessionCheck slot = .ok e) :
    p.entry slot = some e ∧ e.state.live = true := by
  unfold Part.sessionCheck at h
  split at h
  · cases h
  split at h
  · cases h
  split at h
  · cases h
  · rename_i v hv
    split at h
    · cases h; exact Option.filter_eq_some_iff.1 hv
    · cases h

/-- A live entry is owned, and not closing (R2, R13). -/
theorem EntryState.owned_of_live {st : EntryState} (h : st.live = true) : st.owned = true ∧ st.closing = false := by
  cases st <;> simp_all [EntryState.live, EntryState.owned, EntryState.closing]

/-- A change of content leaves a live entry live, and in flight only where it was (R27). -/
theorem Entry.changed_spec (e : Entry) :
    e.changed.contentOk = e.contentOk ∧ e.changed.attempts = e.attempts ∧ (e.changed.state.inFlight = e.state.inFlight)
      ∧ (e.state.live = true → e.changed.state.live = true) := by
  cases hst : e.state <;> simp [Entry.changed, hst] <;> simp [Entry.contentOk, EntryState.inFlight, EntryState.live]

/-- The parts of an accepted UPDATE suit the entry (R26). -/
theorem Part.ok_updateEntry {u : UpdateRecord} {e : Entry} (hs : updateSuits u e = true) (hl : e.state.live = true)
    (h : e.ok = true) : (p.updateEntry u e).ok = true := by
  unfold Part.updateEntry
  set v : Entry := { e with lifetime := _, nat := _, tcp := _, refTick := _, ageOffset := _ } with hv
  have hcontent : v.contentOk = true := by
    have hc := Entry.contentOk_of_ok h
    simp only [Entry.contentOk, Bool.and_eq_true, decide_eq_true_eq] at hc ⊢
    obtain ⟨⟨⟨hlife, htcp⟩, hports⟩, hnat⟩ := hc
    simp only [updateSuits, Bool.and_eq_true, Bool.or_eq_true] at hs
    obtain ⟨hst, hsn⟩ := hs
    refine ⟨⟨⟨?_, ?_⟩, hports⟩, ?_⟩
    · cases hu : u.lifetime with
      | none => simpa [hv, hu] using hlife
      | some x => simp only [hv, hu, Option.map_some, Option.getD_some, clampLifetime]; split <;> simp_all
    · cases hu : u.tcp <;> simp_all
    · cases hu : u.nat <;> simp_all [NatItem.apply]
  obtain ⟨hc, ha, -, hlive⟩ := Entry.changed_spec v
  obtain ⟨ho, hcl⟩ := EntryState.owned_of_live (hlive hl)
  exact Entry.ok_owned (hc.trans hcontent) (ha.trans_le (Entry.attempts_of_ok (e := e) h)) ho (.inl hcl)

theorem Part.keeps_takeUpdate (ws : List Word32) : p.Keeps (p.takeUpdate ws).1 := by
  unfold Part.takeUpdate
  split
  · rfl
  · rename_i u _
    split
    · rfl
    · rename_i e hc
      obtain ⟨he, hl⟩ := p.sessionCheck_ok hc
      split
      · rename_i hs
        refine .putEntry_change he (p.ok_updateEntry hs hl) ?_
        have hf : (p.updateEntry u e).state.inFlight = e.state.inFlight := (Entry.changed_spec _).2.2.1
        rw [hf]
        exact (Bool.eq_false_or_eq_true _).symm
      · rfl

theorem Part.keeps_takeClose (ws : List Word32) : p.Keeps (p.takeClose ws).1 := by
  unfold Part.takeClose
  split
  · rfl
  · split
    · rfl
    · rename_i hc
      exact .flushTests (Part.keeps_closeEntry (p.sessionCheck_ok hc).1)

theorem Part.keeps_takeAlive (ws : List Word32) : p.Keeps (p.takeAlive ws).1 := by
  unfold Part.takeAlive
  split
  · rfl
  · split
    · rfl
    · split
      · rfl
      · exact .of_eq (Part.clearFence_smt _ _) (Part.clearFence_rpu _ _)

theorem Part.keeps_markInstalled (g : Group) (slot : Slot) : p.Keeps (p.markInstalled g slot) := by
  unfold Part.markInstalled
  split
  · rename_i e he
    split
    · rename_i hl
      simp only [Bool.and_eq_true] at hl
      obtain ⟨ho, hcl⟩ := EntryState.owned_of_live hl.1.1
      exact .setTable_change he (Entry.ok_restate · rfl (.inr rfl) ho (.inl hcl)) rfl
    · rfl
  · rfl

theorem Part.keeps_release (i : Fin 8) : p.Keeps (p.release i) := by
  have record (g : Group) (q : Part) (r : BufferRec) : q.Keeps (q.releaseRecord g r) := by
    unfold Part.releaseRecord
    split
    · exact .of_table rfl rfl rfl rfl
    · exact q.keeps_markInstalled _ _
  unfold Part.release
  split
  · rename_i g recs _ _ void _
    have records : p.Keeps (if void then p else recs.foldl (fun q r => q.releaseRecord g r) p) := by
      split
      · rfl
      · exact .foldl (record g) _ _
    have served (q : Part) : q.Keeps (q.setBuffer i .free).serveWaiting := .from_eq (Part.keeps_serveWaiting _) rfl rfl
    exact records.trans (served _)
  · rfl

theorem Part.keeps_takeRelease (ws : List Word32) : p.Keeps (p.takeRelease ws).1 := by
  unfold Part.takeRelease
  split
  · rfl
  split
  · rfl
  split
  · rfl
  split
  · split
    · exact p.keeps_release _
    · rfl
  · rfl

theorem Part.keeps_takeHandover (ws : List Word32) : p.Keeps (p.takeHandover ws).1 := by
  unfold Part.takeHandover
  split
  · rfl
  split
  · rfl
  split
  · rfl
  split
  · rfl
  split
  · exact p.keeps_enterYielding _ _ _
  · rfl

theorem Part.keeps_takeStatus (ws : List Word32) : p.Keeps (p.takeStatus ws).1 := by
  unfold Part.takeStatus
  split <;> rfl

theorem Part.keeps_handle (ws : List Word32) : p.Keeps (p.handle ws).1 := by
  unfold Part.handle
  split
  · exact p.keeps_takeProfile ws
  · exact p.keeps_takeOpen ws
  · exact p.keeps_takeUpdate ws
  · exact p.keeps_takeClose ws
  · exact p.keeps_takeAlive ws
  · exact p.keeps_takeRelease ws
  · exact p.keeps_takeHandover ws
  · exact p.keeps_takeStatus ws
  · rfl

/-- A record that is taken keeps the invariants where its handling does. -/
theorem Part.keeps_takeRecord {f : Part → List Word32 → Part × Option EgressRecord}
    (hf : ∀ (q : Part) ws, q.Keeps (f q ws).1) (kind : Option IngressKind) : p.Keeps (p.takeRecord kind f) := by
  have answered (x : Part × Option EgressRecord) : x.1.Keeps (Part.answerWith x) := by
    unfold Part.answerWith
    split
    · exact .of_eq rfl rfl
    · rfl
  unfold Part.takeRecord
  split
  · split
    · exact .from_eq (.trans (hf p.popIngress _) (answered _)) rfl rfl
    · rfl
  · rfl

/-! #### The egress FIFO -/

theorem Part.keeps_takeRevoked {x : EgressRecord × Part} (h : p.takeRevoked = some x) : p.Keeps x.2 := by
  unfold Part.takeRevoked at h
  split at h <;> cases h
  exact .of_table rfl rfl rfl rfl

theorem Part.keeps_takeBatch {x : EgressRecord × Part} (h : p.takeBatch = some x) : p.Keeps x.2 := by
  unfold Part.takeBatch at h
  split at h
  · cases h
  · split at h <;> cases h
    exact .of_eq rfl rfl

theorem Part.keeps_fillPlace (n : Nat) : p.Keeps (p.fillPlace n) := by
  unfold Part.fillPlace
  split
  · split
    · rename_i r q h
      simp only [Part.takeRevokedOrBatch, Option.orElse_eq_orElse, Option.orElse_eq_or, Option.or_eq_some_iff] at h
      have taken : p.Keeps q := by
        rcases h with h | ⟨-, h⟩
        · exact p.keeps_takeRevoked h
        · exact p.keeps_takeBatch h
      exact taken.then_eq rfl rfl
    · rfl
  · rfl

theorem Part.keeps_giveGeneral : p.Keeps p.giveGeneral := by
  unfold Part.giveGeneral
  dsimp only
  split
  · rename_i ws _
    split
    · have handled : p.Keeps (p.popIngress.handle ws).1 := (Part.keeps_handle _ ws).from_eq rfl rfl
      split
      · exact handled.then_eq rfl rfl
      · exact handled.trans (Part.keeps_fillPlace _ _)
    · exact p.keeps_fillPlace _
  · exact p.keeps_fillPlace _

theorem Part.keeps_emitMark {q : Part} (h : p.emitMark = some q) : p.Keeps q := by
  have role (g : Group) (h : p.emitRoleMark g = some q) : p.Keeps q := by
    obtain ⟨m, -, rfl⟩ := Option.map_eq_some_iff.1 h
    exact .of_eq rfl rfl
  have peer (y : Station) (h : p.emitPeerMark y = some q) : p.Keeps q := by
    unfold Part.emitPeerMark at h
    split at h <;> cases h
    exact .of_eq rfl rfl
  have lane (l : Lane) (h : p.emitLaneMark l = some q) : p.Keeps q := by
    unfold Part.emitLaneMark at h
    split at h <;> cases h
    exact .of_eq rfl rfl
  simp only [Part.emitMark, Option.orElse_eq_orElse, Option.orElse_eq_or, Option.or_eq_some_iff] at h
  rcases h with h | ⟨-, h | ⟨-, h | ⟨-, h | ⟨-, h | ⟨-, h | ⟨-, h⟩⟩⟩⟩⟩⟩
  · exact role _ h
  · exact role _ h
  · exact peer _ h
  · exact peer _ h
  · exact peer _ h
  · exact lane _ h
  · exact lane _ h

theorem Part.keeps_egressTaken : p.Keeps p.egressTaken := by
  unfold Part.egressTaken
  split
  · rfl
  · rename_i rest _
    dsimp only
    refine .from_eq (q := { p with evp := { p.evp with egress := rest } }) ?_ rfl rfl
    cases h : Part.emitMark { p with evp := { p.evp with egress := rest } } with
    | some q => exact Part.keeps_emitMark _ h
    | none =>
      rw [Option.getD_none]
      unfold Part.giveFreed
      split
      · exact Part.keeps_giveGeneral _
      · rfl

theorem Part.keeps_placeRevoked : p.Keeps p.placeRevoked := by
  unfold Part.placeRevoked
  split
  · split
    · rename_i h
      exact (p.keeps_takeRevoked h).then_eq rfl rfl
    · rfl
  · rfl

theorem Part.keeps_placeBatch : p.Keeps p.placeBatch := by
  unfold Part.placeBatch
  split
  · split
    · rename_i h
      exact (p.keeps_takeBatch h).then_eq rfl rfl
    · rfl
  · rfl

/-! #### Timers and walks -/

/-- An event keeps the invariants where its effect does. -/
theorem Part.keeps_onlyIf (c : Bool) {f : Part → Part} (hf : p.Keeps (f p)) : p.Keeps (p.onlyIf c f) := by
  unfold Part.onlyIf
  split
  · exact hf
  · rfl

theorem Part.keeps_receiptTimer : p.Keeps p.receiptTimer := by
  unfold Part.receiptTimer
  split
  · exact p.keeps_timeOut _
  · rfl

theorem Part.keeps_epochNow : p.Keeps p.epochNow := by
  unfold Part.epochNow
  split
  · exact p.keeps_onlyIf _ (p.keeps_epoch _)
  · rfl

theorem Part.keeps_listenEnd (g : Group) : p.Keeps (p.listenEnd g) := by
  unfold Part.listenEnd
  refine .evaluateAll ?_
  split <;> exact .of_eq (by simp) (by simp)

theorem Part.keeps_deadTimeEnd (g : Group) : p.Keeps (p.deadTimeEnd g) := by
  unfold Part.deadTimeEnd
  refine .evaluateAll ?_
  split
  · exact .from_eq (Part.keeps_resolveDeadline _ _ _) rfl rfl
  · exact .of_eq rfl rfl

theorem Part.keeps_windowNow (l : Lane) : p.Keeps (p.windowNow l) := by
  unfold Part.windowNow
  split
  · exact p.keeps_onlyIf _ (p.keeps_setLane_laneTo l _ _ _)
  · rfl

theorem Part.keeps_alignNow (l : Lane) : p.Keeps (p.alignNow l) := by
  unfold Part.alignNow
  split
  · exact p.keeps_onlyIf _ (.of_eq rfl rfl)
  · rfl

theorem Part.keeps_lapseGrant (g : Group) : p.Keeps (p.lapseGrant g) := .of_eq (by simp) (by simp)

theorem Part.keeps_refreshEnd : p.Keeps p.refreshEnd := by
  unfold Part.refreshEnd
  split
  · exact p.keeps_onlyIf _ (.of_table rfl rfl rfl rfl)
  · rfl

theorem Part.keeps_forgetEnd (g : Group) : p.Keeps (p.forgetEnd g) := by
  have held (q : Part) : q.Keeps (q.enterHeld g) := by
    unfold Part.enterHeld
    split
    · split
      · exact q.keeps_enterActive g _
      · rfl
    · rfl
  unfold Part.forgetEnd
  split
  · exact p.keeps_onlyIf _ (.trans (q := p.setForget g none) (.of_table rfl rfl rfl rfl) (held _))
  · rfl

/-- Once the clear walk has ended, every command but RESET and RESET_END keeps the invariants of the session table. -/
theorem Part.keeps_act (hw : p.smt.clearWalk = none) (i : Instr) : p.Keeps (p.act i) := by
  unfold Part.act
  cases i with
  | reset | fragment | resetEnd => rfl
  | clearWalkVisit => simp only [Part.clearVisit, hw]; rfl
  | clearWalkEnd => simp only [Part.clearEnd, hw]; rfl
  | profileRecord => exact p.keeps_takeRecord Part.keeps_takeProfile _
  | openRecord => exact p.keeps_takeRecord Part.keeps_takeOpen _
  | updateRecord => exact p.keeps_takeRecord Part.keeps_takeUpdate _
  | closeRecord => exact p.keeps_takeRecord Part.keeps_takeClose _
  | aliveRecord => exact p.keeps_takeRecord Part.keeps_takeAlive _
  | releaseRecord => exact p.keeps_takeRecord Part.keeps_takeRelease _
  | handoverRecord => exact p.keeps_takeRecord Part.keeps_takeHandover _
  | statusRecord => exact p.keeps_takeRecord Part.keeps_takeStatus _
  | malformedRecord => exact p.keeps_takeRecord (f := fun q ws => (q, refusal ws .malformed)) (fun q _ => .refl q) none
  | egressRecordTaken => exact p.keeps_egressTaken
  | revokedRecord => exact p.keeps_placeRevoked
  | batchRecord => exact p.keeps_placeBatch
  | alignFrame l rx | pulseFrame l rx | deltaFrame l rx | dropFrame l rx | receiptFrame l rx | claimFrame l rx
  | answerFrame l rx | yieldFrame l rx => exact p.keeps_receive _ l rx
  | badFrame l rx => exact p.keeps_receiveBad l rx
  | transmitterTake => exact p.keeps_transmitterTake
  | frameStart =>
    change p.Keeps p.startFrame
    unfold Part.startFrame
    (repeat' split) <;> exact .of_eq rfl rfl
  | collision => exact p.keeps_collision
  | backoffEnd =>
    change p.Keeps p.backoffOver
    unfold Part.backoffOver
    (repeat' split) <;> exact .of_eq rfl rfl
  | frameComplete => exact p.keeps_frameDone
  | receiptTimerExpiry => exact p.keeps_receiptTimer
  | pauseTimerExpiry => exact p.keeps_onlyIf _ (.of_table rfl rfl rfl rfl)
  | receiptDelay =>
    exact p.keeps_onlyIf _ (.trans (q := p.noteWaited) (.of_table rfl rfl rfl rfl) (Part.keeps_transmitterTake _))
  | livenessTimerExpiry y => exact p.keeps_onlyIf _ (p.keeps_lose y)
  | pulseEpoch => exact p.keeps_epochNow
  | engineSilenceTimerExpiry => exact p.keeps_onlyIf _ (.from_eq (Part.keeps_applyFence _ _) rfl rfl)
  | listenTimerExpiry g => exact p.keeps_onlyIf _ (p.keeps_listenEnd g)
  | vacancyTimerExpiry g => exact p.keeps_onlyIf _ (.evaluateAll (.of_eq rfl rfl))
  | deadTimeExpiry g => exact p.keeps_onlyIf _ (p.keeps_deadTimeEnd g)
  | holdOffExpiry g => exact p.keeps_onlyIf _ (.evaluateAll (.of_eq rfl rfl))
  | handoverTimerExpiry g => exact p.keeps_onlyIf _ (.evaluateAll (.of_eq (by simp) (by simp)))
  | healthWindowEnd l => exact p.keeps_windowNow l
  | quietExpiry l => exact p.keeps_onlyIf _ (p.keeps_quietExpiry l)
  | retrainTimerExpiry l report => exact p.keeps_onlyIf _ (p.keeps_setLane_laneTo l _ _ _)
  | lineFault l report => exact p.keeps_onlyIf _ (p.keeps_setLane_laneTo l _ _ _)
  | lineFaultClear l => exact p.keeps_setLane_laneTo l _ _ _
  | alignDue l => exact p.keeps_alignNow l
  | grantLapse g => exact p.keeps_onlyIf _ (p.keeps_lapseGrant g)
  | refreshWalkVisit => exact p.keeps_refreshVisit
  | refreshWalkEnd => exact p.keeps_refreshEnd
  | takeoverWalkVisit g => exact p.keeps_takeoverVisit g
  | takeoverWalkEnd g => exact p.keeps_takeoverEnd g
  | forgetWalkVisit g => exact p.keeps_forgetVisit g
  | forgetWalkEnd g => exact p.keeps_forgetEnd g
  | ingressRecordArrival ws => exact p.keeps_pushWords ws

end Sys2Proof.Machine

namespace Sys2Proof.Machine

/-! #### The part while the clear walk is under way -/

/-- The part at its reset state but for the reset input, the clock, the table, the clear walk's cursor, the line monitors and the
count of free choices: what `Part.clearing` lets differ (R17, R176). -/
def Part.erasing (held : Bool) (clock : Tick) (table : List (Slot × Entry)) (c : Nat) (a b : LineReport) (draws : Nat) :
    Part :=
  { Part.reset with
    evp := { Part.reset.evp with resetHeld := held }
    clock := clock
    smt := { Part.reset.smt with table := table, clearWalk := some c }
    mbi := { Part.reset.mbi with lanes := { a := { LaneRec.reset with monitor := a }, b := { LaneRec.reset with monitor := b } } }
    draws := draws }

theorem Part.clearing_erasing {held : Bool} {clock : Tick} {table : List (Slot × Entry)} {c : Nat} {a b : LineReport}
    {draws : Nat} (h : ∀ x ∈ table, c ≤ x.1.toNat) : (Part.erasing held clock table c a b draws).clearing = true := by
  simpa [Part.clearing, Part.erasing, Part.lane, PerLane.get] using h

theorem Part.clearing_of_none {p : Part} (h : p.smt.clearWalk = none) : p.clearing = true := by
  simp [Part.clearing, h]

/-- A part that clears is one of these, and lists no entry below the cursor. -/
theorem Part.eq_erasing_of_clearing {p : Part} {c : Nat} (h : p.clearing = true) (hw : p.smt.clearWalk = some c) :
    (∃ a b, p = .erasing p.evp.resetHeld p.clock p.smt.table c a b p.draws) ∧ ∀ x ∈ p.smt.table, c ≤ x.1.toNat := by
  simp only [Part.clearing, hw, Bool.and_eq_true, decide_eq_true_eq, List.all_eq_true] at h
  exact ⟨⟨_, _, h.1⟩, h.2⟩

/-- While the clear walk is under way and the part is not held, the walk's visit frees the slot at its cursor, its end comes past
slot 65,535, a line monitor may report, and every other command changes nothing. -/
theorem Part.act_erasing (clock : Tick) (table : List (Slot × Entry)) (c : Nat) (a b : LineReport) (draws : Nat)
    (i : Instr) :
    let p := Part.erasing false clock table c a b draws
    (∃ a' b', p.act i = .erasing false clock table c a' b' draws)
      ∨ (c < 65536 ∧ p.act i = .erasing false clock (tableErase table (slotAt c)) (c + 1) a b draws)
      ∨ (65536 ≤ c ∧ p.act i = { p with smt := { p.smt with clearWalk := none } }) := by
  intro p
  have same (h : p.act i = p) : ∃ a' b', p.act i = .erasing false clock table c a' b' draws := ⟨a, b, h⟩
  cases i with
  | clearWalkVisit =>
    by_cases hc : c < 65536
    · exact .inr (.inl ⟨hc, if_pos (decide_eq_true hc)⟩)
    · exact .inl (same (if_neg (by simpa using hc)))
  | clearWalkEnd =>
    by_cases hc : 65536 ≤ c
    · exact .inr (.inr ⟨hc, if_pos (decide_eq_true hc)⟩)
    · exact .inl (same (if_neg (by simpa using hc)))
  | lineFault l r =>
    refine .inl ?_
    by_cases hr : r = .noFault
    · exact same (if_neg (by simpa using hr))
    · have heq : p.act (.lineFault l r) = p.lineFault l r := if_pos (decide_eq_true hr)
      rw [heq]
      cases l
      · exact ⟨r, b, rfl⟩
      · exact ⟨a, r, rfl⟩
  | lineFaultClear l =>
    refine .inl ?_
    cases l
    · exact ⟨.noFault, b, rfl⟩
    · exact ⟨a, .noFault, rfl⟩
  | ingressRecordArrival ws => exact .inl (same (List.foldl_fixed' (fun _ => rfl) ws))
  | alignFrame l rx | pulseFrame l rx | deltaFrame l rx | dropFrame l rx | receiptFrame l rx | claimFrame l rx
  | answerFrame l rx | yieldFrame l rx | badFrame l rx => exact .inl (same (by cases l <;> rfl))
  | livenessTimerExpiry y => exact .inl (same (by cases y <;> rfl))
  | listenTimerExpiry g | vacancyTimerExpiry g | deadTimeExpiry g | holdOffExpiry g | handoverTimerExpiry g | grantLapse g
  | takeoverWalkVisit g | takeoverWalkEnd g | forgetWalkVisit g | forgetWalkEnd g =>
    exact .inl (same (by cases g <;> rfl))
  | healthWindowEnd l | quietExpiry l | retrainTimerExpiry l _ | alignDue l => exact .inl (same (by cases l <;> rfl))
  | _ => exact .inl (same rfl)

/-- A running part that clears keeps the invariants of the table and its own; the lists agree with the table as the walk ends. -/
theorem Part.act_of_clearing {p : Part} {c : Nat} (h : p.clearing = true) (hw : p.smt.clearWalk = some c)
    (hheld : p.evp.resetHeld = false) (i : Instr) :
    (p.act i).clearing = true ∧ (p.tableOk = true → (p.act i).tableOk = true)
      ∧ (p.entriesOk = true → (p.act i).entriesOk = true) ∧ ((p.act i).smt.clearWalk = none → (p.act i).Agree) := by
  obtain ⟨⟨a, b, hp⟩, hlow⟩ := Part.eq_erasing_of_clearing h hw
  rw [hheld] at hp
  generalize p.clock = clock, p.smt.table = table, p.draws = draws at hp hlow
  subst hp
  rcases Part.act_erasing clock table c a b draws i with ⟨a', b', heq⟩ | ⟨hc, heq⟩ | ⟨hc, heq⟩ <;> rw [heq]
  · exact ⟨Part.clearing_erasing hlow, id, id, nofun⟩
  · refine ⟨Part.clearing_erasing fun x hx => ?_, tableWf_erase _, fun hok => ?_, nofun⟩
    · obtain ⟨hx, hne⟩ := List.mem_filter.1 hx
      have hlt : x.1.toNat ≠ c := fun hxc => by
        refine of_decide_eq_true hne (BitVec.eq_of_toNat_eq ?_)
        simp only [slotAt, BitVec.toNat_ofNat]
        omega
      have := hlow x hx
      omega
    · exact all_ok_tableSet (slot := slotAt c) (e := none) hok (by simp)
  · have hempty : table = [] := List.eq_nil_iff_forall_not_mem.2 fun x hx => by
      have := hlow x hx
      have := x.1.isLt
      omega
    subst hempty
    refine ⟨Part.clearing_of_none rfl, id, id, fun _ => ⟨fun x => ?_, fun x => ?_, List.nodup_nil, List.nodup_nil⟩⟩
    · exact iff_of_false List.not_mem_nil Bool.false_ne_true
    · exact iff_of_false List.not_mem_nil Bool.false_ne_true

/-! #### Every step -/

/-- What a step makes of the part: the reset input and the clock may move alone, a RESET starts the clear walk on the table as it
stands, and a command acts on a part that is not held. -/
theorem step_part_cases {s t : State} (h : step s = .next t) :
    (∃ held clock, t.toPart = { s.toPart with evp := { s.evp with resetHeld := held }, clock := clock })
      ∨ t.toPart = .erasing true 0 s.smt.table 0 .noFault .noFault s.draws
      ∨ (s.evp.resetHeld = false ∧ ∃ i, t.toPart = s.toPart.act i) := by
  rcases step_cases h with rfl | rfl | ⟨i, q, hi⟩
  · exact .inl ⟨_, _, rfl⟩
  · exact .inl ⟨_, _, rfl⟩
  · rcases exec_cases hi with rfl | rfl | rfl | ⟨hh, rfl⟩
    · cases hi; exact .inr (.inl rfl)
    · change Host.Outcome.next _ = _ at hi
      split at hi <;> cases hi <;> exact .inl ⟨_, _, rfl⟩
    · exact .inl ⟨_, _, rfl⟩
    · exact .inr (.inr ⟨hh, i, rfl⟩)

/-- Neither the reset input nor the clock bears on a part that clears. -/
theorem Part.clearing_clock {p : Part} (h : p.clearing = true) (held : Bool) (clock : Tick) :
    ({ p with evp := { p.evp with resetHeld := held }, clock := clock } : Part).clearing = true := by
  cases hw : p.smt.clearWalk with
  | none => exact Part.clearing_of_none hw
  | some c =>
    obtain ⟨⟨a, b, hp⟩, hlow⟩ := Part.eq_erasing_of_clearing h hw
    rw [hp]
    exact Part.clearing_erasing hlow

/-- Settles O50: a command either keeps the invariants of the table (`Part.keeps_act`), or meets the clear walk
(`Part.act_of_clearing`). -/
theorem sessionTableStaysWellFormed : Obligations.SessionTableStaysWellFormed := by
  intro s t htable hentries hclear hstep
  rcases step_part_cases hstep with ⟨held, clock, ht⟩ | ht | ⟨hheld, i, ht⟩
  · rw [ht]
    exact ⟨htable, hentries, Part.clearing_clock hclear held clock⟩
  · rw [ht]
    exact ⟨htable, hentries, Part.clearing_erasing fun _ _ => Nat.zero_le _⟩
  · rw [ht]
    cases hw : s.smt.clearWalk with
    | none =>
      have keeps := s.toPart.keeps_act hw i
      exact ⟨keeps.tableOk htable, keeps.entriesOk hentries, Part.clearing_of_none (keeps.clearWalk.trans hw)⟩
    | some c =>
      obtain ⟨hc, htw, hok, -⟩ := Part.act_of_clearing hclear hw hheld i
      exact ⟨htw htable, hok hentries, hc⟩

/-- Settles O51, by the same cases: what keeps the table's invariants keeps the lists in step with it, and the clear walk ends on an
empty table with both lists empty. -/
theorem replicationListsAgreeWithTheTable : Obligations.ReplicationListsAgreeWithTheTable := by
  intro s t htable hclear hagree hstep hend
  rcases step_part_cases hstep with ⟨held, clock, ht⟩ | ht | ⟨hheld, i, ht⟩
  · rw [ht] at hend ⊢
    exact hagree hend
  · rw [ht] at hend
    cases hend
  · rw [ht] at hend ⊢
    cases hw : s.smt.clearWalk with
    | none =>
      have keeps := s.toPart.keeps_act hw i
      exact Part.listsAgree_of_agree (keeps.tableOk htable) (keeps.agree (Part.agree_of_listsAgree (hagree hw)))
    | some c =>
      obtain ⟨-, htw, -, hlists⟩ := Part.act_of_clearing hclear hw hheld i
      exact Part.listsAgree_of_agree (htw htable) (hlists hend)

end Sys2Proof.Machine

/-! ### The walks that pass the table -/

namespace Sys2Proof.Machine

/-- The slot that a cursor short of the end stands at (R16). -/
theorem eq_slotAt_iff {c : Nat} (hc : c < 65536) (x : Slot) : x = slotAt c ↔ x.toNat = c := by
  rw [← BitVec.toNat_inj, slotAt, BitVec.toNat_ofNat, Nat.mod_eq_of_lt hc]

/-! #### The clear walk -/

theorem Part.clearVisit_eq {p : Part} {c : Nat} (hw : p.smt.clearWalk = some c) (hc : c < 65536) :
    p.clearVisit
      = { p with smt := { p.smt with table := tableErase p.smt.table (slotAt c), clearWalk := some (c + 1) } } := by
  simp only [Part.clearVisit, hw]
  exact if_pos (decide_eq_true hc)

theorem Part.clearEnd_eq {p : Part} {c : Nat} (hw : p.smt.clearWalk = some c) (hc : 65536 ≤ c) :
    p.clearEnd = { p with smt := { p.smt with clearWalk := none } } := by
  simp only [Part.clearEnd, hw]
  exact if_pos (decide_eq_true hc)

/-! #### The forget walk -/

/-- What a visit of group `g`'s forget walk makes of the entry of its slot (R168). -/
def Entry.forgotten (e : Entry) (g : Group) : Entry := if e.group = g then { e with installed := false } else e

theorem Entry.forgotten_eq_self {e : Entry} {g : Group} (h : ¬ (e.group = g ∧ e.installed = true)) :
    e.forgotten g = e := by
  unfold Entry.forgotten
  split
  · cases e; simp_all
  · rfl

/-- A visit of the forget walk changes the entry of its slot and moves the cursor. -/
theorem Part.forgetVisit_eq {p : Part} {g : Group} {c : Nat} (hw : p.smt.forget.get g = some c) (hc : c < 65536) :
    ∃ table, p.forgetVisit g
        = { p with smt := { p.smt with table := table, forget := p.smt.forget.set g (some (c + 1)) } }
      ∧ ∀ x, tableGet table x = if x = slotAt c then (p.entry x).map (·.forgotten g) else p.entry x := by
  have kept (h : (p.entry (slotAt c)).map (·.forgotten g) = p.entry (slotAt c)) (x : Slot) :
      p.entry x = if x = slotAt c then (p.entry x).map (·.forgotten g) else p.entry x := by
    split
    · subst x; exact h.symm
    · rfl
  unfold Part.forgetVisit
  simp only [hw, if_neg (Nat.not_le.2 hc)]
  split
  · rename_i e he
    split
    · rename_i hm
      refine ⟨_, rfl, fun x => ?_⟩
      rw [Part.setTable, tableGet_set]
      split
      · subst x; simp [he, Entry.forgotten, hm.1]
      · rfl
    · rename_i hm
      exact ⟨_, rfl, kept (by rw [he, Option.map_some, Entry.forgotten_eq_self hm])⟩
  · rename_i he
    exact ⟨_, rfl, kept (by rw [he, Option.map_none])⟩

theorem Part.forgetEnd_eq {p : Part} {g : Group} {c : Nat} (hw : p.smt.forget.get g = some c) (hc : 65536 ≤ c) :
    p.forgetEnd g = (p.setForget g none).enterHeld g := by
  simp only [Part.forgetEnd, hw]
  exact if_pos (decide_eq_true hc)

theorem Part.enterHeld_of_held {p : Part} {g : Group} {x : ClaimRecord} (hx : (p.group g).claim = some x)
    (hh : x.held = true) : p.enterHeld g = p.enterActive g (claimWonCause x) := by
  simp [Part.enterHeld, hx, hh]

theorem Part.enterHeld_eq_self {p : Part} {g : Group} (h : ∀ x, (p.group g).claim = some x → x.held = false) :
    p.enterHeld g = p := by
  unfold Part.enterHeld
  split
  · rename_i x hx
    simp [h x hx]
  · rfl

/-! #### Entering ACTIVE (R129, R138) -/

/-- The part whose group has become ACTIVE, before the test for NO_QUORUM. -/
def Part.activated (p : Part) (g : Group) (cause : RoleCause) : Part :=
  (p.setRole g .active cause).setWalk g (some { cursor := 0, wait := .none })

theorem Part.enterActive_eq (p : Part) (g : Group) (cause : RoleCause) :
    p.enterActive g cause = (p.activated g cause).testQuorum := rfl

theorem Part.group_activated (p : Part) (g h : Group) (cause : RoleCause) :
    (p.activated g cause).group h = if h = g then (p.group g).enter .active else p.group h :=
  Part.group_setRole _ _ _ _ _

theorem Part.role_activated (p : Part) (g : Group) (cause : RoleCause) : (p.activated g cause).role g = .active := by
  simp [Part.role, Part.group_activated, GroupRec.enter]

theorem Part.sameWorld_activated (p : Part) (g : Group) (cause : RoleCause) : p.SameWorld (p.activated g cause) :=
  ⟨by simp [Part.activated], by simp [Part.activated], by simp [Part.activated]⟩

/-- An entry to ACTIVE loses the quorum exactly where a member with a witness configured finds neither other station LIVE (R138). -/
theorem Part.quorumLost_activated (p : Part) (g : Group) (cause : RoleCause) :
    (p.activated g cause).quorumLost = (p.isMember && p.witnessConfigured && !p.otherLive && !p.peerLive .s2) := by
  have w := p.sameWorld_activated g cause
  have hserving : (((p.activated g cause).role .g0).serving || ((p.activated g cause).role .g1).serving) = true := by
    have := p.role_activated g cause
    cases g <;> simp [this, Role.serving]
  simp [Part.quorumLost, w.isMember, w.witnessConfigured, w.otherLive, w.peerLive, hserving]

/-- The first fence cause, met as a group enters ACTIVE, fences every group at once (R140). -/
theorem Part.enterActive_fenced {p : Part} {g : Group} {cause : RoleCause} (hq : (p.activated g cause).quorumLost = true)
    (hf : p.rcu.fence.any = false) :
    p.enterActive g cause
      = ((p.activated g cause).setFence { p.rcu.fence with noQuorum := true }).fenceAll := by
  have hfence : (p.activated g cause).rcu.fence = p.rcu.fence := Part.setRole_fence _ _ _ _
  rw [Part.enterActive_eq, Part.testQuorum, if_pos hq, hfence, Part.applyFence_first _ _ (by rw [hfence]; exact hf)]

/-! #### The refresh walk -/

/-- What the refresh walk makes of an entry; none is FREE (R20). -/
def Entry.refreshed (e : Entry) : Option Entry :=
  if e.noted then some { e with noted := false }
  else if e.state = .clean then some { e with state := .dirty, version := e.version + 1, peerMayHold := false }
  else if e.state = .dirty then some { e with peerMayHold := false }
  else if e.state = .dropDue then none
  else some e

/-- What it makes of the Send List (R20, R37). -/
def Entry.refreshSends (e : Entry) (slot : Slot) (list : List Slot) : List Slot :=
  if e.noted = false ∧ e.state = .clean then list ++ [slot]
  else if e.noted = false ∧ e.state = .dropDue then list.filter fun x => decide (x ≠ slot)
  else list

/-- The Send List after the refresh walk's visit to the slot (R20, R37). -/
def Part.refreshedSends (p : Part) (slot : Slot) : List Slot :=
  match p.entry slot with
  | some e => e.refreshSends slot p.rpu.sendList
  | none => p.rpu.sendList

theorem Part.entry_refreshEntry {p : Part} {slot : Slot} {e : Entry} (he : p.entry slot = some e) (x : Slot) :
    (p.refreshEntry slot e).entry x = if x = slot then e.refreshed else p.entry x := by
  have kept (v : Entry) (hv : e = v) : p.entry x = if x = slot then some v else p.entry x := by
    split
    · subst x; rw [he, hv]
    · rfl
  unfold Part.refreshEntry Entry.refreshed
  cases e.noted
  case true => exact Part.entry_setTable _ _ _ _
  case false =>
    cases hst : e.state <;> simp only [Bool.false_eq_true, if_false, Part.entry_putEntry, reduceCtorEq, if_true]
    all_goals exact kept e rfl

/-- Where the lists agree with the table, the refresh walk moves no slot but on the Send List. -/
theorem Part.refreshEntry_eq {p : Part} (h : p.Agree) {slot : Slot} {e : Entry} (he : p.entry slot = some e) :
    p.refreshEntry slot e = { p with
      smt := { p.smt with table := (p.refreshEntry slot e).smt.table }
      rpu := { p.rpu with sendList := e.refreshSends slot p.rpu.sendList } } := by
  have put {v : Option Entry} {list : List Slot} (hnf : e.state.inFlight = false)
      (hl : sendPlace p.rpu.sendList slot v = list) :
      p.putEntry slot v = { p with
        smt := { p.smt with table := (p.putEntry slot v).smt.table }, rpu := { p.rpu with sendList := list } } := by
    have hout : slot ∉ p.rpu.inFlight.map (·.slot) := by rw [h.flight, he]; simp [hnf]
    have hfl : flightPlace p.rpu.inFlight slot v = p.rpu.inFlight := by
      unfold flightPlace
      split
      · rfl
      · exact List.filter_eq_self.2 fun r hr => decide_eq_true fun hs => hout (hs ▸ List.mem_map_of_mem hr)
    simp [Part.putEntry, hfl, hl]
  have hsend : slot ∈ p.rpu.sendList ↔ e.state.awaitsSend = true := by rw [h.send, he]; rfl
  unfold Part.refreshEntry Entry.refreshSends
  cases e.noted
  case true => rfl
  case false =>
    cases hst : e.state <;> simp only [hst, EntryState.awaitsSend] at hsend
    case clean => exact put (by rw [hst]; rfl) (by simp [sendPlace, EntryState.awaitsSend, hsend])
    case dirty => exact put (by rw [hst]; rfl) (by simp [sendPlace, EntryState.awaitsSend, hsend])
    case dropDue => exact put (by rw [hst]; rfl) (by simp [sendPlace])
    all_goals rfl

/-! #### The statements -/

/-- Settles O1: `step` matches on the queue. -/
theorem stepTakesTheFrontCommand : Obligations.StepTakesTheFrontCommand := fun _ _ => rfl

/-- A group that leaves its role for FENCED in the act of every group (R140). -/
theorem Part.group_fenceAll_of {p : Part} {g : Group} (h : p.role g ≠ .dormant ∧ p.role g ≠ .fenced) :
    p.fenceAll.group g = (p.group g).enter .fenced := by
  rw [Part.group_fenceAll, if_pos h]

/-- Settles O5: each walk's visit and end from its equation; the entry to ACTIVE at the end of the forget walk from whether the quorum
is lost. -/
theorem walksPassTheTable : Obligations.WalksPassTheTable := by
  refine ⟨fun s c hs hw => ⟨?clearVisit, ?clearEnd, ?notReady⟩,
    fun s g c hs hw => ⟨?forgetVisit, fun hc => ⟨?nothingHeld, ?entersActive, ?quorumLost⟩⟩⟩
  case clearVisit =>
    intro hc
    refine ⟨_, exec_of_act hs (Part.clearVisit_eq hw hc), fun slot => ?_, rfl⟩
    refine (tableGet_set s.smt.table (slotAt c) slot none).trans ?_
    simp only [eq_slotAt_iff hc]
    rfl
  case clearEnd => exact fun hc => exec_of_act hs (Part.clearEnd_eq hw hc)
  case notReady => simp [Part.ingressReady, hw]
  case forgetVisit =>
    intro hc
    obtain ⟨table, heq, hget⟩ := Part.forgetVisit_eq hw hc
    refine ⟨_, exec_of_act hs heq, fun x => (hget x).trans ?_, rfl⟩
    simp only [eq_slotAt_iff hc, Entry.forgotten]
    by_cases hx : x.toNat = c <;> simp [hx]
  case nothingHeld => exact fun h => exec_of_act hs ((Part.forgetEnd_eq hw hc).trans (Part.enterHeld_eq_self h))
  case entersActive =>
    intro x hx hh hquorum
    have hact : s.toPart.act (.forgetWalkEnd g) = (s.toPart.setForget g none).activated g (claimWonCause x) := by
      refine (Part.forgetEnd_eq hw hc).trans ((Part.enterHeld_of_held (p := s.toPart.setForget g none) hx hh).trans ?_)
      refine Part.testQuorum_of_not _ ((Part.quorumLost_activated _ _ _).trans ?_)
      change (s.isMember && s.witnessConfigured && !s.otherLive && !s.peerLive .s2) = false
      rcases hquorum with h | h | h <;> simp [h]
    have hgroup (h : Group) := Part.group_activated (s.toPart.setForget g none) g h (claimWonCause x)
    refine ⟨_, exec_of_act hs hact, Part.role_activated _ _ _, ?_, ?_, ?_, ?_, ?_, ?_, ?_⟩
    · exact (congrArg GroupRec.fp (hgroup g)).trans (by simp [GroupRec.enter])
    · exact (congrArg GroupRec.claim (hgroup g)).trans (by simp [GroupRec.enter])
    · exact (hgroup g.other).trans (if_neg (by cases g <;> decide))
    all_goals simp [Part.activated, Part.setWalk, Part.setForget]
  case quorumLost =>
    intro x hx hh hm hwc hol hpl hf
    set q := ((s.toPart.setForget g none).activated g (claimWonCause x)).setFence { s.rcu.fence with noQuorum := true }
      with hq
    have hact : s.toPart.act (.forgetWalkEnd g) = q.fenceAll := by
      refine (Part.forgetEnd_eq hw hc).trans ((Part.enterHeld_of_held (p := s.toPart.setForget g none) hx hh).trans ?_)
      refine Part.enterActive_fenced ((Part.quorumLost_activated _ _ _).trans ?_) hf
      change (s.isMember && s.witnessConfigured && !s.otherLive && !s.peerLive .s2) = true
      simp [hm, hwc, hol, hpl]
    have hrole (h : Group) : q.role h = if h = g then .active else s.role h := by
      refine (congrArg GroupRec.role (Part.group_activated _ g h _)).trans ?_
      split <;> rfl
    have hleft (h : Group) (hh : h = g ∨ (s.role h ≠ .dormant ∧ s.role h ≠ .fenced)) :
        q.fenceAll.group h = (q.group h).enter .fenced := by
      refine Part.group_fenceAll_of ?_
      rw [hrole]
      split
      · decide
      · rename_i hne
        exact hh.resolve_left hne
    obtain ⟨hforget, htakeover⟩ := q.walks_fenceAll (g := g) (by rw [hrole, if_pos rfl])
    refine ⟨_, exec_of_act hs hact, Part.fence_fenceAll q, ?_, hforget, htakeover, fun h hh => ⟨?_, ?_⟩⟩
    · exact congrArg GroupRec.claim (hleft g (.inl rfl))
    · exact congrArg GroupRec.role (hleft h hh)
    · exact congrArg GroupRec.fp (hleft h hh)

/-- The refresh walk's visit, where the lists agree with the table: the entry of its slot, the Send List, the cursor, then the flush
tests (R20, R134). -/
theorem Part.refreshVisit_eq {p : Part} (h : p.Agree) {c : Nat} (hw : p.smt.refreshWalk = some c) (hc : c < 65536) :
    ∃ table, p.refreshVisit
        = Part.flushTests { p with
          smt := { p.smt with table := table, refreshWalk := some (c + 1) }
          rpu := { p.rpu with sendList := p.refreshedSends (slotAt c) } }
      ∧ ∀ x, tableGet table x = if x = slotAt c then (p.entry x).bind Entry.refreshed else p.entry x := by
  unfold Part.refreshVisit Part.refreshedSends
  simp only [hw, if_neg (Nat.not_le.2 hc)]
  cases he : p.entry (slotAt c) with
  | none =>
    refine ⟨p.smt.table, rfl, fun x => ?_⟩
    split
    · subst x; rw [he]; exact he
    · rfl
  | some e =>
    refine ⟨(p.refreshEntry (slotAt c) e).smt.table, ?_, fun x => ?_⟩
    · exact congrArg (fun q : Part => Part.flushTests { q with smt := { q.smt with refreshWalk := some (c + 1) } })
        (Part.refreshEntry_eq h he)
    · refine (Part.entry_refreshEntry he x).trans ?_
      split
      · subst x; rw [he]; rfl
      · rfl

theorem Part.refreshEnd_eq {p : Part} {c : Nat} (hw : p.smt.refreshWalk = some c) (hc : 65536 ≤ c) :
    p.refreshEnd = { p with smt := { p.smt with refreshWalk := none } } := by
  simp only [Part.refreshEnd, hw]
  exact if_pos (decide_eq_true hc)

/-- Settles O45: the visit and the end of the refresh walk from their equations. -/
theorem refreshWalkMakesEntriesDue : Obligations.RefreshWalkMakesEntriesDue := by
  intro s c hs hw
  refine ⟨fun hc hagree => ?_, fun hc => exec_of_act hs (Part.refreshEnd_eq hw hc)⟩
  obtain ⟨table, heq, hget⟩ := Part.refreshVisit_eq (Part.agree_of_listsAgree hagree) hw hc
  exact ⟨s.withPart _, exec_of_act hs heq, hget, rfl⟩

end Sys2Proof.Machine

/-! ### What an ingress record carries -/

namespace Sys2Proof.Machine

/-! #### The words of a record, as its bytes give them (R182) -/

/-- Byte `n` of word `i`; both are 0 past the record's end. -/
theorem byteAt_wordBytes (ws : List Word32) (i : Nat) {n : Nat} (hn : n < 4) :
    byteAt (wordBytes ws) (4 * i + n) = (recordWord ws i).extractLsb' (8 * (3 - n)) 8 := by
  have hword (w : Word32) : (bytes32 w).getD n 0 = w.extractLsb' (8 * (3 - n)) 8 := by
    interval_cases n <;> rfl
  unfold byteAt wordBytes recordWord
  induction ws generalizing i with
  | nil => simp
  | cons w rest ih =>
    have hlen : (bytes32 w).length = 4 := rfl
    rw [List.flatMap_cons]
    cases i with
    | zero => rw [List.getD_append _ _ _ _ (by omega), Nat.mul_zero, Nat.zero_add, hword]; rfl
    | succ i =>
      rw [List.getD_append_right _ _ _ _ (by omega), hlen, show 4 * (i + 1) + n - 4 = 4 * i + n by omega, ih]; rfl

theorem toNat_byteAt (ws : List Word32) (i : Nat) {n : Nat} (hn : n < 4) :
    (byteAt (wordBytes ws) (4 * i + n)).toNat = recordByte ws i n := by
  rw [byteAt_wordBytes ws i hn, BitVec.extractLsb'_toNat, Nat.shiftRight_eq_div_pow, recordByte, pow_mul]
  rfl

/-- A bit of a flags byte, which is byte 0 of its word. -/
theorem bitOf_byteAt (ws : List Word32) (i : Nat) {b : Nat} (hb : b < 8) :
    bitOf (byteAt (wordBytes ws) (4 * i)) b = (recordWord ws i).getLsbD (24 + b) := by
  rw [bitOf, ← Nat.add_zero (4 * i), byteAt_wordBytes ws i (by decide), BitVec.getLsbD_extractLsb']
  simp [hb]

theorem at16_high (ws : List Word32) (i : Nat) : at16 (wordBytes ws) (4 * i) = recordHigh ws i := by
  refine (congrArg₂ _ (byteAt_wordBytes ws i (n := 0) (by decide)) (byteAt_wordBytes ws i (n := 1) (by decide))).trans ?_
  refine (BitVec.extractLsb'_append_extractLsb'_eq_extractLsb' rfl).trans (BitVec.eq_of_toNat_eq ?_)
  simp [recordHigh, BitVec.extractLsb'_toNat, Nat.shiftRight_eq_div_pow]

theorem at16_low (ws : List Word32) (i : Nat) : at16 (wordBytes ws) (4 * i + 2) = recordLow ws i := by
  refine (congrArg₂ _ (byteAt_wordBytes ws i (n := 2) (by decide)) (byteAt_wordBytes ws i (n := 3) (by decide))).trans ?_
  refine (BitVec.extractLsb'_append_extractLsb'_eq_extractLsb' rfl).trans (BitVec.eq_of_toNat_eq ?_)
  simp [recordLow, BitVec.extractLsb'_toNat]

theorem recordHigh_append_recordLow (ws : List Word32) (i : Nat) : recordHigh ws i ++ recordLow ws i = recordWord ws i := by
  refine BitVec.eq_of_toNat_eq ?_
  have := (recordWord ws i).isLt
  rw [BitVec.toNat_append, recordHigh, recordLow, BitVec.toNat_ofNat, BitVec.toNat_ofNat,
    ← Nat.shiftLeft_add_eq_or_of_lt (by omega), Nat.shiftLeft_eq]
  omega

theorem at32_word (ws : List Word32) (i : Nat) : at32 (wordBytes ws) (4 * i) = recordWord ws i :=
  (congrArg₂ _ (at16_high ws i) (at16_low ws i)).trans (recordHigh_append_recordLow ws i)

theorem at128_quad (ws : List Word32) (i : Nat) : at128 (wordBytes ws) (4 * i) = recordQuad ws i := by
  simp only [at128, recordQuad, ← at32_word, Nat.mul_add, Nat.reduceMul]

/-! #### The parts of an OPEN and an UPDATE -/

theorem readTcp_words (ws : List Word32) (i : Nat) (tracking : TrackingState) :
    readTcp (wordBytes ws) (4 * i) tracking = recordTcp ws i tracking := by
  simp only [readTcp, readTcpDir, recordTcp, at32, ← recordHigh_append_recordLow, ← at16_high, ← at16_low, Nat.mul_add,
    Nat.add_assoc, Nat.reduceMul, Nat.reduceAdd]

theorem readAddress_words (ws : List Word32) (i : Nat) (v6 : Bool) :
    readAddress (wordBytes ws) (4 * i) v6 = if v6 then .v6 (recordQuad ws i) else .v4 (recordWord ws i) := by
  simp only [readAddress, at128_quad, at32_word]

theorem readAddressPair_words (ws : List Word32) (i : Nat) (v6 : Bool) :
    readAddressPair (wordBytes ws) (4 * i) v6
      = if v6 then .v6 (recordQuad ws i) (recordQuad ws (i + 4)) else .v4 (recordWord ws i) (recordWord ws (i + 1)) := by
  simp only [readAddressPair, ← at128_quad, ← at32_word, Nat.mul_add, Nat.reduceMul]

theorem readNatDeclared_of_named {ws : List Word32} {i : Nat} (v6 : Bool)
    (h : recordByte ws i 0 = 1 ∨ recordByte ws i 0 = 2) :
    readNatDeclared (wordBytes ws) (4 * i) v6 = some (recordNat ws i v6) := by
  have hkind : natKindOfCode (byteAt (wordBytes ws) (4 * i))
      = some (if recordByte ws i 0 = 1 then .source else .destination) := by
    have : (byteAt (wordBytes ws) (4 * i)).toNat = recordByte ws i 0 := toNat_byteAt ws i (n := 0) (by decide)
    rcases h with h | h <;> simp [natKindOfCode, this, h]
  have hport : byteAt (wordBytes ws) (4 * i + 1) = 0#8 ↔ recordByte ws i 1 = 0 := by
    rw [← toNat_byteAt ws i (by decide)]
    exact BitVec.toNat_inj.symm
  have haddr := readAddress_words ws (i + 1) v6
  rw [Nat.mul_add, Nat.mul_one] at haddr
  simp [readNatDeclared, readNat, hkind, hport, haddr, at16_low, recordNat]

theorem readNatDeclared_isSome {ws : List Word32} {i : Nat} {v6 : Bool} :
    (readNatDeclared (wordBytes ws) (4 * i) v6).isSome = true ↔ recordByte ws i 0 = 1 ∨ recordByte ws i 0 = 2 := by
  refine ⟨fun h => ?_, fun h => by rw [readNatDeclared_of_named v6 h]; rfl⟩
  simp only [readNatDeclared, readNat, Option.isSome_map, natKindOfCode] at h
  rw [← toNat_byteAt ws i (n := 0) (by decide), Nat.add_zero]
  split at h
  · rename_i hb
    exact .inl hb
  · rename_i hb
    exact .inr hb
  · cases h

/-- A NAT part that a record declares suits a key of its family exactly where the port-present byte says what the key says (R22). -/
theorem natSuits_recordNat {key : Key} {v6 : Bool} (hv : key.addrs.isV6 = v6) (ws : List Word32) (i : Nat) :
    natSuits key (recordNat ws i v6) = true ↔ (recordByte ws i 1 ≠ 0 ↔ key.ports.isSome = true) := by
  have haddr : (recordNat ws i v6).addr.isV6 = key.addrs.isV6 := by rw [hv]; cases v6 <;> rfl
  rw [natSuits, haddr, decide_eq_true rfl, Bool.true_and, decide_eq_true_eq, recordNat]
  cases key.ports.isSome <;> by_cases h : recordByte ws i 1 = 0 <;> simp [h]

theorem trackingOfCode_of_named {ws : List Word32} {i n : Nat} (hn : n < 4)
    (h : 1 ≤ recordByte ws i n ∧ recordByte ws i n ≤ 3) :
    trackingOfCode (byteAt (wordBytes ws) (4 * i + n)) = some (trackingNamed (recordByte ws i n)) := by
  rw [trackingOfCode, toNat_byteAt ws i hn]
  obtain ⟨hl, hu⟩ := h
  interval_cases recordByte ws i n <;> rfl

theorem trackingOfCode_isSome {ws : List Word32} {i n : Nat} (hn : n < 4) :
    (trackingOfCode (byteAt (wordBytes ws) (4 * i + n))).isSome = true
      ↔ 1 ≤ recordByte ws i n ∧ recordByte ws i n ≤ 3 := by
  refine ⟨fun h => ?_, fun h => by rw [trackingOfCode_of_named hn h]; rfl⟩
  rw [trackingOfCode, toNat_byteAt ws i hn] at h
  split at h <;> simp_all

/-- The test of a tracking byte, which a TCP part alone needs (R22). -/
theorem trackingTest_iff {ws : List Word32} {i n : Nat} (hn : n < 4) (hasTcp : Bool) :
    ¬ (hasTcp && !(trackingOfCode (byteAt (wordBytes ws) (4 * i + n))).isSome) = true
      ↔ (hasTcp = true → 1 ≤ recordByte ws i n ∧ recordByte ws i n ≤ 3) := by
  rw [← trackingOfCode_isSome hn]
  cases hasTcp <;> cases (trackingOfCode (byteAt (wordBytes ws) (4 * i + n))).isSome <;> simp

theorem tcpPart_eq {ws : List Word32} {i n : Nat} (hn : n < 4) {hasTcp : Bool}
    (h : hasTcp = true → 1 ≤ recordByte ws i n ∧ recordByte ws i n ≤ 3) (j : Nat) :
    (if hasTcp then (trackingOfCode (byteAt (wordBytes ws) (4 * i + n))).map (readTcp (wordBytes ws) (4 * j)) else none)
      = if hasTcp then some (recordTcp ws j (trackingNamed (recordByte ws i n))) else none := by
  refine ite_congr rfl (fun ht => ?_) fun _ => rfl
  rw [trackingOfCode_of_named hn (h ht), Option.map_some, readTcp_words]

theorem natPart_eq {ws : List Word32} {i : Nat} {hasNat : Bool}
    (h : hasNat = true → recordByte ws i 0 = 1 ∨ recordByte ws i 0 = 2) (v6 : Bool) :
    (if hasNat then readNatDeclared (wordBytes ws) (4 * i) v6 else none)
      = if hasNat then some (recordNat ws i v6) else none :=
  ite_congr rfl (fun hn => readNatDeclared_of_named v6 (h hn)) fun _ => rfl

/-- The test of a NAT part against the key it comes with (R22). -/
theorem natTest_iff {key : Key} {v6 : Bool} (hv : key.addrs.isV6 = v6) (ws : List Word32) (i : Nat) (hasNat : Bool) :
    ¬ (hasNat && !((Option.map (natSuits key)
        (if hasNat then readNatDeclared (wordBytes ws) (4 * i) v6 else none)).getD false)) = true
      ↔ (hasNat = true → (recordByte ws i 0 = 1 ∨ recordByte ws i 0 = 2)
        ∧ (recordByte ws i 1 ≠ 0 ↔ key.ports.isSome = true)) := by
  rw [← readNatDeclared_isSome (v6 := v6), ← natSuits_recordNat hv]
  cases hasNat with
  | false => simp
  | true =>
    cases hr : readNatDeclared (wordBytes ws) (4 * i) v6 with
    | none => simp
    | some n =>
      have hnamed := readNatDeclared_isSome.1 (Option.isSome_of_eq_some hr)
      obtain rfl : recordNat ws i v6 = n := Option.some.inj ((readNatDeclared_of_named v6 hnamed).symm.trans hr)
      simp

/-! #### OPEN (R22, R184, R185) -/

/-- The word of an OPEN that holds its ports, where it has them (R185). -/
def openPortsAt (v6 : Bool) : Nat := if v6 then 11 else 5

/-- The word at which its NAT part begins, where it has one. -/
def openNatAt (v6 hasPorts : Bool) : Nat := if hasPorts then openPortsAt v6 + 1 else openPortsAt v6

/-- The word at which its TCP part begins, where it has one. -/
def openTcpAt (v6 hasPorts hasNat : Bool) : Nat :=
  if hasNat then (if v6 then openNatAt v6 hasPorts + 5 else openNatAt v6 hasPorts + 2) else openNatAt v6 hasPorts

/-- The form tests of an OPEN with these flags (R22). -/
def openFormOk (ws : List Word32) (v6 hasNat hasTcp hasPorts : Bool) : Prop :=
  ws.length = (if hasTcp then openTcpAt v6 hasPorts hasNat + 7 else openTcpAt v6 hasPorts hasNat)
    ∧ (hasPorts = true ↔ recordByte ws 1 1 = 1 ∨ recordByte ws 1 1 = 6 ∨ recordByte ws 1 1 = 17)
    ∧ (hasTcp = true ↔ recordByte ws 1 1 = 6)
    ∧ (hasNat = true → (recordByte ws (openNatAt v6 hasPorts) 0 = 1 ∨ recordByte ws (openNatAt v6 hasPorts) 0 = 2)
        ∧ (recordByte ws (openNatAt v6 hasPorts) 1 ≠ 0 ↔ hasPorts = true))
    ∧ (hasTcp = true → 1 ≤ recordByte ws 1 3 ∧ recordByte ws 1 3 ≤ 3)

/-- The session that an OPEN with these flags carries (R184, R185). -/
def openSession (ws : List Word32) (v6 hasNat hasTcp hasPorts : Bool) : Session :=
  { group := groupOfBit ((recordWord ws 1).getLsbD 24)
    key :=
      { addrs := if v6 then .v6 (recordQuad ws 3) (recordQuad ws 7) else .v4 (recordWord ws 3) (recordWord ws 4)
        protocol := byteAt (wordBytes ws) 5
        ports := if hasPorts then
            some { src := recordHigh ws (openPortsAt v6), dst := recordLow ws (openPortsAt v6) }
          else none
        zone := zoneOfByte (byteAt (wordBytes ws) 6) }
    nat := if hasNat then some (recordNat ws (openNatAt v6 hasPorts) v6) else none
    tcp := if hasTcp then
        some (recordTcp ws (openTcpAt v6 hasPorts hasNat) (trackingNamed (recordByte ws 1 3)))
      else none
    lifetime := recordHigh ws 2 }

theorem openPortsAt_bytes (v6 : Bool) : 12 + addressPairSize v6 = 4 * openPortsAt v6 := by cases v6 <;> rfl

theorem openNatAt_bytes (v6 hasPorts : Bool) :
    4 * openPortsAt v6 + (if hasPorts then 4 else 0) = 4 * openNatAt v6 hasPorts := by cases hasPorts <;> rfl

theorem openTcpAt_bytes (v6 hasPorts hasNat : Bool) :
    4 * openNatAt v6 hasPorts + (if hasNat then natSize v6 else 0) = 4 * openTcpAt v6 hasPorts hasNat := by
  cases hasNat <;> cases v6 <;> rfl

theorem openLength_eq (v6 hasPorts hasNat hasTcp : Bool) :
    openLength v6 hasPorts hasNat hasTcp
      = if hasTcp then openTcpAt v6 hasPorts hasNat + 7 else openTcpAt v6 hasPorts hasNat := by
  cases v6 <;> cases hasPorts <;> cases hasNat <;> cases hasTcp <;> rfl

/-- What `readOpen` answers, by words: the tests it makes and the session it reads. -/
theorem readOpen_eq_some_iff (ws : List Word32) (x : Session) :
    readOpen ws = some x ↔
      openFormOk ws ((recordWord ws 1).getLsbD 31) ((recordWord ws 1).getLsbD 30) ((recordWord ws 1).getLsbD 29)
        ((recordWord ws 1).getLsbD 28)
      ∧ x = openSession ws ((recordWord ws 1).getLsbD 31) ((recordWord ws 1).getLsbD 30) ((recordWord ws 1).getLsbD 29)
        ((recordWord ws 1).getLsbD 28) := by
  have bit (b : Nat) (hb : b < 8) : bitOf (byteAt (wordBytes ws) 4) b = (recordWord ws 1).getLsbD (24 + b) :=
    bitOf_byteAt ws 1 hb
  have hlife : at16 (wordBytes ws) 8 = recordHigh ws 2 := at16_high ws 2
  have haddrs (v6 : Bool) : readAddressPair (wordBytes ws) 12 v6
    = if v6 then .v6 (recordQuad ws 3) (recordQuad ws 7) else .v4 (recordWord ws 3) (recordWord ws 4) :=
    readAddressPair_words ws 3 v6
  simp only [readOpen, Option.ite_none_left_eq_some, bit 7 (by decide), bit 6 (by decide), bit 5 (by decide),
    bit 4 (by decide), bit 0 (by decide), hlife, haddrs, openPortsAt_bytes, openNatAt_bytes, openTcpAt_bytes, openLength_eq,
    at16_high, at16_low, Nat.reduceAdd]
  generalize (recordWord ws 1).getLsbD 31 = v6, (recordWord ws 1).getLsbD 30 = hasNat, (recordWord ws 1).getLsbD 29 = hasTcp,
    (recordWord ws 1).getLsbD 28 = hasPorts
  have hports : hasPorts = protocolHasPorts (byteAt (wordBytes ws) 5)
      ↔ (hasPorts = true ↔ recordByte ws 1 1 = 1 ∨ recordByte ws 1 1 = 6 ∨ recordByte ws 1 1 = 17) := by
    rw [Bool.eq_iff_iff, ← toNat_byteAt ws 1 (n := 1) (by decide)]
    simp [protocolHasPorts, or_assoc]
  have htcp : hasTcp = decide ((byteAt (wordBytes ws) 5).toNat = 6) ↔ (hasTcp = true ↔ recordByte ws 1 1 = 6) := by
    rw [Bool.eq_iff_iff, ← toNat_byteAt ws 1 (n := 1) (by decide), decide_eq_true_eq]
  have htrack := trackingTest_iff (ws := ws) (i := 1) (n := 3) (by decide) hasTcp
  have htcpPart (h) := tcpPart_eq (ws := ws) (i := 1) (n := 3) (by decide) (hasTcp := hasTcp) h
    (openTcpAt v6 hasPorts hasNat)
  set key : Key := { addrs := _, protocol := _, ports := _, zone := _ } with hkey
  have hnat := natTest_iff (key := key) (v6 := v6) (by cases v6 <;> rfl) ws (openNatAt v6 hasPorts) hasNat
  rw [show key.ports.isSome = hasPorts from isSome_ite_some _ _] at hnat
  simp only [Nat.reduceMul, Nat.reduceAdd] at htrack htcpPart
  simp only [not_lt, ne_eq, not_not, hports, htcp, htrack, hnat, Option.some.injEq, openFormOk]
  constructor
  · rintro ⟨-, hl, hp, ht, hn, hc, rfl⟩
    refine ⟨⟨hl, hp, ht, hn, hc⟩, ?_⟩
    rw [natPart_eq fun h => (hn h).1, htcpPart hc]
    rfl
  · rintro ⟨⟨hl, hp, ht, hn, hc⟩, rfl⟩
    refine ⟨?_, hl, hp, ht, hn, hc, ?_⟩
    · rw [hl, ← openLength_eq]
      unfold openLength
      omega
    · rw [natPart_eq fun h => (hn h).1, htcpPart hc]
      rfl

theorem readOpen_ne_none_iff (ws : List Word32) :
    readOpen ws ≠ none ↔ openFormOk ws ((recordWord ws 1).getLsbD 31) ((recordWord ws 1).getLsbD 30)
      ((recordWord ws 1).getLsbD 29) ((recordWord ws 1).getLsbD 28) := by
  simp only [Option.ne_none_iff_exists', readOpen_eq_some_iff, exists_and_left, exists_eq, and_true]

/-- The zone of an OPEN whose zone byte is at most 15 (R25). -/
theorem toNat_zone {ws : List Word32} (h : recordByte ws 1 2 ≤ 15) :
    (zoneOfByte (byteAt (wordBytes ws) 6)).toNat = recordByte ws 1 2 := by
  have hbyte : (byteAt (wordBytes ws) 6).toNat = recordByte ws 1 2 := toNat_byteAt ws 1 (n := 2) (by decide)
  rw [zoneOfByte, if_pos (hbyte ▸ h), BitVec.toNat_setWidth, hbyte, Nat.mod_eq_of_lt (by omega)]

/-! #### UPDATE (R22, R185) -/

/-- The word of an UPDATE at which its TCP part begins, where it has one (R185). -/
def updateTcpAt (v6 : Bool) (item : Nat) : Nat := if item = 1 then (if v6 then 7 else 4) else 2

/-- The form tests of an UPDATE with these flags (R22). -/
def updateFormOk (ws : List Word32) (v6 hasTcp : Bool) (item : Nat) : Prop :=
  ws.length = (if hasTcp then updateTcpAt v6 item + 7 else updateTcpAt v6 item)
    ∧ (item = 1 → recordByte ws 2 0 = 1 ∨ recordByte ws 2 0 = 2)
    ∧ (hasTcp = true → 1 ≤ recordByte ws 1 1 ∧ recordByte ws 1 1 ≤ 3)

/-- The fields of an UPDATE with these flags (R184, R185). -/
def updateFields (ws : List Word32) (v6 hasTcp : Bool) (item : Nat) : UpdateRecord :=
  { slot := recordLow ws 0
    lifetime := if (recordWord ws 1).getLsbD 30 then some (recordLow ws 1) else none
    nat := if item = 0 then .keep else if item = 1 then .replace (recordNat ws 2 v6) else .remove
    tcp := if hasTcp then some (recordTcp ws (updateTcpAt v6 item) (trackingNamed (recordByte ws 1 1))) else none }

theorem updateTcpAt_bytes (v6 : Bool) (item : Nat) :
    8 + (if decide (item = 1) then natSize v6 else 0) = 4 * updateTcpAt v6 item := by
  unfold updateTcpAt
  by_cases h : item = 1 <;> cases v6 <;> simp [h, natSize]

theorem updateLength_eq (v6 hasTcp : Bool) (item : Nat) :
    2 + (if decide (item = 1) then (if v6 then 5 else 2) else 0) + (if hasTcp then 7 else 0)
      = if hasTcp then updateTcpAt v6 item + 7 else updateTcpAt v6 item := by
  unfold updateTcpAt
  by_cases h : item = 1 <;> cases v6 <;> cases hasTcp <;> simp [h]

/-- What `readUpdate` answers, by words: the tests it makes and the fields it reads. -/
theorem readUpdate_eq_some_iff (ws : List Word32) (u : UpdateRecord) :
    readUpdate ws = some u ↔
      updateFormOk ws ((recordWord ws 1).getLsbD 31) ((recordWord ws 1).getLsbD 29) (recordByte ws 1 0 % 4)
      ∧ u = updateFields ws ((recordWord ws 1).getLsbD 31) ((recordWord ws 1).getLsbD 29) (recordByte ws 1 0 % 4) := by
  have bit (b : Nat) (hb : b < 8) : bitOf (byteAt (wordBytes ws) 4) b = (recordWord ws 1).getLsbD (24 + b) :=
    bitOf_byteAt ws 1 hb
  have hitem : (byteAt (wordBytes ws) 4 &&& 3).toNat = recordByte ws 1 0 % 4 := by
    rw [← toNat_byteAt ws 1 (n := 0) (by decide), BitVec.toNat_and]
    exact Nat.and_two_pow_sub_one_eq_mod _ 2
  have hslot : recordParameter ws = recordLow ws 0 := at16_low ws 0
  have hlife : at16 (wordBytes ws) 6 = recordLow ws 1 := at16_low ws 1
  simp only [readUpdate, Option.ite_none_left_eq_some, bit 7 (by decide), bit 6 (by decide), bit 5 (by decide), hitem, hslot,
    hlife, updateTcpAt_bytes, updateLength_eq, Nat.reduceAdd]
  generalize (recordWord ws 1).getLsbD 31 = v6, (recordWord ws 1).getLsbD 29 = hasTcp, recordByte ws 1 0 % 4 = item
  have htrack := trackingTest_iff (ws := ws) (i := 1) (n := 1) (by decide) hasTcp
  have htcpPart (h) := tcpPart_eq (ws := ws) (i := 1) (n := 1) (by decide) (hasTcp := hasTcp) h (updateTcpAt v6 item)
  have hnat : ¬ (decide (item = 1)
        && !(if decide (item = 1) then readNatDeclared (wordBytes ws) 8 v6 else none).isSome) = true
      ↔ (item = 1 → recordByte ws 2 0 = 1 ∨ recordByte ws 2 0 = 2) := by
    rw [← readNatDeclared_isSome (v6 := v6)]
    by_cases h : item = 1 <;> cases hr : (readNatDeclared (wordBytes ws) 8 v6).isSome <;> simp [h, hr]
  have hnatPart (h : item = 1 → recordByte ws 2 0 = 1 ∨ recordByte ws 2 0 = 2) :
      (if decide (item = 1) then readNatDeclared (wordBytes ws) 8 v6 else none)
        = if decide (item = 1) then some (recordNat ws 2 v6) else none :=
    natPart_eq (i := 2) (fun hi => h (of_decide_eq_true hi)) v6
  simp only [Nat.reduceMul, Nat.reduceAdd] at htrack htcpPart
  simp only [not_lt, ne_eq, not_not, htrack, hnat, Option.some.injEq, updateFormOk, updateFields]
  constructor
  · rintro ⟨-, hl, hn, hc, rfl⟩
    refine ⟨⟨hl, hn, hc⟩, ?_⟩
    rw [htcpPart hc, hnatPart hn]
    rcases item with _ | _ | n <;> rfl
  · rintro ⟨⟨hl, hn, hc⟩, rfl⟩
    refine ⟨?_, hl, hn, hc, ?_⟩
    · rw [hl, ← updateLength_eq]
      omega
    · rw [htcpPart hc, hnatPart hn]
      rcases item with _ | _ | n <;> rfl

theorem readUpdate_ne_none_iff (ws : List Word32) :
    readUpdate ws ≠ none
      ↔ updateFormOk ws ((recordWord ws 1).getLsbD 31) ((recordWord ws 1).getLsbD 29) (recordByte ws 1 0 % 4) := by
  simp only [Option.ne_none_iff_exists', readUpdate_eq_some_iff, exists_and_left, exists_eq, and_true]

end Sys2Proof.Machine

/-! ### Taking and refusing the record in hand -/

namespace Sys2Proof.Machine

/-! #### The record in hand and its refusal (R172, R173) -/

/-- What takes a record of a kind. -/
def IngressKind.take : IngressKind → Part → List Word32 → Part × Option EgressRecord
  | .profile => Part.takeProfile
  | .open => Part.takeOpen
  | .update => Part.takeUpdate
  | .close => Part.takeClose
  | .alive => Part.takeAlive
  | .release => Part.takeRelease
  | .handover => Part.takeHandover
  | .status => Part.takeStatus

theorem Part.act_command (p : Part) (k : IngressKind) : p.act k.command = p.takeRecord (some k) k.take := by
  cases k <;> rfl

/-- A record in hand that waits for nothing is taken by its command (R172). -/
theorem State.takeRecord_of_hasRecord {s : State} {kind : Option IngressKind} {ws : List Word32}
    {rest : List (List Word32)} (h : s.hasRecord kind ws rest) (hroom : kind = some .release → s.releaseRoom ws = true)
    (f : Part → List Word32 → Part × Option EgressRecord) :
    s.toPart.takeRecord kind f = Part.answerWith (f (s.leaves rest).toPart ws) := by
  obtain ⟨-, hin, hcomplete, hkind, hopen⟩ := h
  have hwaits : s.recordWaitsNot ws = true := by
    by_cases hr : kind = some .release <;> simp [Part.recordWaitsNot, hkind, hr, hroom]
  have hpop : s.toPart.popIngress = (s.leaves rest).toPart := by simp [Part.popIngress, State.leaves, hin]
  have htake : s.toPart.takeable kind = some ws := by simp [Part.takeable, Part.inHandRecord, hin, hcomplete, hkind, hwaits]
  simp [Part.takeRecord, htake, Part.generalOpen, hopen, hpop]

theorem exec_command {s : State} {k : IngressKind} {ws : List Word32} {rest : List (List Word32)}
    (h : s.hasRecord (some k) ws rest) {x : Part × Option EgressRecord} (hx : k.take (s.leaves rest).toPart ws = x)
    (hroom : k = .release → s.releaseRoom ws = true := by exact nofun) :
    exec k.command s = .next (s.withPart (Part.answerWith x)) :=
  exec_of_act h.1
    (by rw [Part.act_command, State.takeRecord_of_hasRecord h (fun hk => hroom (Option.some.inj hk)), hx])
    (by cases k <;> nofun) (by cases k <;> nofun)

/-- The code of a kind of ingress record (R182). -/
def IngressKind.code : IngressKind → Byte
  | .profile => 1 | .open => 2 | .update => 3 | .close => 4 | .alive => 5 | .release => 6 | .handover => 7 | .status => 8

theorem recordKindByte_of_kind {ws : List Word32} {k : IngressKind} (h : recordKind ws = some k) :
    recordKindByte ws = k.code := by
  unfold recordKind ingressKindOfCode at h
  split at h <;> cases h <;> (rename_i hb; exact BitVec.eq_of_toNat_eq hb)

/-- The slot field of a refusal, by the kind of the record (R21). -/
def IngressKind.slotField (k : IngressKind) (ws : List Word32) : Slot :=
  match k with
  | .open | .update | .close => recordParameter ws
  | _ => 0

theorem refusal_of_kind {ws : List Word32} {k : IngressKind} (h : recordKind ws = some k) (cause : RefusalCause) :
    refusal ws cause = some (.refused k.code (k.slotField ws) cause) := by
  rw [refusal, recordKindByte_of_kind h, refusedSlot, h]
  cases k <;> rfl

/-- A record that is taken by refusing it changes nothing else (R21, R173). -/
theorem exec_refused {s : State} {k : IngressKind} {ws : List Word32} {rest : List (List Word32)} {cause : RefusalCause}
    (h : s.hasRecord (some k) ws rest)
    (hx : k.take (s.leaves rest).toPart ws = ((s.leaves rest).toPart, refusal ws cause))
    (hroom : k = .release → s.releaseRoom ws = true := by exact nofun) :
    exec k.command s = .next (s.refuses rest k.code (k.slotField ws) cause) := by
  have hkind : recordKind ws = some k := h.2.2.2.1
  rw [exec_command h hx hroom, refusal_of_kind hkind]
  rfl

/-- A record that is taken without an answer. -/
theorem exec_taken {s : State} {k : IngressKind} {ws : List Word32} {rest : List (List Word32)} {q : Part}
    (h : s.hasRecord (some k) ws rest) (hx : k.take (s.leaves rest).toPart ws = (q, none))
    (hroom : k = .release → s.releaseRoom ws = true := by exact nofun) :
    exec k.command s = .next (s.withPart q) := exec_command h hx hroom

/-! #### The checks, in their order (R22, R23, R26, R28, R152) -/

section

variable {p : Part} {ws : List Word32}

theorem Part.takeOpen_malformed (h : readOpen ws = none) : p.takeOpen ws = (p, refusal ws .malformed) := by
  simp [Part.takeOpen, h]

theorem Part.takeOpen_refused {x : Session} {cause : RefusalCause} (h : readOpen ws = some x)
    (hc : p.openCheck (recordParameter ws) x.group = some cause) : p.takeOpen ws = (p, refusal ws cause) := by
  simp [Part.takeOpen, h, hc]

theorem Part.takeOpen_taken {x : Session} (h : readOpen ws = some x)
    (hc : p.openCheck (recordParameter ws) x.group = none) :
    p.takeOpen ws = (p.putEntry (recordParameter ws) (some (p.openEntry x)), none) := by
  simp [Part.takeOpen, h, hc]

theorem Part.takeUpdate_malformed (h : readUpdate ws = none) : p.takeUpdate ws = (p, refusal ws .malformed) := by
  simp [Part.takeUpdate, h]

theorem Part.takeUpdate_refused {u : UpdateRecord} {cause : RefusalCause} (h : readUpdate ws = some u)
    (hc : p.sessionCheck u.slot = .error cause) : p.takeUpdate ws = (p, refusal ws cause) := by
  simp [Part.takeUpdate, h, hc]

theorem Part.takeUpdate_unsuited {u : UpdateRecord} {e : Entry} (h : readUpdate ws = some u)
    (hc : p.sessionCheck u.slot = .ok e) (hs : updateSuits u e = false) :
    p.takeUpdate ws = (p, refusal ws .malformed) := by
  simp [Part.takeUpdate, h, hc, hs]

theorem Part.takeUpdate_taken {u : UpdateRecord} {e : Entry} (h : readUpdate ws = some u)
    (hc : p.sessionCheck u.slot = .ok e) (hs : updateSuits u e = true) :
    p.takeUpdate ws = (p.putEntry u.slot (some (p.updateEntry u e)), none) := by
  simp [Part.takeUpdate, h, hc, hs]

theorem Part.takeClose_malformed (h : ws.length ≠ 1) : p.takeClose ws = (p, refusal ws .malformed) := by
  simp [Part.takeClose, h]

theorem Part.takeClose_refused {cause : RefusalCause} (h : ws.length = 1)
    (hc : p.sessionCheck (recordParameter ws) = .error cause) : p.takeClose ws = (p, refusal ws cause) := by
  simp [Part.takeClose, h, hc]

theorem Part.takeClose_taken {e : Entry} (h : ws.length = 1) (hc : p.sessionCheck (recordParameter ws) = .ok e) :
    p.takeClose ws = ((p.closeEntry (recordParameter ws) e).flushTests, none) := by
  simp [Part.takeClose, h, hc]

theorem Part.isWitness_eq_true (hp : p.profile ≠ none) (h : p.self = .s2) : p.isWitness = true := by
  simp [Part.isWitness, h, Option.isSome_iff_ne_none, hp]

theorem Part.isWitness_eq_false (h : p.self ≠ .s2) : p.isWitness = false := by simp [Part.isWitness, h]

theorem Part.isMember_iff : p.isMember = true ↔ p.profile ≠ none ∧ p.self ≠ .s2 := by
  simp [Part.isMember, Option.isSome_iff_ne_none]

theorem Part.openCheck_unready (slot : Slot) (g : Group) (h : p.profile = none) :
    p.openCheck slot g = some .notReady := by simp [Part.openCheck, h]

theorem Part.openCheck_witness (slot : Slot) (g : Group) (hp : p.profile ≠ none) (h : p.self = .s2) :
    p.openCheck slot g = some .notActive := by simp [Part.openCheck, hp, Part.isWitness_eq_true hp h]

theorem Part.openCheck_badSlot {slot : Slot} (g : Group) (hp : p.profile ≠ none) (h : p.self ≠ .s2)
    (hr : regionOf slot ≠ p.self) : p.openCheck slot g = some .badSlot := by
  simp [Part.openCheck, hp, Part.isWitness_eq_false h, hr]

theorem Part.openCheck_slotBusy {slot : Slot} (g : Group) (hp : p.profile ≠ none) (h : p.self ≠ .s2)
    (hr : regionOf slot = p.self) (he : p.entry slot ≠ none) : p.openCheck slot g = some .slotBusy := by
  simp [Part.openCheck, hp, Part.isWitness_eq_false h, hr, Option.isSome_iff_ne_none, he]

/-- An OPEN of a FREE slot of the own region is decided by its group's role (R23). -/
theorem Part.openCheck_free {slot : Slot} (g : Group) (hp : p.profile ≠ none) (h : p.self ≠ .s2)
    (hr : regionOf slot = p.self) (he : p.entry slot = none) :
    p.openCheck slot g = if p.role g = .active then none else some .notActive := by
  simp [Part.openCheck, hp, Part.isWitness_eq_false h, hr, he]

theorem Part.sessionCheck_unready (slot : Slot) (h : p.profile = none) : p.sessionCheck slot = .error .notReady := by
  simp [Part.sessionCheck, h]

theorem Part.sessionCheck_witness (slot : Slot) (hp : p.profile ≠ none) (h : p.self = .s2) :
    p.sessionCheck slot = .error .notActive := by
  simp [Part.sessionCheck, hp, Part.isWitness_eq_true hp h]

theorem Part.sessionCheck_noSession {slot : Slot} (hp : p.profile ≠ none) (h : p.self ≠ .s2)
    (hn : ∀ e, p.entry slot = some e → e.state.live = false) : p.sessionCheck slot = .error .noSession := by
  have hnone : p.liveEntry slot = none := Option.filter_eq_none_iff.2 fun e he => by simp [hn e he]
  simp [Part.sessionCheck, hp, Part.isWitness_eq_false h, hnone]

theorem Part.sessionCheck_live {slot : Slot} {e : Entry} (hp : p.profile ≠ none) (h : p.self ≠ .s2)
    (he : p.entry slot = some e) (hl : e.state.live = true) :
    p.sessionCheck slot = if (p.role e.group).serving then .ok e else .error .notActive := by
  have hsome : p.liveEntry slot = some e := Option.filter_eq_some_iff.2 ⟨he, hl⟩
  simp [Part.sessionCheck, hp, Part.isWitness_eq_false h, hsome]

end

end Sys2Proof.Machine

namespace Sys2Proof.Machine

/-! #### Refusals and layouts (R21 to R28, R173, R174, R182, R184, R185) -/

/-- A record of an unknown kind (R173). -/
theorem exec_malformedRecord {s : State} {ws : List Word32} {rest : List (List Word32)} (h : s.hasRecord none ws rest) :
    exec .malformedRecord s = .next (s.refuses rest (recordKindByte ws) 0 .malformed) := by
  have hkind : recordKind ws = none := h.2.2.2.1
  have hact : s.toPart.act .malformedRecord
      = Part.answerWith ((s.leaves rest).toPart, refusal ws .malformed) :=
    State.takeRecord_of_hasRecord h nofun fun q ws => (q, refusal ws .malformed)
  rw [exec_of_act h.1 hact, refusal, refusedSlot, hkind]
  rfl

theorem groupOfNat_eq_none_iff {n : Nat} : groupOfNat n = none ↔ 2 ≤ n := by
  rcases n with _ | _ | n <;> simp [groupOfNat]

theorem Part.takeHandover_malformed {p : Part} {ws : List Word32} (h : ws.length ≠ 1 ∨ 2 ≤ (recordParameter ws).toNat) :
    p.takeHandover ws = (p, refusal ws .malformed) := by
  unfold Part.takeHandover
  by_cases hl : ws.length = 1
  · simp [hl, groupOfNat_eq_none_iff.2 (h.resolve_left (not_not.2 hl))]
  · simp [hl]

theorem Part.takeHandover_unready {p : Part} {ws : List Word32} (hl : ws.length = 1) (hn : (recordParameter ws).toNat < 2)
    (hp : p.profile = none) : p.takeHandover ws = (p, refusal ws .notReady) := by
  obtain ⟨g, hg⟩ : ∃ g, groupOfNat (recordParameter ws).toNat = some g :=
    Option.ne_none_iff_exists'.1 fun h => absurd (groupOfNat_eq_none_iff.1 h) (by omega)
  simp [Part.takeHandover, hl, hg, hp]

/-- The kind of a record by the byte that names it (R182). -/
theorem recordKind_eq (ws : List Word32) :
    recordKind ws = match recordByte ws 0 0 with
      | 1 => some .profile | 2 => some .open | 3 => some .update | 4 => some .close
      | 5 => some .alive | 6 => some .release | 7 => some .handover | 8 => some .status
      | _ => none := by
  rw [recordKind, ingressKindOfCode, ← toNat_byteAt ws 0 (n := 0) (by decide)]
  rfl

/-- Check 4 of R26: what an UPDATE's parts must be for the entry. -/
theorem updateSuits_iff (u : UpdateRecord) (e : Entry) :
    updateSuits u e = true ↔ (u.tcp ≠ none → e.key.protocol.toNat = 6)
      ∧ (∀ n, u.nat = .replace n →
        ((∃ a, n.addr = .v6 a) ↔ ∃ a b, e.key.addrs = .v6 a b) ∧ (n.port = none ↔ e.key.ports = none)) := by
  have haddr (a : Address) : (∃ x, a = .v6 x) ↔ a.isV6 = true := by cases a <;> simp [Address.isV6]
  have hpair (a : AddressPair) : (∃ x y, a = .v6 x y) ↔ a.isV6 = true := by cases a <;> simp [AddressPair.isV6]
  have hsuits (n : NatPart) : natSuits e.key n = true
      ↔ ((∃ a, n.addr = .v6 a) ↔ ∃ a b, e.key.addrs = .v6 a b) ∧ (n.port = none ↔ e.key.ports = none) := by
    rw [haddr, hpair, natSuits, Bool.and_eq_true, decide_eq_true_eq, decide_eq_true_eq, Bool.eq_iff_iff,
      ← Option.not_isSome_iff_eq_none, ← Option.not_isSome_iff_eq_none, not_iff_not, ← Bool.eq_iff_iff,
      ← Bool.eq_iff_iff]
  rw [updateSuits, Bool.and_eq_true]
  refine and_congr (by cases u.tcp <;> simp) ?_
  cases u.nat with
  | replace n => simp [hsuits]
  | keep | remove => simp

/-- An OPEN that a check refuses (R23). -/
theorem exec_openRecord_refused {s : State} {ws : List Word32} {rest : List (List Word32)} {x : Session}
    {cause : RefusalCause} (h : s.hasRecord (some .open) ws rest) (hx : readOpen ws = some x)
    (hc : (s.leaves rest).openCheck (recordParameter ws) x.group = some cause) :
    exec .openRecord s = .next (s.refuses rest 2 (recordParameter ws) cause) :=
  exec_refused h (Part.takeOpen_refused hx hc)

/-- An UPDATE that a check refuses (R26). -/
theorem exec_updateRecord_refused {s : State} {ws : List Word32} {rest : List (List Word32)} {u : UpdateRecord}
    {cause : RefusalCause} (h : s.hasRecord (some .update) ws rest) (hu : readUpdate ws = some u)
    (hc : (s.leaves rest).sessionCheck u.slot = .error cause) :
    exec .updateRecord s = .next (s.refuses rest 3 (recordParameter ws) cause) :=
  exec_refused h (Part.takeUpdate_refused hu hc)

/-- A CLOSE that a check refuses (R28). -/
theorem exec_closeRecord_refused {s : State} {ws : List Word32} {rest : List (List Word32)} {cause : RefusalCause}
    (h : s.hasRecord (some .close) ws rest) (hl : ws.length = 1)
    (hc : (s.leaves rest).sessionCheck (recordParameter ws) = .error cause) :
    exec .closeRecord s = .next (s.refuses rest 4 (recordParameter ws) cause) :=
  exec_refused h (Part.takeClose_refused hl hc)

/-- An UPDATE names the slot of its parameter (R185). -/
theorem slot_of_readUpdate {ws : List Word32} {u : UpdateRecord} (h : readUpdate ws = some u) :
    u.slot = recordParameter ws := by
  obtain ⟨-, rfl⟩ := (readUpdate_eq_some_iff ws u).1 h
  exact (at16_low ws 0).symm

/-- Settles O8: each refusal from the first check that fails, the layouts from what `readOpen` and `readUpdate` answer. -/
theorem recordsAreRefusedInOrder : Obligations.RecordsAreRefusedInOrder := by
  refine ⟨fun s ws rest => ⟨exec_malformedRecord, ?profile, ?opening, ?update, ?close, ?alive, ?release, ?handover⟩,
    fun s ws rest hp => ⟨?openChecks, ?updateChecks, ?closeChecks⟩, ?kinds, ?openLayout, ?updateLayout, updateSuits_iff⟩
  case profile =>
    refine fun h => ⟨fun hl => exec_refused h ?_, fun hl hp => exec_refused h ?_⟩
    · exact if_pos hl
    · exact (if_neg (not_not.2 hl)).trans (if_pos (Option.isSome_iff_ne_none.2 hp))
  case opening =>
    refine fun h => ⟨fun hr => exec_refused h (Part.takeOpen_malformed hr), fun hr hp => ?_⟩
    obtain ⟨x, hx⟩ := Option.ne_none_iff_exists'.1 hr
    exact exec_openRecord_refused h hx (Part.openCheck_unready _ _ hp)
  case update =>
    refine fun h => ⟨fun hr => exec_refused h (Part.takeUpdate_malformed hr), fun hr hp => ?_⟩
    obtain ⟨u, hu⟩ := Option.ne_none_iff_exists'.1 hr
    exact exec_updateRecord_refused h hu (Part.sessionCheck_unready _ hp)
  case close =>
    exact fun h => ⟨fun hl => exec_refused h (Part.takeClose_malformed hl),
      fun hl hp => exec_closeRecord_refused h hl (Part.sessionCheck_unready _ hp)⟩
  case alive =>
    refine fun h => ⟨fun hl => exec_refused h (if_pos hl), fun hl hp => exec_refused h ?_⟩
    refine (if_neg (not_not.2 hl)).trans ?_
    rw [show (s.leaves rest).profile = none from hp]
  case release =>
    refine fun h hroom => ⟨fun hl => exec_refused h (if_pos hl) fun _ => hroom,
      fun hl hp => exec_refused h ?_ fun _ => hroom⟩
    exact (if_neg (not_not.2 hl)).trans (if_pos hp)
  case handover =>
    exact fun h => ⟨fun hm => exec_refused h (Part.takeHandover_malformed hm),
      fun hl hn hp => exec_refused h (Part.takeHandover_unready hl hn hp)⟩
  case openChecks =>
    intro x h hx
    refine ⟨fun hs => exec_openRecord_refused h hx (Part.openCheck_witness _ _ hp hs), fun hs => ⟨fun hr => ?_,
      fun hr he => ?_, fun hr he hrole => ?_⟩⟩
    · exact exec_openRecord_refused h hx (Part.openCheck_badSlot _ hp hs hr)
    · exact exec_openRecord_refused h hx (Part.openCheck_slotBusy _ hp hs hr he)
    · exact exec_openRecord_refused h hx ((Part.openCheck_free _ hp hs hr he).trans (if_neg hrole))
  case updateChecks =>
    intro u h hu
    have hlive (hs : s.self ≠ .s2) {e : Entry} (he : s.entry u.slot = some e) (hl : e.state.live = true) :
        (s.leaves rest).sessionCheck u.slot = if (s.role e.group).serving then .ok e else .error .notActive :=
      Part.sessionCheck_live hp hs he hl
    rw [slot_of_readUpdate hu] at hlive ⊢
    have refused {cause} (hc : (s.leaves rest).sessionCheck (recordParameter ws) = .error cause) :=
      exec_updateRecord_refused h hu (slot_of_readUpdate hu ▸ hc)
    refine ⟨fun hs => refused (Part.sessionCheck_witness _ hp hs), fun hs => ⟨fun hn => ?_, fun e he hl => ⟨fun hr => ?_,
      fun hr hsuits => ?_⟩⟩⟩
    · exact refused (Part.sessionCheck_noSession hp hs hn)
    · exact refused ((hlive hs he hl).trans (if_neg (Bool.eq_false_iff.1 hr)))
    · exact exec_refused h
        (Part.takeUpdate_unsuited hu (slot_of_readUpdate hu ▸ (hlive hs he hl).trans (if_pos hr)) hsuits)
  case closeChecks =>
    intro h hl
    refine ⟨fun hs => exec_closeRecord_refused h hl (Part.sessionCheck_witness _ hp hs), fun hs => ⟨fun hn => ?_,
      fun e he hlive hr => ?_⟩⟩
    · exact exec_closeRecord_refused h hl (Part.sessionCheck_noSession hp hs hn)
    · exact exec_closeRecord_refused h hl
        ((Part.sessionCheck_live (p := (s.leaves rest).toPart) hp hs he hlive).trans (if_neg (Bool.eq_false_iff.1 hr)))
  case kinds => exact fun ws => ⟨toNat_byteAt ws 0 (n := 0) (by decide), at16_low ws 0, recordKind_eq ws⟩
  case openLayout =>
    intro ws
    refine ⟨?_, fun x hx => ?_⟩
    · exact (readOpen_ne_none_iff ws)
    · obtain ⟨-, rfl⟩ := (readOpen_eq_some_iff ws x).1 hx
      refine ⟨rfl, rfl, toNat_byteAt ws 1 (n := 1) (by decide), fun hz => ?_, rfl, rfl, rfl, rfl⟩
      exact toNat_zone hz
  case updateLayout =>
    intro ws
    refine ⟨?_, fun u hu => ?_⟩
    · exact readUpdate_ne_none_iff ws
    · obtain ⟨-, rfl⟩ := (readUpdate_eq_some_iff ws u).1 hu
      exact ⟨rfl, rfl, rfl, rfl⟩

end Sys2Proof.Machine

/-! ### What an accepted record does -/

namespace Sys2Proof.Machine

/-! #### An act on a slot that moves no In-Flight record (R14, R37, R44) -/

/-- The Send List as a slot that was on it, or not, is to be on it, or not (R37). -/
def sendMove (list : List Slot) (slot : Slot) : (was will : Bool) → List Slot
  | false, true => list ++ [slot]
  | true, false => list.filter fun x => decide (x ≠ slot)
  | _, _ => list

theorem sendPlace_eq_sendMove {list : List Slot} {slot : Slot} {was : Bool} (h : slot ∈ list ↔ was = true)
    (e : Option Entry) : sendPlace list slot e = sendMove list slot was (awaits e) := by
  change (if awaits e then _ else _) = _
  cases awaits e <;> cases was <;> simp only [Bool.false_eq_true, iff_false, iff_true] at h
  · exact List.filter_eq_self.2 fun x hx => decide_eq_true (ne_of_mem_of_not_mem hx h)
  · rfl
  · exact if_neg h
  · exact if_pos h

theorem flightPlace_eq_self {list : List InFlight} {slot : Slot} {e : Option Entry}
    (h : slot ∈ list.map (·.slot) ↔ flies e = true) : flightPlace list slot e = list := by
  change (if flies e then _ else _) = _
  split
  · rfl
  · rename_i hf
    exact List.filter_eq_self.2 fun r hr => decide_eq_true fun hs => hf (h.1 (hs ▸ List.mem_map_of_mem hr))

/-- Where the lists agree with the table, an act that leaves a slot in flight, or out of flight, moves it on the Send List alone. -/
theorem Part.putEntry_of_agree {p : Part} (h : p.Agree) {slot : Slot} {e : Option Entry}
    (hf : flies e = flies (p.entry slot)) :
    p.putEntry slot e = { p with
      smt := { p.smt with table := tableSet p.smt.table slot e }
      rpu := { p.rpu with sendList := sendMove p.rpu.sendList slot (awaits (p.entry slot)) (awaits e) } } := by
  rw [Part.putEntry, sendPlace_eq_sendMove (h.send slot), flightPlace_eq_self (hf ▸ h.flight slot)]

/-! #### OPEN (R24) -/

theorem perm_tableInsert {table : List (Slot × Entry)} {slot : Slot} (h : tableGet table slot = none) (e : Entry) :
    (tableInsert table slot e).Perm ((slot, e) :: table) := by
  induction table with
  | nil => rfl
  | cons x rest ih =>
    obtain ⟨k, y⟩ := x
    by_cases hk : k = slot
    · simp [tableGet, hk] at h
    · have hrest : tableGet rest slot = none := by simpa [tableGet, hk] using h
      rw [tableInsert, if_neg hk]
      split
      · rfl
      · exact ((ih hrest).cons _).trans (.swap _ _ _)

/-- An OPEN's entry is one more that is owned (R15, R24). -/
theorem Part.ownedCount_putEntry_open {p : Part} {slot : Slot} {e : Entry} (hw : p.smt.clearWalk = none)
    (hfree : p.entry slot = none) (ho : e.state.owned = true) :
    (p.putEntry slot (some e)).ownedCount = p.ownedCount + 1 := by
  have hperm : (p.putEntry slot (some e)).smt.table.Perm ((slot, e) :: p.smt.table) := perm_tableInsert hfree e
  have hw' : (p.putEntry slot (some e)).smt.clearWalk = none := hw
  simp only [Part.ownedCount, Part.countEntries, hw, hw', Option.isSome_none, Bool.false_eq_true, if_false]
  rw [(hperm.filter _).length_eq]
  simp [ho]

/-- Settles O9: an act on a FREE slot, which neither list holds. -/
theorem openFillsAFreeSlot : Obligations.OpenFillsAFreeSlot := by
  intro s ws rest x h hx hm hregion hfree hrole hlists hw
  obtain ⟨hp, hself⟩ := Part.isMember_iff.1 hm
  have hfree' : (s.leaves rest).entry (recordParameter ws) = none := hfree
  have hcheck : (s.leaves rest).openCheck (recordParameter ws) x.group = none :=
    (Part.openCheck_free _ hp hself hregion hfree).trans (if_pos hrole)
  have hagree : (s.leaves rest).Agree := Part.agree_of_listsAgree hlists
  have hput := Part.putEntry_of_agree hagree (slot := recordParameter ws) (e := some ((s.leaves rest).openEntry x))
    (by rw [hfree']; rfl)
  rw [hfree'] at hput
  exact ⟨_, exec_taken h (Part.takeOpen_taken hx hcheck), fun slot => Part.entry_putEntry _ _ _ _,
    Part.ownedCount_putEntry_open (p := (s.leaves rest).toPart) hw hfree rfl, congrArg s.withPart hput⟩

end Sys2Proof.Machine

namespace Sys2Proof.Machine

/-! #### UPDATE (R27) -/

/-- What a change of content makes of the state and the version (R27). -/
theorem Entry.changed_eq (e : Entry) :
    e.changed = { e with
      state := if e.state = .sent then .changed else if e.state = .clean then .dirty else e.state
      version := if e.state = .sent ∨ e.state = .clean then e.version + 1 else e.version } := by
  cases e with
  | mk state => cases state <;> rfl

/-- An UPDATE leaves an entry in flight, or out of flight, and makes a CLEAN one due (R27, R37). -/
theorem Part.lists_updateEntry (p : Part) (u : UpdateRecord) (e : Entry) :
    flies (some (p.updateEntry u e)) = flies (some e)
      ∧ ∀ list slot, sendMove list slot (awaits (some e)) (awaits (some (p.updateEntry u e)))
        = if e.state = .clean then list ++ [slot] else list := by
  have hst : (p.updateEntry u e).state
      = if e.state = .sent then .changed else if e.state = .clean then .dirty else e.state := by
    rw [Part.updateEntry, Entry.changed_eq]
  simp only [flies_some, awaits_some, hst]
  cases e.state <;> exact ⟨rfl, fun _ _ => rfl⟩

/-- Settles O10: the entry's next state from `Entry.changed_eq`, the lists from `Part.putEntry_of_agree`. -/
theorem updateChangesTheEntry : Obligations.UpdateChangesTheEntry := by
  intro s ws rest u e h hu hm he hl hr hs hlists
  obtain ⟨hp, hself⟩ := Part.isMember_iff.1 hm
  have he' : (s.leaves rest).entry u.slot = some e := he
  have hcheck : (s.leaves rest).sessionCheck u.slot = .ok e :=
    (Part.sessionCheck_live hp hself he' hl).trans (if_pos hr)
  have hagree : (s.leaves rest).Agree := Part.agree_of_listsAgree hlists
  obtain ⟨hflies, hsend⟩ := Part.lists_updateEntry (s.leaves rest).toPart u e
  have hput := Part.putEntry_of_agree hagree (hflies.trans (congrArg flies he'.symm))
  rw [he', hsend] at hput
  refine ⟨_, exec_taken h (Part.takeUpdate_taken hu hcheck hs), fun slot => ?_, congrArg s.withPart hput⟩
  refine (Part.entry_putEntry _ _ _ _).trans (if_congr Iff.rfl ?_ rfl)
  rw [Part.updateEntry, Entry.changed_eq]
  congr 2
  · cases u.lifetime <;> rfl

/-! #### CLOSE (R29) -/

/-- What an accepted CLOSE makes of an entry; none is FREE (R29). -/
def Entry.closed (e : Entry) : Option Entry :=
  if e.state = .dirty ∧ e.peerMayHold = false then none
  else some { e with
    state := if e.state = .clean ∨ e.state = .dirty then .dropDue else .dropWait
    version := e.version + 1
    installed := false }

/-- The live owned states (R13). -/
theorem EntryState.live_cases {st : EntryState} (h : st.live = true) :
    st = .dirty ∨ st = .sent ∨ st = .changed ∨ st = .clean := by
  cases st <;> simp_all [EntryState.live]

theorem Part.closeEntry_eq (p : Part) (slot : Slot) {e : Entry} (hl : e.state.live = true) :
    p.closeEntry slot e = p.putEntry slot e.closed := by
  unfold Part.closeEntry Entry.closed
  rcases EntryState.live_cases hl with hs | hs | hs | hs
  · cases hh : e.peerMayHold <;> simp [hs]
  all_goals simp [hs]

/-- What it makes of the Send List (R29, R37). -/
theorem Entry.lists_closed {e : Entry} (hl : e.state.live = true) :
    flies e.closed = flies (some e)
      ∧ ∀ list slot, sendMove list slot (awaits (some e)) (awaits e.closed)
        = if e.state = .clean then list ++ [slot]
          else if e.state = .dirty ∧ e.peerMayHold = false then list.filter fun x => decide (x ≠ slot)
          else list := by
  unfold Entry.closed
  rcases EntryState.live_cases hl with hs | hs | hs | hs
  · cases hh : e.peerMayHold <;> simp [hs, sendMove, EntryState.awaitsSend, EntryState.inFlight]
  all_goals simp [hs, sendMove, EntryState.awaitsSend, EntryState.inFlight]

/-- Settles O11: what CLOSE does before the flush tests is one act on the slot. -/
theorem closeEndsTheEntry : Obligations.CloseEndsTheEntry := by
  intro s ws rest e h hlen hm he hl hr hlists
  obtain ⟨hp, hself⟩ := Part.isMember_iff.1 hm
  have he' : (s.leaves rest).entry (recordParameter ws) = some e := he
  have hcheck : (s.leaves rest).sessionCheck (recordParameter ws) = .ok e :=
    (Part.sessionCheck_live hp hself he' hl).trans (if_pos hr)
  have hagree : (s.leaves rest).Agree := Part.agree_of_listsAgree hlists
  obtain ⟨hflies, hsend⟩ := Entry.lists_closed hl
  have hput := Part.putEntry_of_agree hagree (hflies.trans (congrArg flies he'.symm))
  rw [he', hsend] at hput
  have htaken := exec_taken h (Part.takeClose_taken hlen hcheck)
  rw [Part.closeEntry_eq _ _ hl] at htaken
  exact ⟨s.withPart _, htaken, fun slot => Part.entry_putEntry _ _ _ _, congrArg s.withPart hput⟩

end Sys2Proof.Machine

namespace Sys2Proof.Machine

variable {p q r : Part}

/-! #### What a change of roles leaves of the Role Controller -/

/-- `q` has the Role Controller of `p` but for the groups' records. -/
def Part.GroupsAlone (p q : Part) : Prop := q.rcu = { p.rcu with groups := q.rcu.groups }

namespace Part.GroupsAlone

theorem trans (h : p.GroupsAlone q) (h' : q.GroupsAlone r) : p.GroupsAlone r := by
  unfold Part.GroupsAlone at *
  rw [h', h]

theorem fence (h : p.GroupsAlone q) : q.rcu.fence = p.rcu.fence := by rw [h]

theorem silence (h : p.GroupsAlone q) : q.rcu.silence = p.rcu.silence := by rw [h]

theorem setRole (p : Part) (g : Group) (new : Role) (cause : RoleCause) : p.GroupsAlone (p.setRole g new cause) := by
  unfold Part.GroupsAlone Part.setRole
  rw [Part.roleNotice_rcu]
  rfl

theorem updateVacancy (p : Part) (g : Group) : p.GroupsAlone (p.updateVacancy g) := by
  unfold Part.updateVacancy
  dsimp only
  split
  · split <;> rfl
  · rfl

theorem makeClaim (p : Part) (g : Group) (kind : ClaimKind) : p.GroupsAlone (p.makeClaim g kind) :=
  (setRole p g .claiming _).trans (r := p.makeClaim g kind) rfl

theorem evalStandby (p : Part) (g : Group) : p.GroupsAlone (p.evalStandby g) := by
  unfold Part.evalStandby
  dsimp only
  split
  · rfl
  · split
    · exact (updateVacancy p g).trans (makeClaim _ g _)
    · split
      · exact (updateVacancy p g).trans (makeClaim _ g _)
      · exact updateVacancy p g

theorem evaluate (p : Part) (g : Group) : p.GroupsAlone (p.evaluate g) := by
  unfold Part.evaluate
  split
  · split
    · exact (setRole p g .standby _).trans (evalStandby _ g)
    · rfl
  · exact evalStandby p g
  · rfl

theorem evaluateAll (p : Part) : p.GroupsAlone p.evaluateAll := (evaluate p .g0).trans (evaluate _ .g1)

theorem unfenceGroup (p : Part) (g : Group) : p.GroupsAlone (p.unfenceGroup g) := by
  unfold Part.unfenceGroup
  split
  · exact (setRole p g .listen _).trans (r := p.startListen g .unfenced) rfl
  · rfl

theorem unfence (p : Part) : p.GroupsAlone p.unfence :=
  ((unfenceGroup p .g0).trans (unfenceGroup _ .g1)).trans (evaluateAll _)

end Part.GroupsAlone

/-! #### The last fence cause clears (R119, R141) -/

/-- The record of a group that goes from FENCED to LISTEN for one hold-down (R119, R141). -/
def Part.listening (p : Part) (g : Group) : GroupRec :=
  { (p.group g).enter .listen with listen := some (p.after p.holdDown) }

theorem Part.group_unfenceGroup (p : Part) (g h : Group) :
    (p.unfenceGroup g).group h = if h = g ∧ p.role g = .fenced then p.listening g else p.group h := by
  have hafter (c : RoleCause) : (p.setRole g .listen c).after (p.setRole g .listen c).holdDown = p.after p.holdDown := by
    simp [Part.after, Part.holdDown]
  unfold Part.unfenceGroup
  split
  · rename_i hr
    simp only [Part.startListen, Part.group_setGroup, Part.group_setRole, hr, hafter, and_true, Part.listening]
    split <;> simp_all
  · rename_i hr
    exact (if_neg fun h => hr h.2).symm

theorem Part.sameWorld_unfenceGroup (p : Part) (g : Group) : p.SameWorld (p.unfenceGroup g) := ⟨by simp, by simp, by simp⟩

/-- Every group that was FENCED listens, before the test that each LISTEN makes at its entry. -/
theorem Part.group_unfenceGroups (p : Part) {g : Group} (hr : p.role g = .fenced) :
    ((p.unfenceGroup .g0).unfenceGroup .g1).group g = p.listening g := by
  have hlistening : (p.unfenceGroup .g0).listening .g1 = p.listening .g1 := by
    simp [Part.listening, Part.group_unfenceGroup, Part.after, Part.holdDown]
  have hrole : (p.unfenceGroup .g0).role .g1 = p.role .g1 := by simp [Part.role, Part.group_unfenceGroup]
  rw [Part.group_unfenceGroup, hrole, hlistening, Part.group_unfenceGroup]
  cases g <;> simp [hr]

/-- LISTEN ends at once where the other member is LIVE and serves or claims the group (R119). -/
theorem Part.listenMeets_iff (p : Part) (g : Group) :
    p.listenMeets g = true ↔ p.otherLive = true
      ∧ (p.standing g = some .active ∨ p.standing g = some .yielding ∨ p.standing g = some .claiming) := by
  unfold Part.listenMeets Part.serves
  cases p.otherLive <;> rcases p.standing g with _ | r
  · simp
  · simp
  · simp
  · cases r <;> simp [Role.serving]

theorem Part.group_unfence (p : Part) {g : Group} (hr : p.role g = .fenced) :
    p.unfence.group g = if p.listenMeets g then
        ((p.listening g).enter .standby).standbyNext (p.idleMember g) (p.after p.pulseInterval) (p.freshClaim g)
      else p.listening g := by
  have w : p.SameWorld ((p.unfenceGroup .g0).unfenceGroup .g1) := ⟨by simp, by simp, by simp⟩
  have hgroup := p.group_unfenceGroups hr
  unfold Part.unfence
  generalize (p.unfenceGroup .g0).unfenceGroup .g1 = q at w hgroup
  have hstanding : q.standing g = p.standing g := w.standing (by rw [hgroup]; rfl)
  have hclaim : q.freshClaim g = p.freshClaim g := w.freshClaim (by rw [hgroup]; rfl) (by rw [hgroup]; rfl)
  have hrole : q.role g = .listen := congrArg GroupRec.role hgroup
  have hmeets : q.listenMeets g = p.listenMeets g := by
    simp [Part.listenMeets, Part.serves, w.otherLive, hstanding]
  have hidle : q.idleMember g = p.idleMember g := by simp [Part.idleMember, Part.standingIdle, w.otherLive, hstanding]
  rw [Part.group_evaluateAll_eq, hrole, hgroup, hclaim, hmeets, hidle, w.after, w.pulseInterval]

theorem Part.unfence_listens (p : Part) {g : Group} (hr : p.role g = .fenced) (h : p.listenMeets g = false) :
    p.unfence.role g = .listen ∧ (p.unfence.group g).listen = some (p.after p.holdDown) := by
  rw [Part.role, Part.group_unfence p hr, h]
  exact ⟨rfl, rfl⟩

theorem Part.unfence_meets (p : Part) {g : Group} (hr : p.role g = .fenced) (h : p.listenMeets g = true) :
    (p.unfence.group g).listen = none
      ∧ p.unfence.role g = if p.preemptConditions g then .claiming else .standby := by
  have hclaim : p.freshClaim g = if p.preemptConditions g then some .preempt else none := by
    simp [Part.freshClaim, ((p.listenMeets_iff g).1 h).1]
  rw [Part.role, Part.group_unfence p hr, if_pos h, hclaim]
  cases p.preemptConditions g <;> exact ⟨rfl, rfl⟩

/-- A cause that clears while another applies, or that never applied, moves no role (R141). -/
theorem Part.clearFence_stays {f : FenceCauses} (h : p.rcu.fence.any = false ∨ f.any = true) :
    p.clearFence f = p.setFence f := by
  rcases h with h | h <;> simp [Part.clearFence, h]

theorem Part.clearFence_last {f : FenceCauses} (h : p.rcu.fence.any = true) (hf : f.any = false) :
    p.clearFence f = (p.setFence f).unfence := by simp [Part.clearFence, h, hf]

theorem Part.clearFence_control (p : Part) (f : FenceCauses) :
    (p.clearFence f).rcu.fence = f ∧ (p.clearFence f).rcu.silence = p.rcu.silence := by
  have h := Part.GroupsAlone.unfence (p.setFence f)
  unfold Part.clearFence
  split
  · exact ⟨h.fence, h.silence⟩
  · exact ⟨rfl, rfl⟩

/-! #### ALIVE (R35, R36) -/

/-- The part as a member takes an ALIVE, before ENGINE_SILENT clears (R35, R36). -/
def Part.heardEngine (p : Part) (c : Profile) (ws : List Word32) : Part :=
  { p with
    ppu := { p.ppu with pendingHealth := BitVec.ofNat 8 (min 100 ((recordParameter ws).toNat % 256)) }
    rcu := { p.rcu with silence := some (p.after c.silenceLimit) } }

theorem Part.self_of_profile {c : Profile} (hp : p.profile = some c) : p.self = c.station := by simp [Part.self, hp]

theorem Part.holdDown_of_profile {c : Profile} (hp : p.profile = some c) :
    p.holdDown = c.pulseInterval * c.missLimit := by simp [Part.holdDown, hp]

theorem Part.takeAlive_witness {ws : List Word32} {c : Profile} (hl : ws.length = 1) (hp : p.profile = some c)
    (hs : c.station = .s2) : p.takeAlive ws = (p, none) := by
  simp [Part.takeAlive, hl, hp, Part.isWitness, Part.self_of_profile hp, hs]

theorem Part.takeAlive_member {ws : List Word32} {c : Profile} (hl : ws.length = 1) (hp : p.profile = some c)
    (hs : c.station ≠ .s2) :
    p.takeAlive ws = ((p.heardEngine c ws).clearFence { p.rcu.fence with engineSilent := false }, none) := by
  have hhealth : (if 100 < ((recordParameter ws).setWidth 8).toNat then 100#8 else (recordParameter ws).setWidth 8)
      = BitVec.ofNat 8 (min 100 ((recordParameter ws).toNat % 256)) := by
    refine BitVec.eq_of_toNat_eq ?_
    split
    · simp_all
      omega
    · simp_all
  have hw : p.isWitness = false := Part.isWitness_eq_false (by rwa [Part.self_of_profile hp])
  simp only [Part.takeAlive, hl, hp, hw, ← hhealth, Part.heardEngine]
  rfl

/-- Settles O12: ENGINE_SILENT clears with another cause left, or as the last one (`Part.unfence_listens`,
`Part.unfence_meets`). -/
theorem aliveRestartsTheSilenceTimer : Obligations.AliveRestartsTheSilenceTimer := by
  intro s ws rest c h hl hp
  refine ⟨fun hs => exec_taken h (Part.takeAlive_witness hl hp hs), fun hs => ?_⟩
  obtain ⟨f, hf⟩ : ∃ f : FenceCauses, f = { s.rcu.fence with engineSilent := false } := ⟨_, rfl⟩
  have htaken : exec .aliveRecord s = .next (s.withPart (((s.leaves rest).heardEngine c ws).clearFence f)) :=
    hf ▸ exec_taken h (Part.takeAlive_member hl hp hs)
  obtain ⟨hfence, hsilence⟩ := ((s.leaves rest).heardEngine c ws).clearFence_control f
  refine ⟨_, htaken, Part.clearFence_ppu _ _, hsilence, hfence.trans hf, fun hstays => ?stays,
    fun hany hnone g hr => ?unfenced, Part.clearFence_smt _ _, Part.clearFence_rpu _ _, Part.clearFence_tku _ _,
    Part.clearFence_wtu _ _⟩
  case stays =>
    have hset : ((s.leaves rest).heardEngine c ws).clearFence f = ((s.leaves rest).heardEngine c ws).setFence f :=
      Part.clearFence_stays (hstays.imp_right fun hany => by rw [← hfence]; exact hany)
    rw [hset]
    rfl
  case unfenced =>
    have hlast : ((s.leaves rest).heardEngine c ws).clearFence f
        = (((s.leaves rest).heardEngine c ws).setFence f).unfence :=
      Part.clearFence_last hany (by rw [← hfence]; exact hnone)
    rw [hlast]
    have hmeets := Part.listenMeets_iff (((s.leaves rest).heardEngine c ws).setFence f) g
    refine ⟨fun hidle => ?_, fun hlive hbusy => Part.unfence_meets _ hr (hmeets.2 ⟨hlive, hbusy⟩)⟩
    have hlistens : (((s.leaves rest).heardEngine c ws).setFence f).listenMeets g = false := by
      refine Bool.eq_false_iff.2 fun hm => ?_
      obtain ⟨hlive, hbusy⟩ := hmeets.1 hm
      exact hidle.elim (fun hn => Bool.false_ne_true (hn.symm.trans hlive)) fun hn => hn hbusy
    have hdown : (((s.leaves rest).heardEngine c ws).setFence f).holdDown = c.pulseInterval * c.missLimit :=
      Part.holdDown_of_profile hp
    exact hdown ▸ Part.unfence_listens _ hr hlistens

end Sys2Proof.Machine

/-! ### What a frame of the other member brings -/

namespace Sys2Proof.Machine

/-! #### The header step of a LIVE sender (R84, R93, R94, R110) -/

variable (p : Part)

/-- A valid frame on a usable lane, with no quiet evidence against the other lane, renews the lane's tick alone. -/
theorem Part.laneHears_usable {l : Lane} (hl : p.laneUsable l = true)
    (hq : (p.laneUsable l.other && p.quietFor l.other) = false) :
    p.laneHears l = p.setLane l { p.lane l with lastValid := some p.clock, quietElapsed := false } := by
  have hstate : (p.lane l).state ≠ .training := by
    intro ht
    simp [Part.laneUsable, ht, LaneState.usable] at hl
  have hother : (p.setLane l { p.lane l with lastValid := some p.clock, quietElapsed := false }).lane l.other
      = p.lane l.other := by simp
  unfold Part.laneHears
  dsimp only
  rw [if_neg (by simpa using hstate), Part.lateEvidence, if_neg]
  simp only [Part.laneUsable, Part.quietFor, hother, Bool.not_eq_true]
  exact hq

/-- The copy expectation that a frame of a kind leaves (R94). -/
def FrameKind.expectation (k : FrameKind) (l : Lane) (bytes : List Byte) : Option (Lane × List Byte) :=
  if k.copied then some (l.other, bytes) else none

/-- A Peer Record, LIVE under the frame's incarnation, after a valid frame on a lane (R110). -/
def PeerRec.renewed (r : PeerRec) (l : Lane) (now : Tick) : PeerRec :=
  { r with lastHeard := some now, heardOn := r.heardOn.set l (some now) }

/-- A frame of a LIVE sender under its incarnation renews the sender's ticks alone (R110). -/
theorem Part.heard_live {y : Station} {inc : BitVec 16} (l : Lane) (hs : (p.peer y).state = .live)
    (hi : (p.peer y).incarnation = some inc) : p.heard y l inc = p.setPeer y ((p.peer y).renewed l p.clock) := by
  have hsame : (p.peer y).rebornBy inc = false := by simp [PeerRec.rebornBy, hi]
  simp only [Part.heard, PeerRec.heard, PeerRec.renewed, hsame, hs]
  cases hr : p.peer y
  simp_all

theorem Part.setExpect_setPeer_setExpect (y : Station) (r : PeerRec) (v w : Option (Lane × List Byte)) :
    ((p.setExpect y v).setPeer y r).setExpect y w = (p.setExpect y w).setPeer y r := by
  cases y <;> rfl

/-- A frame of a LIVE sender that is no copy (R93, R94). -/
theorem Part.takeFromOther_live {l : Lane} {bytes : List Byte} {f : Frame} (hs : (p.peer f.sender).state = .live)
    (hi : (p.peer f.sender).incarnation = some f.incarnation) (hcopy : p.isCopy f.sender l bytes = false) :
    p.takeFromOther l bytes f
      = ((p.setExpect f.sender (f.content.kind.expectation l bytes)).setPeer f.sender
          ((p.peer f.sender).renewed l p.clock)).handUp f.sender f.content := by
  have hheard : (p.setExpect f.sender none).heard f.sender l f.incarnation
      = (p.setExpect f.sender none).setPeer f.sender ((p.peer f.sender).renewed l p.clock) :=
    Part.heard_live _ l hs hi
  rw [Part.takeFromOther, hheard, hcopy, FrameKind.expectation]
  cases f.content.kind.copied
  · rfl
  · exact congrArg (Part.handUp · f.sender f.content) (Part.setExpect_setPeer_setExpect _ _ _ _ _)

/-- What a frame that is no copy comes to: the header step, then its content (R93, R94, R110). -/
theorem State.receive_of_hearsNew {s : State} {l : Lane} {rx : Reception} {y : Station} {c : Content}
    (h : s.hearsNew l rx y c) :
    s.toPart.receive c.kind l rx = (s.afterHeader l y (c.kind.expectation l rx.bytes)).handUp y c := by
  obtain ⟨⟨-, htakes, hl, hq, hy, hs, inc, hj, hi⟩, hnew⟩ := h
  rw [Part.receive, if_pos htakes, hj]
  simp only [if_true, Part.takeValid, Part.laneHears_usable _ hl hq]
  rw [if_neg (by exact hy), Part.takeFromOther_live _ (by exact hs) (by exact hi) (by exact hnew)]
  rfl

theorem Part.act_frameCommand (k : FrameKind) (l : Lane) (rx : Reception) :
    p.act (k.command l rx) = p.receive k l rx := by cases k <;> rfl

/-- A member hands the content of a frame that is no copy to the block that takes its kind (R93). -/
theorem exec_of_hearsNew {s : State} {l : Lane} {rx : Reception} {y : Station} {c : Content} (hm : s.isMember = true)
    (h : s.hearsNew l rx y c) :
    exec (c.kind.command l rx) s
      = .next (s.withPart ((s.afterHeader l y (c.kind.expectation l rx.bytes)).memberTakes y c)) := by
  have hwitness : (s.afterHeader l y (c.kind.expectation l rx.bytes)).isWitness = false :=
    Part.isWitness_eq_false (Part.isMember_iff.1 hm).2
  refine exec_of_act h.1.1 ?_ (by cases c <;> nofun) (by cases c <;> nofun)
  rw [Part.act_frameCommand, State.receive_of_hearsNew h, Part.handUp, hwitness]
  rfl

end Sys2Proof.Machine

namespace Sys2Proof.Machine

variable {p : Part}

/-! #### The records of a DELTA, each by the entry of its slot (R61 to R67) -/

/-- The record is applied and receipted (R63, R71). -/
def Part.applied (p : Part) (w : WireRecord) : Part := (p.applyWire w).makeReceipt w.slot w.version

theorem EntryState.owned_iff (st : EntryState) : st.owned = true ↔ st ≠ .shadow := by cases st <;> simp [EntryState.owned]

theorem Part.takeWire_no_room {w : WireRecord} (h : p.receiptRoom w.slot = false) : p.takeWire w = none := by
  simp [Part.takeWire, h]

/-- A FREE slot or a SHADOW takes the record (R63). -/
theorem Part.takeWire_unowned {w : WireRecord} (h : p.receiptRoom w.slot = true)
    (he : p.entry w.slot = none ∨ ∃ e, p.entry w.slot = some e ∧ e.state = .shadow) :
    p.takeWire w = some (p.applied w) := by
  rcases he with he | ⟨e, he, hs⟩
  · simp [Part.takeWire, h, he, Part.applied]
  · simp [Part.takeWire, h, he, hs, EntryState.owned, Part.applied]

/-- An owned live entry of the same key: its holder reasserts it, any other role takes the record (R64, R65). -/
theorem Part.takeWire_same {w : WireRecord} {e : Entry} (h : p.receiptRoom w.slot = true)
    (he : p.entry w.slot = some e) (hs : e.state ≠ .shadow) (hl : e.state.live = true) (hk : e.key = w.session.key) :
    p.takeWire w = if (p.role e.group).serving then some (p.reassert w.slot e) else some (p.applied w) := by
  simp [Part.takeWire, h, he, (EntryState.owned_iff _).2 hs, hl, hk, Part.applied]

/-- An owned entry that is closing, or of another key, collides (R66, R67). -/
theorem Part.takeWire_collision {w : WireRecord} {e : Entry} (h : p.receiptRoom w.slot = true)
    (he : p.entry w.slot = some e) (hs : e.state ≠ .shadow) (hc : e.state.live = false ∨ e.key ≠ w.session.key) :
    p.takeWire w = p.meetCollision w e := by
  have hdiffers : (e.state.live && decide (e.key = w.session.key)) = false := by rcases hc with hc | hc <;> simp [hc]
  simp [Part.takeWire, h, he, (EntryState.owned_iff _).2 hs, hdiffers]

theorem Part.takeDelta_cons_some {w : WireRecord} {q : Part} (h : p.takeWire w = some q) (ws : List WireRecord) :
    p.takeDelta (w :: ws) = q.flushTests.takeDelta ws := by rw [Part.takeDelta, h]

theorem Part.takeDelta_cons_none {w : WireRecord} (h : p.takeWire w = none) (ws : List WireRecord) :
    p.takeDelta (w :: ws) = p := by rw [Part.takeDelta, h]

/-- Settles O23: the header step, then each row of R62 as `Part.takeWire` gives it. -/
theorem deltaRecordMeetsTheEntry : Obligations.DeltaRecordMeetsTheEntry := by
  refine ⟨fun s l rx ws hm h => exec_of_hearsNew hm h, fun p w ws => ⟨rfl, fun hroom => ?noRoom, fun hroom =>
    ⟨fun he => ?unowned, fun e he hs => ⟨fun hl hk => ⟨fun hr => ?holder, fun hr => ?other⟩,
      fun hc => ⟨fun hreg => ?ownRegion, fun hreg => ⟨fun hi => ?notInstalled, fun hi =>
        ⟨fun hrev => ?revoked, fun hrev => ?noRevoke⟩⟩⟩⟩⟩⟩⟩
  case noRoom => exact Part.takeDelta_cons_none (Part.takeWire_no_room hroom) ws
  case unowned => exact Part.takeDelta_cons_some (Part.takeWire_unowned hroom he) ws
  case holder => exact Part.takeDelta_cons_some ((Part.takeWire_same hroom he hs hl hk).trans (if_pos hr)) ws
  case other =>
    exact Part.takeDelta_cons_some ((Part.takeWire_same hroom he hs hl hk).trans (if_neg (Bool.eq_false_iff.1 hr))) ws
  all_goals have hmeet := Part.takeWire_collision hroom he hs hc
  case ownRegion => exact Part.takeDelta_cons_some (hmeet.trans (if_pos hreg)) ws
  all_goals have hmeet := hmeet.trans (if_neg hreg)
  case notInstalled => exact Part.takeDelta_cons_some (hmeet.trans (if_neg (Bool.eq_false_iff.1 hi))) ws
  all_goals have hmeet := hmeet.trans (if_pos hi)
  case revoked => exact Part.takeDelta_cons_some (hmeet.trans (if_pos hrev)) ws
  case noRevoke => exact Part.takeDelta_cons_none (hmeet.trans (if_neg (Bool.eq_false_iff.1 hrev))) ws

/-! #### What a record of a DELTA does to its slot (R63, R65, R71) -/

/-- The replication lists of a slot that is neither due nor in flight (R37, R44). -/
theorem lists_of_settled {e : Entry} (ha : e.state.awaitsSend = false) (hf : e.state.inFlight = false)
    (sends : List Slot) (flights : List InFlight) (slot : Slot) :
    sendPlace sends slot (some e) = sends.filter (fun x => decide (x ≠ slot))
      ∧ flightPlace flights slot (some e) = flights.filter fun r => decide (r.slot ≠ slot) := by
  simp [sendPlace, flightPlace, ha, hf]

theorem Part.applyWire_eq (p : Part) (w : WireRecord) :
    p.applyWire w = { p with
      smt := { p.smt with table := tableSet p.smt.table w.slot (some (p.shadowOf w)) }
      rpu := { p.rpu with
        sendList := p.rpu.sendList.filter fun x => decide (x ≠ w.slot)
        inFlight := p.rpu.inFlight.filter fun r => decide (r.slot ≠ w.slot) }
      tku := { p.tku with
        buffers :=
          if (p.entry w.slot).any fun e => e.state.live then p.tku.buffers.map (Buffer.noteTaken w.slot)
          else p.tku.buffers } } := by
  obtain ⟨hsend, hflight⟩ := lists_of_settled (e := p.shadowOf w) rfl rfl p.rpu.sendList p.rpu.inFlight w.slot
  have hlive : ((p.entry w.slot).map (·.state.live)).getD false = (p.entry w.slot).any fun e => e.state.live := by
    cases p.entry w.slot <;> rfl
  rw [Part.applyWire, hlive, ← hsend, ← hflight]
  dsimp only
  split <;> rfl

theorem Part.entry_applyWire (p : Part) (w : WireRecord) (slot : Slot) :
    (p.applyWire w).entry slot = if slot = w.slot then some (p.shadowOf w) else p.entry slot := by
  rw [Part.applyWire]
  split <;> exact Part.entry_putEntry _ _ _ _

/-- The entry that reassertion leaves (R65). -/
def Entry.reasserted (e : Entry) : Entry :=
  { e with
    state := if e.state = .clean then .dirty else if e.state = .sent then .changed else e.state
    version := if e.state = .clean ∨ e.state = .sent then e.version + 1 else e.version }

/-- Reassertion makes a CLEAN entry due and leaves every other one where it is in the lists. -/
theorem Entry.lists_reasserted (e : Entry) :
    flies (some e.reasserted) = flies (some e)
      ∧ ∀ list slot, sendMove list slot (awaits (some e)) (awaits (some e.reasserted))
        = if e.state = .clean then list ++ [slot] else list := by
  unfold Entry.reasserted
  cases hs : e.state <;> simp [hs, sendMove, EntryState.awaitsSend, EntryState.inFlight]

/-- Reassertion is one act on the slot, or none (R65). -/
theorem Part.reassert_cases (p : Part) (slot : Slot) (e : Entry) :
    p.reassert slot e = p.putEntry slot (some e.reasserted)
      ∨ (p.reassert slot e = p ∧ e.reasserted = e ∧ e.state ≠ .clean) := by
  cases hs : e.state
  case clean => left; simp [Part.reassert, Entry.reasserted, hs]
  case sent => left; simp [Part.reassert, Entry.reasserted, hs]
  all_goals right; cases e; simp_all [Part.reassert, Entry.reasserted]

theorem Part.entry_reassert {slot : Slot} {e : Entry} (he : p.entry slot = some e) (x : Slot) :
    (p.reassert slot e).entry x = if x = slot then some e.reasserted else p.entry x := by
  rcases p.reassert_cases slot e with h | ⟨h, hsame, -⟩
  · rw [h, Part.entry_putEntry]
  · rw [h, hsame]
    split <;> simp_all

/-- Where the lists agree with the table, reassertion touches the entry and the tail of the Send List alone (R37, R65). -/
theorem Part.reassert_of_agree (h : p.Agree) {slot : Slot} {e : Entry} (he : p.entry slot = some e) :
    p.reassert slot e = { p with
      smt := { p.smt with table := (p.reassert slot e).smt.table }
      rpu := { p.rpu with
        sendList := if e.state = .clean then p.rpu.sendList ++ [slot] else p.rpu.sendList } } := by
  obtain ⟨hflies, hsend⟩ := e.lists_reasserted
  rcases p.reassert_cases slot e with hput | ⟨hstands, -, hclean⟩
  · rw [hput, Part.putEntry_of_agree h (by rw [he, hflies]), he, hsend]
  · rw [hstands, if_neg hclean]

/-- A receipt for a slot that has a pair replaces its version in place (R71). -/
theorem Part.makeReceipt_replace {slot : Slot} (h : ∃ r ∈ p.rpu.receipts, r.slot = slot) (version : Version) :
    p.makeReceipt slot version = { p with rpu := { p.rpu with receipts := p.rpu.receipts.map fun r =>
      if r.slot = slot then { r with version := version, transmitting := false } else r } } := by
  rw [Part.makeReceipt, if_pos (by simpa using h)]

/-- Any other joins at the tail (R71). -/
theorem Part.makeReceipt_join {slot : Slot} (h : ∀ r ∈ p.rpu.receipts, r.slot ≠ slot) (version : Version) :
    p.makeReceipt slot version = { p with rpu := { p.rpu with receipts := p.rpu.receipts ++
      [{ slot := slot, version := version, join := p.clock, transmitting := false, waited := false }] } } := by
  rw [Part.makeReceipt, if_neg (by simpa using h)]

theorem Part.receiptRoom_join {slot : Slot} (h : ∀ r ∈ p.rpu.receipts, r.slot ≠ slot)
    (hroom : p.receiptRoom slot = true) : p.rpu.receipts.length < 256 := by
  have hnone : (p.rpu.receipts.any fun r => decide (r.slot = slot)) = false := by simpa using h
  simpa [Part.receiptRoom, hnone] using hroom

/-- Under the room check of R61 the queue keeps to 256 pairs, one for each slot (R71). -/
theorem Part.receipts_makeReceipt {slot : Slot} (hroom : p.receiptRoom slot = true) (hlen : p.rpu.receipts.length ≤ 256)
    (hnd : (p.rpu.receipts.map fun r => r.slot).Nodup) (version : Version) :
    (p.makeReceipt slot version).rpu.receipts.length ≤ 256
      ∧ ((p.makeReceipt slot version).rpu.receipts.map fun r => r.slot).Nodup := by
  by_cases h : ∃ r ∈ p.rpu.receipts, r.slot = slot
  · rw [Part.makeReceipt_replace h]
    have hslots : (p.rpu.receipts.map fun r =>
        if r.slot = slot then { r with version := version, transmitting := false } else r).map (fun r => r.slot)
        = p.rpu.receipts.map fun r => r.slot := by
      rw [List.map_map]
      exact List.map_congr_left fun r _ => by simp only [Function.comp_apply]; split <;> rfl
    exact ⟨by simpa using hlen, by rw [hslots]; exact hnd⟩
  · have hnew : ∀ r ∈ p.rpu.receipts, r.slot ≠ slot := fun r hr hs => h ⟨r, hr, hs⟩
    rw [Part.makeReceipt_join hnew]
    refine ⟨by simpa using Part.receiptRoom_join hnew hroom, ?_⟩
    simpa [List.nodup_append, hnd] using fun r hr => hnew r hr

/-- Settles O24: an applied record by `Part.applyWire_eq`, reassertion by `Part.reassert_of_agree`, receipts by
`Part.receipts_makeReceipt`. -/
theorem recordsOfADeltaActOnTheirSlot : Obligations.RecordsOfADeltaActOnTheirSlot := by
  refine ⟨fun p w => ⟨p.entry_applyWire w, ?applied⟩, fun p slot e he _ hlists => ⟨Part.entry_reassert he, ?reasserted⟩,
    fun p slot version => ⟨fun h => Part.makeReceipt_replace h version, fun h => Part.makeReceipt_join h version,
      fun hroom hlen hnd => Part.receipts_makeReceipt hroom hlen hnd version⟩⟩
  case applied =>
    rw [Part.applyWire_eq]
  case reasserted => exact Part.reassert_of_agree (Part.agree_of_listsAgree hlists) he

/-! #### The pairs of a DROP (R68) -/

theorem Part.removeShadow_shadow {slot : Slot} {e : Entry} (he : p.entry slot = some e) (hs : e.state = .shadow) :
    p.removeShadow slot = p.putEntry slot none := by simp [Part.removeShadow, he, hs]

theorem Part.removeShadow_other {slot : Slot} (h : ∀ e, p.entry slot = some e → e.state ≠ .shadow) :
    p.removeShadow slot = p := by
  unfold Part.removeShadow
  split
  · rename_i e he
    exact if_neg (h e he)
  · rfl

/-- Settles O25: the header step, then a SHADOW (`Part.removeShadow_shadow`) or any other entry (`Part.removeShadow_other`). -/
theorem dropFreesAShadow : Obligations.DropFreesAShadow := by
  refine ⟨fun s l rx pairs hm h => exec_of_hearsNew hm h, fun p slot version rest => ⟨rfl, fun hroom => ?noRoom,
    fun hroom => ⟨fun e he hs => ?shadow, fun hother => ?other⟩⟩⟩
  case noRoom => simp [Part.takeDrop, hroom]
  case shadow => rw [Part.takeDrop, if_pos hroom, Part.removeShadow_shadow he hs]
  case other => rw [Part.takeDrop, if_pos hroom, Part.removeShadow_other hother]

end Sys2Proof.Machine

/-! ### What the transmitter takes -/

namespace Sys2Proof.Machine

variable {p : Part}

/-! #### Which frames are ready (R72, R96, R97) -/

theorem exec_transmitterTake_some {s : State} {q : Part} (hr : s.evp.resetHeld = false) (hin : s.mbi.inHand = none)
    (h : s.takeFrame = some q) : exec .transmitterTake s = .next (s.withPart q) :=
  exec_of_act hr (by simp [Part.act, Part.transmitterTake, hin, h])

theorem exec_transmitterTake_none {s : State} (hr : s.evp.resetHeld = false) (hin : s.mbi.inHand = none)
    (h : s.takeFrame = none) : exec .transmitterTake s = .next s :=
  exec_of_act hr (by simp [Part.act, Part.transmitterTake, hin, h])

theorem exec_transmitterTake_busy {s : State} (hr : s.evp.resetHeld = false) (hin : s.mbi.inHand ≠ none) :
    exec .transmitterTake s = .next s := by
  obtain ⟨h, hh⟩ := Option.ne_none_iff_exists'.1 hin
  exact exec_of_act hr (by simp [Part.act, Part.transmitterTake, hh])

theorem Part.takeAnswerFrame_empty (h : p.mbi.answers = []) : p.takeAnswerFrame = none := by
  simp [Part.takeAnswerFrame, h]

theorem Part.takeClaimFrame_empty (h : p.mbi.claims = []) : p.takeClaimFrame = none := by
  simp [Part.takeClaimFrame, h]

theorem Part.takeYieldFrame_empty (h : p.mbi.yields = []) : p.takeYieldFrame = none := by
  simp [Part.takeYieldFrame, h]

theorem Part.takePulseFrame_notDue (h : p.mbi.pulseDue = false) : p.takePulseFrame = none := by
  simp [Part.takePulseFrame, h]

/-- With no lane UP or DEGRADED no role frame is ready (R97). -/
theorem Part.roleFrames_noLane (h : p.someLaneUsable = false) :
    p.takeAnswerFrame = none ∧ p.takeClaimFrame = none ∧ p.takeYieldFrame = none ∧ p.takePulseFrame = none := by
  refine ⟨?_, ?_, ?_, ?_⟩
  · cases ha : p.mbi.answers <;> simp [Part.takeAnswerFrame, ha, h]
  · cases hc : p.mbi.claims <;> simp [Part.takeClaimFrame, hc, h]
  · cases hy : p.mbi.yields <;> simp [Part.takeYieldFrame, hy, h]
  · simp [Part.takePulseFrame, h]

theorem Part.takeReceiptFrame_notDue (h : p.mayReceipt = false) : p.takeReceiptFrame = none := by
  simp [Part.takeReceiptFrame, Part.buildReceipt, h]

theorem Part.takeSessionFrame_notDue (h : p.mayBuild = false) : p.takeSessionFrame = none := by
  simp [Part.takeSessionFrame, Part.buildSession, h]

/-- Without a working lane neither a RECEIPT nor a session frame is ready (R39, R72). -/
theorem Part.replicationFrames_noLane (h : p.mbi.workingLane = none) :
    p.takeReceiptFrame = none ∧ p.takeSessionFrame = none := by
  simp [Part.takeReceiptFrame, Part.takeSessionFrame, h]

theorem Part.takeAlignFrame_due {l : Lane} (ht : (p.lane l).state = .training) (hd : (p.lane l).alignDue = true) :
    p.takeAlignFrame l = some ((p.setLane l { p.lane l with alignDue := false }).hold (.align l)
      (p.ownFrame .align 0 alignPattern) l false) := by
  simp [Part.takeAlignFrame, ht, hd]

theorem Part.takeAlignFrame_notDue {l : Lane} (h : (p.lane l).state = .training → (p.lane l).alignDue = false) :
    p.takeAlignFrame l = none := by
  by_cases ht : (p.lane l).state = .training
  · simp [Part.takeAlignFrame, h ht]
  · simp [Part.takeAlignFrame, ht]

/-- With nothing ahead of it in the order an ALIGN is taken, lane A's before lane B's (R97). -/
theorem Part.takeFrame_align
    (hrole : p.someLaneUsable = false
      ∨ (p.mbi.answers = [] ∧ p.mbi.claims = [] ∧ p.mbi.yields = [] ∧ p.mbi.pulseDue = false))
    (hreplication : p.mbi.workingLane = none ∨ (p.mayReceipt = false ∧ p.mayBuild = false)) :
    p.takeFrame = (p.takeAlignFrame .a).or (p.takeAlignFrame .b) := by
  obtain ⟨hanswer, hclaim, hyield, hpulse⟩ : p.takeAnswerFrame = none ∧ p.takeClaimFrame = none
      ∧ p.takeYieldFrame = none ∧ p.takePulseFrame = none := by
    rcases hrole with hu | ⟨ha, hc, hy, hd⟩
    · exact Part.roleFrames_noLane hu
    · exact ⟨Part.takeAnswerFrame_empty ha, Part.takeClaimFrame_empty hc, Part.takeYieldFrame_empty hy,
        Part.takePulseFrame_notDue hd⟩
  obtain ⟨hreceipt, hsession⟩ : p.takeReceiptFrame = none ∧ p.takeSessionFrame = none := by
    rcases hreplication with hw | ⟨hr, hb⟩
    · exact Part.replicationFrames_noLane hw
    · exact ⟨Part.takeReceiptFrame_notDue hr, Part.takeSessionFrame_notDue hb⟩
  simp [Part.takeFrame, hanswer, hclaim, hyield, hpulse, hreceipt, hsession]

/-! #### The order of the frames (R97) -/

theorem Part.takeFrame_answer {a : AnswerFrame} {rest : List AnswerFrame} (hu : p.someLaneUsable = true)
    (ha : p.mbi.answers = a :: rest) :
    p.takeFrame = some (({ p with mbi := { p.mbi with answers := rest } }).holdRole (.answer a)
      (p.ownFrame .answer a.number (answerPayload a))) := by
  simp [Part.takeFrame, Part.takeAnswerFrame, ha, hu]

theorem Part.takeFrame_claim {c : ClaimFrame} {rest : List ClaimFrame} (hu : p.someLaneUsable = true)
    (ha : p.mbi.answers = []) (hc : p.mbi.claims = c :: rest) :
    p.takeFrame = some (({ p with mbi := { p.mbi with claims := rest } }).holdRole (.claim c)
      (p.ownFrame .claim c.number (claimPayload c))) := by
  simp [Part.takeFrame, Part.takeAnswerFrame_empty ha, Part.takeClaimFrame, hc, hu]

theorem Part.takeFrame_yield {g : Group} {rest : List Group} (hu : p.someLaneUsable = true)
    (ha : p.mbi.answers = []) (hc : p.mbi.claims = []) (hy : p.mbi.yields = g :: rest) :
    p.takeFrame = some (({ p with mbi := { p.mbi with yields := rest } }).holdRole (.yield g)
      (p.ownFrame .yield 0 [groupByte g])) := by
  simp [Part.takeFrame, Part.takeAnswerFrame_empty ha, Part.takeClaimFrame_empty hc, Part.takeYieldFrame, hy, hu]

theorem Part.takeFrame_pulse (hu : p.someLaneUsable = true) (ha : p.mbi.answers = []) (hc : p.mbi.claims = [])
    (hy : p.mbi.yields = []) (hr : p.mayReceipt = false) (hd : p.mbi.pulseDue = true) :
    p.takeFrame = some (({ p with mbi := { p.mbi with pulseDue := false } }).holdRole (.pulse p.ppu.merits)
      (p.ownFrame .pulse 0 p.pulsePayload)) := by
  simp [Part.takeFrame, Part.takeAnswerFrame_empty ha, Part.takeClaimFrame_empty hc, Part.takeYieldFrame_empty hy,
    Part.takeReceiptFrame_notDue hr, Part.takePulseFrame, hd, hu]

/-! #### The RECEIPT frame (R72) -/

/-- A pair with its transmitting flag clear. -/
def Receipt.unflagged (r : Receipt) : Receipt := { r with transmitting := false }

/-- Flagging moves no pair and changes nothing else in it. -/
theorem flagReceipts_unflagged (n : Nat) (rs : List Receipt) :
    (flagReceipts n rs).map Receipt.unflagged = rs.map Receipt.unflagged := by
  induction rs generalizing n with
  | nil => cases n <;> rfl
  | cons r rs ih =>
    cases n with
    | zero => rfl
    | succ n =>
      rw [flagReceipts]
      split <;> exact congrArg (r.unflagged :: ·) (ih _)

/-- The pairs that still wait are those behind the first `n` that waited. -/
theorem flagReceipts_waiting (n : Nat) (rs : List Receipt) :
    (flagReceipts n rs).filter (fun r => !r.transmitting) = (rs.filter fun r => !r.transmitting).drop n := by
  induction rs generalizing n with
  | nil => cases n <;> rfl
  | cons r rs ih =>
    cases n with
    | zero => rfl
    | succ n => cases hr : r.transmitting <;> simp [flagReceipts, hr, ih]

/-- The conditions of R72 for a member with a LIVE other member and a working lane. -/
theorem Part.mayReceipt_of {l : Lane} (hm : p.isMember = true) (hl : p.otherLive = true)
    (hw : p.mbi.workingLane = some l) (hne : p.waitingReceipts ≠ [])
    (hdue : 32 ≤ p.waitingReceipts.length ∨ p.receiptWaited = true) : p.mayReceipt = true := by
  simp [Part.mayReceipt, hm, hl, hw, hne, hdue]

theorem Part.takeFrame_receipt {l : Lane} (ha : p.mbi.answers = []) (hc : p.mbi.claims = []) (hy : p.mbi.yields = [])
    (hw : p.mbi.workingLane = some l) (hr : p.mayReceipt = true) :
    p.takeFrame = some (({ p with rpu := { p.rpu with receipts := flagReceipts 32 p.rpu.receipts } }).hold .receipt
      (p.ownFrame .receipt 0
        ((p.waitingReceipts.take 32).flatMap fun (r : Receipt) => pairBytes (r.slot, r.version))) l false) := by
  simp [Part.takeFrame, Part.takeAnswerFrame_empty ha, Part.takeClaimFrame_empty hc, Part.takeYieldFrame_empty hy,
    Part.takeReceiptFrame, hw, Part.buildReceipt, hr]

/-! #### The heard-lanes byte (R107, R183) -/

theorem getLsbD_bitByte (b : Bool) {j : Nat} (hj : j < 8) (i : Nat) :
    (bitByte b j).getLsbD i = true ↔ b = true ∧ i = j := by
  cases b
  · simp [bitByte]
  · simp only [bitByte, if_true, BitVec.getLsbD_ofNat, Nat.testBit_two_pow, Bool.and_eq_true, decide_eq_true_eq,
      true_and]
    omega

/-- The bit of a lane within the two bits of a station (R183). -/
theorem Part.getLsbD_heardBits (y : Station) (i : Nat) :
    (p.heardBits y).getLsbD i = true
      ↔ (p.heardOn y .a = true ∧ i = 2 * y.toNat) ∨ (p.heardOn y .b = true ∧ i = 2 * y.toNat + 1) := by
  have hy : y.toNat ≤ 2 := by cases y <;> decide
  rw [Part.heardBits, BitVec.getLsbD_or, Bool.or_eq_true, getLsbD_bitByte _ (by omega), getLsbD_bitByte _ (by omega)]

/-- The stations that a PULSE reports on: a member the other member, a witness both members (R106). -/
def Profile.reports (c : Profile) (y : Station) : Prop :=
  if c.station = .s2 then y ≠ .s2 else y = (if c.station = .s0 then .s1 else .s0)

theorem Profile.reports_witness {c : Profile} (h : c.station = .s2) (y : Station) : c.reports y ↔ y ≠ .s2 := by
  rw [Profile.reports, if_pos h]

theorem Profile.reports_member {c : Profile} (h : c.station ≠ .s2) (y : Station) :
    c.reports y ↔ y = otherMemberOf c.station := by
  rw [Profile.reports, if_neg h]
  cases hs : c.station
  · rfl
  · rfl
  · exact absurd hs h

theorem Part.getLsbD_heardByte {c : Profile} (hp : p.profile = some c) (i : Nat) :
    p.heardByte.getLsbD i = true ↔ ∃ y : Station, c.reports y ∧ (p.heardBits y).getLsbD i = true := by
  have hself := Part.self_of_profile hp
  by_cases hs : c.station = .s2
  · have hw : p.isWitness = true := by simp [Part.isWitness, hp, hself, hs]
    simp only [Part.heardByte, hw, if_true, BitVec.getLsbD_or, Bool.or_eq_true, Profile.reports_witness hs]
    constructor
    · rintro (h | h)
      · exact ⟨.s0, nofun, h⟩
      · exact ⟨.s1, nofun, h⟩
    · rintro ⟨y, hy, h⟩
      cases y
      · exact .inl h
      · exact .inr h
      · exact absurd rfl hy
  · simp [Part.heardByte, Part.isWitness_eq_false (hself ▸ hs), Part.otherMember, hself, Profile.reports_member hs]

theorem Part.heardOn_iff {c : Profile} (hp : p.profile = some c) (y : Station) (l : Lane) :
    p.heardOn y l = true ↔ ∃ tick : Tick, (p.peer y).state = .live ∧ (p.peer y).heardOn.get l = some tick
      ∧ (p.clock - tick).toNat < c.pulseInterval * c.missLimit := by
  unfold Part.heardOn
  cases (p.peer y).heardOn.get l <;> simp [Part.peerLive, Part.holdDown_of_profile hp, Part.since]

/-- Settles O32: the order from `Part.takeFrame_answer` to `Part.takeFrame_align`, the RECEIPT from `flagReceipts_waiting`, the
heard-lanes byte bit by bit. -/
theorem transmitterTakesInOrder : Obligations.TransmitterTakesInOrder := by
  refine ⟨fun s hr => ⟨exec_transmitterTake_busy hr, fun hin => ⟨fun hu => ⟨fun a rest ha => ?answer, fun ha =>
    ⟨fun c rest hc => ?claim, fun hc => ⟨fun g rest hy => ?yield, fun hy hrec hd => ?pulse⟩⟩⟩,
    fun hrole hrepl => ⟨fun l ht hd hfirst => ?align, fun hnone => ?nothing⟩⟩⟩,
    fun s l hr hin ha hc hy hm hl hw hne hdue => ?receipt, fun p c i hp => ?heard⟩
  case answer => exact exec_transmitterTake_some hr hin (Part.takeFrame_answer hu ha)
  case claim => exact exec_transmitterTake_some hr hin (Part.takeFrame_claim hu ha hc)
  case yield => exact exec_transmitterTake_some hr hin (Part.takeFrame_yield hu ha hc hy)
  case pulse => exact exec_transmitterTake_some hr hin (Part.takeFrame_pulse hu ha hc hy hrec hd)
  case align =>
    refine exec_transmitterTake_some hr hin ((Part.takeFrame_align hrole hrepl).trans ?_)
    cases l with
    | a => rw [Part.takeAlignFrame_due ht hd]; rfl
    | b => rw [Part.takeAlignFrame_notDue (hfirst rfl), Part.takeAlignFrame_due ht hd]; rfl
  case nothing =>
    refine exec_transmitterTake_none hr hin ((Part.takeFrame_align hrole hrepl).trans ?_)
    have hnotDue (l : Lane) : s.takeAlignFrame l = none :=
      Part.takeAlignFrame_notDue fun ht => (hnone l).resolve_left fun hn => hn ht
    rw [hnotDue, hnotDue]
    rfl
  case receipt =>
    have hwaits : s.waitingReceipts ≠ [] := by
      obtain ⟨r, hmem, hclear⟩ := hne
      exact List.ne_nil_of_mem (List.mem_filter.2 ⟨hmem, by rw [hclear]; rfl⟩)
    have hmay : s.mayReceipt = true := by
      refine Part.mayReceipt_of hm hl hw hwaits (hdue.imp_right ?_)
      rintro ⟨r, later, hfirst, hwaited⟩
      have hfirst' : s.waitingReceipts = r :: later := hfirst
      simpa [Part.receiptWaited, hfirst', Part.receiptReached] using hwaited
    exact ⟨_, exec_transmitterTake_some hr hin (Part.takeFrame_receipt ha hc hy hw hmay), rfl,
      flagReceipts_unflagged 32 _, flagReceipts_waiting 32 _, rfl⟩
  case heard =>
    dsimp only
    rw [Part.getLsbD_heardByte hp]
    simp only [Part.getLsbD_heardBits, Part.heardOn_iff hp]
    constructor
    · rintro ⟨y, hreported, ⟨⟨tick, hlive, hheard, hrecent⟩, hi⟩ | ⟨⟨tick, hlive, hheard, hrecent⟩, hi⟩⟩
      · exact ⟨y, .a, tick, hreported, hlive, hheard, hrecent, hi⟩
      · exact ⟨y, .b, tick, hreported, hlive, hheard, hrecent, hi⟩
    · rintro ⟨y, l, tick, hreported, hlive, hheard, hrecent, hi⟩
      cases l with
      | a => exact ⟨y, hreported, .inl ⟨⟨tick, hlive, hheard, hrecent⟩, hi⟩⟩
      | b => exact ⟨y, hreported, .inr ⟨⟨tick, hlive, hheard, hrecent⟩, hi⟩⟩

end Sys2Proof.Machine

/-! ### What places the egress FIFO gives -/

namespace Sys2Proof.Machine

variable {p q r : Part}

/-! #### Acts that place nothing but notices (R142, R178) -/

/-- `q` comes of `p` by acts that place nothing but notices in the egress FIFO. -/
def Part.Notices (p q : Part) : Prop :=
  ∃ notices, q.evp.egress = p.evp.egress ++ notices ∧ ∀ x ∈ notices, x.isAnswer = false

namespace Part.Notices

theorem of_evp (h : q.evp = p.evp) : p.Notices q := ⟨[], by simp [h], by simp⟩

theorem refl (p : Part) : p.Notices p := of_evp rfl

theorem trans (h : p.Notices q) (h' : q.Notices r) : p.Notices r := by
  obtain ⟨ns, hns, hall⟩ := h
  obtain ⟨ns', hns', hall'⟩ := h'
  exact ⟨ns ++ ns', by simp [hns', hns], fun x hx => (List.mem_append.1 hx).elim (hall x) (hall' x)⟩

theorem then_evp (h : p.Notices q) (he : r.evp = q.evp) : p.Notices r := h.trans (of_evp he)

theorem from_evp (h : q.Notices r) (he : q.evp = p.evp) : p.Notices r := (of_evp he).trans h

theorem place {x : EgressRecord} (hx : x.isAnswer = false) : p.Notices (p.place x) := ⟨[x], rfl, by simpa using hx⟩

theorem roleNotice (p : Part) (g : Group) (old new : Role) (cause : RoleCause) :
    p.Notices (p.roleNotice g old new cause) := by
  unfold Part.roleNotice
  split
  · exact ⟨[], by simp, by simp⟩
  · split
    · exact place rfl
    · exact ⟨[], by simp, by simp⟩

theorem laneNotice (p : Part) (l : Lane) : p.Notices (p.laneNotice l) := by
  unfold Part.laneNotice
  split
  · exact ⟨[], by simp, by simp⟩
  · exact place rfl

theorem setRole (p : Part) (g : Group) (new : Role) (cause : RoleCause) : p.Notices (p.setRole g new cause) :=
  (roleNotice _ g _ new cause).from_evp rfl

theorem makeClaim (p : Part) (g : Group) (kind : ClaimKind) : p.Notices (p.makeClaim g kind) :=
  (setRole p g .claiming (causeOfClaim kind)).then_evp rfl

theorem evalStandby (p : Part) (g : Group) : p.Notices (p.evalStandby g) := by
  have claims (kind : ClaimKind) : p.Notices ((p.updateVacancy g).makeClaim g kind) :=
    (makeClaim _ g kind).from_evp (Part.updateVacancy_evp p g)
  unfold Part.evalStandby
  dsimp only
  split
  · exact refl p
  · split
    · exact claims _
    · split
      · exact claims _
      · exact of_evp (Part.updateVacancy_evp p g)

theorem enterStandby (p : Part) (g : Group) (cause : RoleCause) : p.Notices (p.enterStandby g cause) :=
  (setRole p g .standby cause).trans (evalStandby _ g)

theorem evaluate (p : Part) (g : Group) : p.Notices (p.evaluate g) := by
  unfold Part.evaluate
  split
  · split
    · exact enterStandby p g _
    · exact refl p
  · exact evalStandby p g
  · exact refl p

theorem evaluateAll (p : Part) : p.Notices p.evaluateAll := (evaluate p .g0).trans (evaluate _ .g1)

theorem startListen (p : Part) (g : Group) (cause : RoleCause) : p.Notices (p.startListen g cause) :=
  (setRole p g .listen cause).then_evp rfl

theorem unfenceGroup (p : Part) (g : Group) : p.Notices (p.unfenceGroup g) := by
  unfold Part.unfenceGroup
  split
  · exact startListen p g _
  · exact refl p

theorem unfence (p : Part) : p.Notices p.unfence :=
  ((unfenceGroup p .g0).trans (unfenceGroup _ .g1)).trans (evaluateAll _)

theorem clearFence (p : Part) (f : FenceCauses) : p.Notices (p.clearFence f) := by
  unfold Part.clearFence
  split
  · exact (unfence _).from_evp rfl
  · exact of_evp rfl

theorem exitActive (p : Part) (g : Group) (new : Role) (cause : RoleCause) : p.Notices (p.exitActive g new cause) :=
  (setRole p g new cause).then_evp rfl

theorem fenceGroup (p : Part) (g : Group) : p.Notices (p.fenceGroup g) := by
  unfold Part.fenceGroup
  split
  · exact refl p
  · exact refl p
  · exact exitActive p g _ _
  · exact setRole p g _ _

theorem fenceAll (p : Part) : p.Notices p.fenceAll :=
  ((fenceGroup p .g0).trans (fenceGroup _ .g1)).then_evp (Part.serveFreed_evp _ p)

theorem testQuorum (p : Part) : p.Notices p.testQuorum := by
  unfold Part.testQuorum Part.applyFence
  split
  · split
    · exact of_evp rfl
    · exact (fenceAll _).from_evp rfl
  · exact refl p

theorem completeYield (p : Part) (g : Group) (timedOut : Bool) : p.Notices (p.completeYield g timedOut) := by
  have role (cause : RoleCause) : p.Notices (p.setRole g .standby cause) := setRole p g .standby cause
  unfold Part.completeYield
  dsimp only
  refine .trans ?_ (evalStandby _ g)
  split
  · exact (role _).then_evp (Part.queuePending_evp _ _ _ _)
  · exact role _

theorem flushTest (p : Part) (g : Group) : p.Notices (p.flushTest g) := by
  unfold Part.flushTest
  split
  · exact completeYield p g false
  · exact refl p

theorem flushTests (p : Part) : p.Notices p.flushTests := (flushTest p .g0).trans (flushTest _ .g1)

theorem enterYielding (p : Part) (g : Group) (cause : RoleCause) (pending : PendingFrame) :
    p.Notices (p.enterYielding g cause pending) := by
  unfold Part.enterYielding
  refine .then_evp ?_ (Part.serveFreed_evp _ p)
  exact (exitActive p g .yielding cause).trans (((testQuorum _).trans (flushTest _ g)).from_evp rfl)

theorem laneTo (p : Part) (l : Lane) (new : LaneState) : p.Notices (p.laneTo l new) := by
  have noticed : p.Notices ((p.setLane l ((p.lane l).enter new p.clock)).laneNotice l) :=
    (laneNotice _ l).from_evp rfl
  exact (noticed.then_evp (Part.abandonLost_evp _)).then_evp (Part.chooseLane_evp _)

theorem enableLane (p : Part) (c : Profile) (l : Lane) : p.Notices (p.enableLane c l) := by
  unfold Part.enableLane
  split
  · exact laneTo p l _
  · exact refl p

theorem configure (p : Part) (c : Profile) : p.Notices (p.configure c) := by
  have lanes (q : Part) : q.Notices ((q.enableLane c .a).enableLane c .b) :=
    (enableLane q c .a).trans (enableLane _ c .b)
  have member (q : Part) : q.Notices (q.startMember c) :=
    (((startListen _ .g0 _).trans (startListen _ .g1 _)).trans (evaluateAll _)).from_evp rfl
  unfold Part.configure
  dsimp only
  split
  · exact (lanes _).from_evp rfl
  · exact ((lanes _).trans (member _)).from_evp rfl

end Part.Notices

/-! #### A record in hand is answered and changes nothing, or is taken and brings nothing but notices (R21, R172) -/

@[simp] theorem Part.markInstalled_evp (p : Part) (g : Group) (slot : Slot) : (p.markInstalled g slot).evp = p.evp := by
  unfold Part.markInstalled
  split
  · split <;> rfl
  · rfl

@[simp] theorem Part.releaseRecord_evp (p : Part) (g : Group) (r : BufferRec) : (p.releaseRecord g r).evp = p.evp := by
  unfold Part.releaseRecord
  split <;> simp

theorem Part.release_evp (p : Part) (i : Fin 8) : (p.release i).evp = p.evp := by
  unfold Part.release
  split
  · rename_i g recs _ _ void _
    have records (rs : List BufferRec) (q : Part) : (rs.foldl (fun q r => q.releaseRecord g r) q).evp = q.evp := by
      induction rs generalizing q with
      | nil => rfl
      | cons r rs ih => exact (ih _).trans (q.releaseRecord_evp g r)
    cases void <;> simp [records]
  · rfl

/-- What taking a record comes to: an answer and no change, or no answer and nothing placed but notices. -/
def Part.TakenAs (p : Part) (x : Part × Option EgressRecord) : Prop :=
  (∃ a, x = (p, some a) ∧ a.isAnswer = true) ∨ (x.2 = none ∧ p.Notices x.1)

namespace Part.TakenAs

theorem refused (ws : List Word32) (cause : RefusalCause) : p.TakenAs (p, refusal ws cause) := .inl ⟨_, rfl, rfl⟩

theorem unanswered (h : p.Notices q) : p.TakenAs (q, none) := .inr ⟨rfl, h⟩

theorem takeProfile (p : Part) (ws : List Word32) : p.TakenAs (p.takeProfile ws) := by
  unfold Part.takeProfile
  split
  · exact refused _ _
  · split
    · exact refused _ _
    · exact unanswered (.configure p _)

theorem takeOpen (p : Part) (ws : List Word32) : p.TakenAs (p.takeOpen ws) := by
  unfold Part.takeOpen
  split
  · exact refused _ _
  · split
    · exact refused _ _
    · exact unanswered (.of_evp rfl)

theorem takeUpdate (p : Part) (ws : List Word32) : p.TakenAs (p.takeUpdate ws) := by
  unfold Part.takeUpdate
  split
  · exact refused _ _
  · split
    · exact refused _ _
    · split
      · exact unanswered (.of_evp rfl)
      · exact refused _ _

theorem takeClose (p : Part) (ws : List Word32) : p.TakenAs (p.takeClose ws) := by
  unfold Part.takeClose
  split
  · exact refused _ _
  · split
    · exact refused _ _
    · exact unanswered ((Part.Notices.flushTests _).from_evp (Part.closeEntry_evp _ _ _))

theorem takeAlive (p : Part) (ws : List Word32) : p.TakenAs (p.takeAlive ws) := by
  unfold Part.takeAlive
  split
  · exact refused _ _
  · split
    · exact refused _ _
    · split
      · exact unanswered (.refl p)
      · exact unanswered ((Part.Notices.clearFence _ _).from_evp rfl)

theorem takeRelease (p : Part) (ws : List Word32) : p.TakenAs (p.takeRelease ws) := by
  unfold Part.takeRelease
  split
  · exact refused _ _
  · split
    · exact refused _ _
    · split
      · exact refused _ _
      · split
        · split
          · exact unanswered (.of_evp (Part.release_evp _ _))
          · exact refused _ _
        · exact refused _ _

theorem takeHandover (p : Part) (ws : List Word32) : p.TakenAs (p.takeHandover ws) := by
  unfold Part.takeHandover
  split
  · exact refused _ _
  · split
    · exact refused _ _
    · split
      · exact refused _ _
      · split
        · exact refused _ _
        · split
          · exact unanswered (.enterYielding p _ _ _)
          · exact refused _ _

theorem takeStatus (p : Part) (ws : List Word32) : p.TakenAs (p.takeStatus ws) := by
  unfold Part.takeStatus
  split
  · exact refused _ _
  · exact .inl ⟨_, rfl, rfl⟩

theorem take (p : Part) (ws : List Word32) : ∀ k : IngressKind, p.TakenAs (k.take p ws)
  | .profile => takeProfile p ws
  | .open => takeOpen p ws
  | .update => takeUpdate p ws
  | .close => takeClose p ws
  | .alive => takeAlive p ws
  | .release => takeRelease p ws
  | .handover => takeHandover p ws
  | .status => takeStatus p ws

end Part.TakenAs

/-! #### The first mark (R179, R180) -/

/-- The part with the egress FIFO replaced. -/
def Part.withEgress (p : Part) (records : List EgressRecord) : Part := { p with evp := { p.evp with egress := records } }

theorem Part.emitRoleMark_none {g : Group} (h : p.evp.roleMarks.get g = none) : p.emitRoleMark g = none := by
  simp [Part.emitRoleMark, h]

theorem Part.emitPeerMark_none {y : Station} (h : p.evp.peerMarks.get y = false) : p.emitPeerMark y = none := by
  simp [Part.emitPeerMark, h]

theorem Part.emitLaneMark_none {l : Lane} (h : p.evp.laneMarks.get l = false) : p.emitLaneMark l = none := by
  simp [Part.emitLaneMark, h]

theorem Part.emitMark_role {g : Group} {m : RoleMark} (h : p.evp.roleMarks.get g = some m)
    (hfirst : g = .g1 → p.evp.roleMarks.g0 = none) :
    p.emitMark = some { p with evp := { p.evp with
      egress := p.evp.egress ++ [.role g (p.role g) m.cause m.skipped], roleMarks := p.evp.roleMarks.set g none } } := by
  have hg : p.emitRoleMark g = some { p with evp := { p.evp with
      egress := p.evp.egress ++ [.role g (p.role g) m.cause m.skipped], roleMarks := p.evp.roleMarks.set g none } } := by
    rw [Part.emitRoleMark, h]
    rfl
  cases g with
  | g0 => simp [Part.emitMark, hg]
  | g1 => simp [Part.emitMark, hg, Part.emitRoleMark_none (p := p) (g := .g0) (hfirst rfl)]

theorem Part.emitMark_peer {y : Station} (hroles : p.evp.roleMarks = .both none) (h : p.evp.peerMarks.get y = true)
    (hfirst : ∀ z : Station, z.toNat < y.toNat → p.evp.peerMarks.get z = false) :
    p.emitMark = some { p with evp := { p.evp with
      egress := p.evp.egress ++ [.peer y (p.peer y).state (p.peer y).incarnation],
      peerMarks := p.evp.peerMarks.set y false } } := by
  have hrole (g : Group) : p.emitRoleMark g = none := Part.emitRoleMark_none (by simp [hroles])
  have hlower {z : Station} (hz : z.toNat < y.toNat) : p.emitPeerMark z = none := Part.emitPeerMark_none (hfirst z hz)
  have hy : p.emitPeerMark y = some { p with evp := { p.evp with
      egress := p.evp.egress ++ [.peer y (p.peer y).state (p.peer y).incarnation],
      peerMarks := p.evp.peerMarks.set y false } } := by
    rw [Part.emitPeerMark, if_pos h]
    rfl
  cases y with
  | s0 => simp [Part.emitMark, hrole, hy]
  | s1 => simp [Part.emitMark, hrole, hlower (z := .s0) (by decide), hy]
  | s2 => simp [Part.emitMark, hrole, hlower (z := .s0) (by decide), hlower (z := .s1) (by decide), hy]

theorem Part.emitMark_lane {l : Lane} (hroles : p.evp.roleMarks = .both none) (hpeers : p.evp.peerMarks = .all false)
    (h : p.evp.laneMarks.get l = true) (hfirst : l = .b → p.evp.laneMarks.a = false) :
    p.emitMark = some { p with evp := { p.evp with
      egress := p.evp.egress ++ [.lane l (p.lane l).state], laneMarks := p.evp.laneMarks.set l false } } := by
  have hrole (g : Group) : p.emitRoleMark g = none := Part.emitRoleMark_none (by simp [hroles])
  have hpeer (y : Station) : p.emitPeerMark y = none := Part.emitPeerMark_none (by simp [hpeers])
  have hl : p.emitLaneMark l = some { p with evp := { p.evp with
      egress := p.evp.egress ++ [.lane l (p.lane l).state], laneMarks := p.evp.laneMarks.set l false } } := by
    rw [Part.emitLaneMark, if_pos h]
    rfl
  cases l with
  | a => simp [Part.emitMark, hrole, hpeer, hl]
  | b => simp [Part.emitMark, hrole, hpeer, hl, Part.emitLaneMark_none (p := p) (l := .a) (hfirst rfl)]

theorem Part.emitMark_none (hroles : p.evp.roleMarks = .both none) (hpeers : p.evp.peerMarks = .all false)
    (hlanes : p.evp.laneMarks = .both false) : p.emitMark = none := by
  have hrole (g : Group) : p.emitRoleMark g = none := Part.emitRoleMark_none (by simp [hroles])
  have hpeer (y : Station) : p.emitPeerMark y = none := Part.emitPeerMark_none (by simp [hpeers])
  have hlane (l : Lane) : p.emitLaneMark l = none := Part.emitLaneMark_none (by simp [hlanes])
  simp [Part.emitMark, hrole, hpeer, hlane]

theorem exec_egressRecordTaken_marked {s : State} {r : EgressRecord} {rest : List EgressRecord} {q : Part}
    (hr : s.evp.resetHeld = false) (he : s.evp.egress = r :: rest) (h : (s.withEgress rest).emitMark = some q) :
    exec .egressRecordTaken s = .next (s.withPart q) :=
  exec_of_act hr (by
    change Part.egressTaken _ = _
    unfold Part.egressTaken
    rw [he]
    exact congrArg (Option.getD · _) h)

theorem exec_egressRecordTaken_unmarked {s : State} {r : EgressRecord} {rest : List EgressRecord}
    (hr : s.evp.resetHeld = false) (he : s.evp.egress = r :: rest) (h : (s.withEgress rest).emitMark = none) :
    exec .egressRecordTaken s = .next (s.withPart
      (if rest.length = 55 then (s.withEgress rest).giveGeneral else s.withEgress rest)) :=
  exec_of_act hr (by
    change Part.egressTaken _ = _
    unfold Part.egressTaken
    rw [he]
    refine (congrArg (Option.getD · _) h).trans ?_
    simp [Part.giveFreed, Part.withEgress])

/-! #### REVOKED and BATCH (R76, R163) -/

theorem Part.takeRevoked_none (h : p.rpu.revoke = []) : p.takeRevoked = none := by simp [Part.takeRevoked, h]

theorem Part.takeRevoked_some (h : p.rpu.revoke ≠ []) :
    p.takeRevoked = some (.revoked (p.rpu.revoke.take 32),
      { p with rpu := { p.rpu with revoke := p.rpu.revoke.drop 32 } }) := by
  simp [Part.takeRevoked, h]

theorem Part.takeBatch_none (h : p.tku.postOrder = []) : p.takeBatch = none := by simp [Part.takeBatch, h]

/-- The oldest POSTED buffer of those not yet emitted (R163). -/
structure Part.Oldest (p : Part) (i : Fin 8) (order : List (Fin 8)) (g : Group) (recs : List BufferRec)
    (final emitted void : Bool) (c : Profile) : Prop where
  order : p.tku.postOrder = i :: order
  buffer : p.buffer i = .posted g recs final emitted void
  profile : p.profile = some c

theorem Part.takeBatch_some {i : Fin 8} {order : List (Fin 8)} {g : Group} {recs : List BufferRec}
    {final emitted void : Bool} {c : Profile} (h : p.Oldest i order g recs final emitted void c) :
    p.takeBatch = some (.batch i g c.grace final (recs.map fun x => x.record),
      { p with tku := { buffers := p.tku.buffers.set i (.posted g recs final true void), postOrder := order } }) := by
  simp [Part.takeBatch, h.order, h.buffer, h.profile, Part.setBuffer]

/-- The place behind `rest`, ahead of what has been placed since. -/
theorem Part.placeAt_append {rest ns : List EgressRecord} (h : p.evp.egress = rest ++ ns) (x : EgressRecord) :
    p.placeAt rest.length x = p.withEgress (rest ++ x :: ns) := by
  simp [Part.placeAt, Part.withEgress, h]

/-- A place that REVOKED or BATCH has a record for, ahead of the notices placed since (R179). -/
theorem Part.fillPlace_some {rest ns : List EgressRecord} {x : EgressRecord} (h : p.evp.egress = rest ++ ns)
    (hopen : p.evp.egress.length < 64) (hx : p.takeRevokedOrBatch = some (x, q)) (he : q.evp = p.evp) :
    p.fillPlace rest.length = q.withEgress (rest ++ x :: ns) := by
  rw [← Part.placeAt_append (p := q) (by rw [he, h])]
  simp [Part.fillPlace, Part.noticeOpen, hopen, hx]

theorem Part.takeRevokedOrBatch_revoked (h : p.rpu.revoke ≠ []) : p.takeRevokedOrBatch = p.takeRevoked := by
  simp [Part.takeRevokedOrBatch, Part.takeRevoked_some h]

theorem Part.takeRevokedOrBatch_batch (h : p.rpu.revoke = []) : p.takeRevokedOrBatch = p.takeBatch := by
  simp [Part.takeRevokedOrBatch, Part.takeRevoked_none h]

theorem Part.fillPlace_revoked {rest ns : List EgressRecord} (h : p.evp.egress = rest ++ ns)
    (hopen : p.evp.egress.length < 64) (hrev : p.rpu.revoke ≠ []) :
    p.fillPlace rest.length = { p with
      evp := { p.evp with egress := rest ++ .revoked (p.rpu.revoke.take 32) :: ns }
      rpu := { p.rpu with revoke := p.rpu.revoke.drop 32 } } :=
  Part.fillPlace_some h hopen ((Part.takeRevokedOrBatch_revoked hrev).trans (Part.takeRevoked_some hrev)) rfl

theorem Part.fillPlace_batch {rest ns : List EgressRecord} (h : p.evp.egress = rest ++ ns)
    (hopen : p.evp.egress.length < 64) (hrev : p.rpu.revoke = []) {i : Fin 8} {order : List (Fin 8)} {g : Group}
    {recs : List BufferRec} {final emitted void : Bool} {c : Profile}
    (hold : p.Oldest i order g recs final emitted void c) :
    p.fillPlace rest.length = { p with
      evp := { p.evp with egress := rest ++ .batch i g c.grace final (recs.map fun x => x.record) :: ns }
      tku := { buffers := p.tku.buffers.set i (.posted g recs final true void), postOrder := order } } :=
  Part.fillPlace_some h hopen ((Part.takeRevokedOrBatch_batch hrev).trans (Part.takeBatch_some hold)) rfl

theorem Part.fillPlace_none (n : Nat) (hrev : p.rpu.revoke = []) (hpost : p.tku.postOrder = []) : p.fillPlace n = p := by
  have hnone : p.takeRevokedOrBatch = none :=
    (Part.takeRevokedOrBatch_batch hrev).trans (Part.takeBatch_none hpost)
  unfold Part.fillPlace
  rw [hnone]
  exact ite_self _

/-! #### The place given to the record in hand (R172, R179) -/

theorem Part.giveGeneral_answered {ws : List Word32} {later : List (List Word32)} {a : EgressRecord}
    (hin : p.evp.ingress = ws :: later) (hcomplete : recordComplete ws = true) (hwaits : p.recordWaitsNot ws = true)
    (h : p.popIngress.handle ws = (q, some a)) (he : q.evp.egress = p.evp.egress) :
    p.giveGeneral = q.place a := by
  have hplace := Part.placeAt_append (p := q) (rest := p.evp.egress) (ns := []) (by simpa using he) a
  have hhand : p.inHandRecord = some ws := by simp [Part.inHandRecord, hin, hcomplete]
  rw [Part.giveGeneral, hhand]
  simp only [hwaits, if_true, h, hplace, Part.place, he]
  rfl

theorem Part.giveGeneral_passed {ws : List Word32} {later : List (List Word32)}
    (hin : p.evp.ingress = ws :: later) (hcomplete : recordComplete ws = true) (hwaits : p.recordWaitsNot ws = true)
    (h : p.popIngress.handle ws = (q, none)) : p.giveGeneral = q.fillPlace p.evp.egress.length := by
  have hhand : p.inHandRecord = some ws := by simp [Part.inHandRecord, hin, hcomplete]
  rw [Part.giveGeneral, hhand]
  simp only [hwaits, if_true, h]

/-- Nothing is in hand, or what is in hand waits for room in the Revoke List (R172). -/
theorem Part.giveGeneral_nothing
    (h : p.evp.ingress = [] ∨ ∃ ws later, p.evp.ingress = ws :: later
      ∧ (recordComplete ws = false ∨ (recordKind ws = some .release ∧ p.releaseRoom ws = false))) :
    p.giveGeneral = p.fillPlace p.evp.egress.length := by
  rcases h with hin | ⟨ws, later, hin, hpart | ⟨hkind, hroom⟩⟩
  · have hhand : p.inHandRecord = none := by simp [Part.inHandRecord, hin]
    rw [Part.giveGeneral, hhand]
  · have hhand : p.inHandRecord = none := by simp [Part.inHandRecord, hin, hpart]
    rw [Part.giveGeneral, hhand]
  · have hwaits : p.recordWaitsNot ws = false := by simp [Part.recordWaitsNot, hkind, hroom]
    unfold Part.giveGeneral
    split
    · rename_i v hv
      have hsame : v = ws := by
        simp only [Part.inHandRecord, hin] at hv
        split at hv <;> simp_all
      simp [hsame, hwaits]
    · rfl

theorem Part.handle_of_kind {ws : List Word32} {k : IngressKind} (h : recordKind ws = some k) :
    p.handle ws = k.take p ws := by
  rw [Part.handle, h]
  cases k <;> rfl

theorem Part.handle_unknown {ws : List Word32} (h : recordKind ws = none) :
    p.handle ws = (p, some (.refused (recordKindByte ws) 0 .malformed)) := by
  simp [Part.handle, refusal, refusedSlot, h]

theorem Part.popIngress_eq {ws : List Word32} {later : List (List Word32)} (h : p.evp.ingress = ws :: later) :
    p.popIngress = { p with evp := { p.evp with ingress := later } } := by simp [Part.popIngress, h]

end Sys2Proof.Machine

namespace Sys2Proof.Machine

variable {p q : Part}

/-! #### A place by which the FIFO comes down to 55 records (R178, R179; log 19) -/

/-- What a command for the record in hand, and the freed place given to it, come to: the answer takes the place, or the record is
taken with notices alone and passes the place on. -/
theorem exec_freedPlace_cases {s : State} {rest : List EgressRecord} {ws : List Word32} {later : List (List Word32)}
    {k : IngressKind} (hr : s.evp.resetHeld = false) (hlen : rest.length = 55) (hin : s.evp.ingress = ws :: later)
    (hcomplete : recordComplete ws = true) (hkind : recordKind ws = some k)
    (hroom : k = .release → s.releaseRoom ws = true) :
    ∃ t : State, exec k.command { s with evp := { s.evp with egress := rest } } = .next t
      ∧ ((∃ a, a.isAnswer = true ∧ t.evp.egress = rest ++ [a] ∧ s.withPart (s.withEgress rest).giveGeneral = t)
        ∨ ∃ ns, (∀ x ∈ ns, x.isAnswer = false) ∧ t.evp.egress = rest ++ ns
          ∧ s.withPart (s.withEgress rest).giveGeneral = t.withPart (t.fillPlace rest.length)) := by
  have hhas : State.hasRecord { s with evp := { s.evp with egress := rest } } (some k) ws later :=
    ⟨hr, hin, hcomplete, hkind, by simp [hlen]⟩
  have hwaits : (s.withEgress rest).recordWaitsNot ws = true := by
    by_cases hk : k = .release
    · have hroom' : (s.withEgress rest).releaseRoom ws = true := hroom hk
      simp [Part.recordWaitsNot, hroom']
    · simp [Part.recordWaitsNot, hkind, hk]
  have hhandle : (s.withEgress rest).popIngress.handle ws = k.take (s.withEgress rest).popIngress ws :=
    Part.handle_of_kind hkind
  have hpop := Part.popIngress_eq (p := s.withEgress rest) hin
  have hcommand := exec_command (x := k.take (s.withEgress rest).popIngress ws) hhas (by rw [hpop]; rfl) hroom
  rcases Part.TakenAs.take (s.withEgress rest).popIngress ws k with ⟨a, ha, hanswer⟩ | ⟨hnone, ns, hns, hall⟩
  · rw [ha] at hhandle hcommand
    exact ⟨_, hcommand, .inl ⟨a, hanswer, rfl,
      congrArg s.withPart (Part.giveGeneral_answered hin hcomplete hwaits hhandle rfl)⟩⟩
  · obtain ⟨t, ht⟩ : ∃ t, k.take (s.withEgress rest).popIngress ws = (t, none) := ⟨_, Prod.ext rfl hnone⟩
    rw [ht] at hhandle hcommand hns
    exact ⟨_, hcommand, .inr ⟨ns, hall, hns,
      congrArg s.withPart (Part.giveGeneral_passed hin hcomplete hwaits hhandle)⟩⟩

/-! #### What the producers and the notices do to the FIFO (R76, R163, R180) -/

/-- A REVOKED record is placed (R76). -/
theorem exec_revokedRecord_some {s : State} (hr : s.evp.resetHeld = false) (hopen : s.evp.egress.length < 56)
    (h : s.rpu.revoke ≠ []) :
    exec .revokedRecord s = .next { s with
      evp := { s.evp with egress := s.evp.egress ++ [.revoked (s.rpu.revoke.take 32)] }
      rpu := { s.rpu with revoke := s.rpu.revoke.drop 32 } } := by
  refine exec_of_act hr (?_ : s.toPart.placeRevoked = _)
  rw [Part.placeRevoked, Part.takeRevoked_some h, if_pos (by simpa [Part.generalOpen] using hopen)]
  rfl

theorem Part.placeRevoked_none (h : 56 ≤ p.evp.egress.length ∨ p.rpu.revoke = []) : p.placeRevoked = p := by
  rcases h with h | h
  · simp [Part.placeRevoked, Part.generalOpen, h]
  · rw [Part.placeRevoked, Part.takeRevoked_none h]
    exact ite_self _

theorem exec_revokedRecord_none {s : State} (hr : s.evp.resetHeld = false)
    (h : 56 ≤ s.evp.egress.length ∨ s.rpu.revoke = []) : exec .revokedRecord s = .next s :=
  exec_of_act hr (Part.placeRevoked_none h)

/-- A BATCH record is placed while no slot is to be revoked (R163, R179). -/
theorem exec_batchRecord_some {s : State} (hr : s.evp.resetHeld = false) (hopen : s.evp.egress.length < 56)
    (hrev : s.rpu.revoke = []) {i : Fin 8} {order : List (Fin 8)} {g : Group} {recs : List BufferRec}
    {final emitted void : Bool} {c : Profile} (h : s.Oldest i order g recs final emitted void c) :
    exec .batchRecord s = .next { s with
      evp := { s.evp with egress := s.evp.egress ++ [.batch i g c.grace final (recs.map fun x => x.record)] }
      tku := { buffers := s.tku.buffers.set i (.posted g recs final true void), postOrder := order } } := by
  refine exec_of_act hr (?_ : s.toPart.placeBatch = _)
  rw [Part.placeBatch, Part.takeBatch_some h, if_pos (by simp [Part.generalOpen, hopen, hrev])]
  rfl

theorem Part.placeBatch_none (h : 56 ≤ p.evp.egress.length ∨ p.rpu.revoke ≠ [] ∨ p.tku.postOrder = []) :
    p.placeBatch = p := by
  rcases h with h | h | h
  · simp [Part.placeBatch, Part.generalOpen, h]
  · simp [Part.placeBatch, h]
  · rw [Part.placeBatch, Part.takeBatch_none h]
    exact ite_self _

theorem exec_batchRecord_none {s : State} (hr : s.evp.resetHeld = false)
    (h : 56 ≤ s.evp.egress.length ∨ s.rpu.revoke ≠ [] ∨ s.tku.postOrder = []) : exec .batchRecord s = .next s :=
  exec_of_act hr (Part.placeBatch_none h)

/-- A notice of a group with a mark coalesces (R180). -/
theorem Part.roleNotice_marked {g : Group} {m : RoleMark} (h : p.evp.roleMarks.get g = some m) (old new : Role)
    (cause : RoleCause) :
    p.roleNotice g old new cause = { p with evp := { p.evp with roleMarks := p.evp.roleMarks.set g (some
      { cause := cause, leftActive := m.leftActive || decide (old = .active),
        skipped := m.skipped || (m.leftActive && decide (new = .active)) }) } } := by
  rw [Part.roleNotice, h]

theorem Part.roleNotice_open {g : Group} (h : p.evp.roleMarks.get g = none) (hopen : p.evp.egress.length < 64)
    (old new : Role) (cause : RoleCause) :
    p.roleNotice g old new cause = p.withEgress (p.evp.egress ++ [.role g new cause false]) := by
  rw [Part.roleNotice, h]
  exact if_pos (decide_eq_true hopen)

theorem Part.roleNotice_full {g : Group} (h : p.evp.roleMarks.get g = none) (hfull : 64 ≤ p.evp.egress.length)
    (old new : Role) (cause : RoleCause) :
    p.roleNotice g old new cause = { p with evp := { p.evp with roleMarks := p.evp.roleMarks.set g (some
      { cause := cause, leftActive := decide (old = .active), skipped := false }) } } := by
  rw [Part.roleNotice, h]
  exact if_neg (by simpa [Part.noticeOpen] using hfull)

/-- What a ROLE notice does to the Event Port depends on the Event Port alone. -/
theorem Part.roleNotice_evp_congr (h : q.evp = p.evp) (g : Group) (old new : Role) (cause : RoleCause) :
    (q.roleNotice g old new cause).evp = (p.roleNotice g old new cause).evp := by
  unfold Part.roleNotice Part.noticeOpen
  rw [h]
  split
  · rfl
  · split
    · exact congrArg (fun e : Evp => { e with egress := e.egress ++ [EgressRecord.role g new cause false] }) h
    · rfl

/-- A change of role touches the Event Port by its notice alone (R142). -/
theorem Part.setRole_evp (p : Part) (g : Group) (new : Role) (cause : RoleCause) :
    (p.setRole g new cause).evp = (p.roleNotice g (p.role g) new cause).evp :=
  Part.roleNotice_evp_congr (p := p) (q := (p.setGroup g ((p.group g).enter new)).withdrawRoleFrames g) rfl _ _ _ _

theorem Part.peerNotice_waits {y : Station} (h : p.evp.peerMarks.get y = true ∨ 64 ≤ p.evp.egress.length) :
    p.peerNotice y = { p with evp := { p.evp with peerMarks := p.evp.peerMarks.set y true } } := by
  rw [Part.peerNotice, if_pos]
  simpa [Part.noticeOpen] using h

theorem Part.peerNotice_placed {y : Station} (h : p.evp.peerMarks.get y = false) (hopen : p.evp.egress.length < 64) :
    p.peerNotice y = p.withEgress (p.evp.egress ++ [.peer y (p.peer y).state (p.peer y).incarnation]) := by
  rw [Part.peerNotice, if_neg (by simp [Part.noticeOpen, h, hopen])]
  rfl

theorem Part.laneNotice_waits {l : Lane} (h : p.evp.laneMarks.get l = true ∨ 64 ≤ p.evp.egress.length) :
    p.laneNotice l = { p with evp := { p.evp with laneMarks := p.evp.laneMarks.set l true } } := by
  rw [Part.laneNotice, if_pos]
  simpa [Part.noticeOpen] using h

theorem Part.laneNotice_placed {l : Lane} (h : p.evp.laneMarks.get l = false) (hopen : p.evp.egress.length < 64) :
    p.laneNotice l = p.withEgress (p.evp.egress ++ [.lane l (p.lane l).state]) := by
  rw [Part.laneNotice, if_neg (by simp [Part.noticeOpen, h, hopen])]
  rfl

/-- Settles O16: the first mark (`Part.emitMark_role` and the like), the record in hand (`exec_freedPlace_cases`), REVOKED and
BATCH (`Part.fillPlace_revoked`, `Part.fillPlace_batch`), and the notices that wait or are placed. -/
theorem egressPlacesAreGivenInOrder : Obligations.EgressPlacesAreGivenInOrder := by
  refine ⟨fun s r rest hr he => ⟨fun g m hm hfirst => ?roleMark, fun hroles => ⟨fun y hy hfirst => ?peerMark,
      fun hpeers l hl hfirst => ?laneMark⟩⟩,
    fun s r rest hr he hroles hpeers hlanes => ?unmarked,
    fun s hr => ⟨fun hopen => ⟨exec_revokedRecord_some hr hopen, fun h => exec_revokedRecord_none hr (.inr h),
        fun i order g recs final emitted void c hrev ho hb hp => exec_batchRecord_some hr hopen hrev ⟨ho, hb, hp⟩,
        fun h => exec_batchRecord_none hr (.inr h)⟩,
      fun hfull => ⟨exec_revokedRecord_none hr (.inl hfull), exec_batchRecord_none hr (.inl hfull)⟩⟩,
    fun p g old new cause => ⟨fun m hm => Part.roleNotice_marked hm old new cause,
      fun hm => ⟨fun hopen => Part.roleNotice_open hm hopen old new cause,
        fun hfull => Part.roleNotice_full hm hfull old new cause⟩, p.setRole_evp g new cause⟩,
    fun p y l => ⟨Part.peerNotice_waits, Part.peerNotice_placed, Part.laneNotice_waits, Part.laneNotice_placed⟩⟩
  case roleMark => exact exec_egressRecordTaken_marked hr he (Part.emitMark_role (p := s.withEgress rest) hm hfirst)
  case peerMark => exact exec_egressRecordTaken_marked hr he (Part.emitMark_peer (p := s.withEgress rest) hroles hy hfirst)
  case laneMark =>
    exact exec_egressRecordTaken_marked hr he (Part.emitMark_lane (p := s.withEgress rest) hroles hpeers hl hfirst)
  case unmarked =>
    have hexec := exec_egressRecordTaken_unmarked hr he
      (Part.emitMark_none (p := s.withEgress rest) hroles hpeers hlanes)
    refine ⟨fun hlen => by rw [hexec, if_neg hlen]; rfl, fun hlen => ?_⟩
    rw [if_pos hlen] at hexec
    have hbare : (s.withEgress rest).evp.egress = rest ++ [] := (List.append_nil rest).symm
    have hopen : (s.withEgress rest).evp.egress.length < 64 := by simp [Part.withEgress, hlen]
    refine ⟨fun ws later hin hcomplete hkind => ?unknown, fun ws later k hin hcomplete hkind hroom => ?known,
      fun hnothing => ?nothing⟩
    case unknown =>
      have hwaits : (s.withEgress rest).recordWaitsNot ws = true := by simp [Part.recordWaitsNot, hkind]
      have hgive := Part.giveGeneral_answered (p := s.withEgress rest) hin hcomplete hwaits (Part.handle_unknown hkind) rfl
      rw [hexec, hgive, Part.popIngress_eq (p := s.withEgress rest) hin]
      rfl
    case known =>
      obtain ⟨t, ht, hplace⟩ := exec_freedPlace_cases hr hlen hin hcomplete hkind hroom
      refine ⟨t, ht, fun a ha he => ?answered, fun ns hns he hlt => ?passed⟩
      case answered =>
        rcases hplace with ⟨-, -, -, hgive⟩ | ⟨ns, hns, hns', -⟩
        · rw [hexec, hgive]
        · have hsame : ns = [a] := List.append_cancel_left (hns'.symm.trans he)
          exact absurd (hns a (by simp [hsame])) (by simp [ha])
      case passed =>
        rcases hplace with ⟨a, ha, ha', -⟩ | ⟨-, -, -, hgive⟩
        · have hsame : ns = [a] := List.append_cancel_left (he.symm.trans ha')
          exact absurd (hns a (by simp [hsame])) (by simp [ha])
        · have hplaces : t.evp.egress.length < 64 := by rw [he, List.length_append]; omega
          rw [hexec, hgive]
          refine ⟨fun hrev => ?_, fun i order g recs final emitted void c hrev ho hb hp => ?_, fun hrev ho => ?_⟩
          · rw [Part.fillPlace_revoked he hplaces hrev]; rfl
          · rw [Part.fillPlace_batch he hplaces hrev ⟨ho, hb, hp⟩]; rfl
          · rw [Part.fillPlace_none _ hrev ho]; rfl
    case nothing =>
      have hgive : (s.withEgress rest).giveGeneral = (s.withEgress rest).fillPlace rest.length :=
        Part.giveGeneral_nothing hnothing
      rw [hexec, hgive]
      refine ⟨fun hrev => ?_, fun i order g recs final emitted void c hrev ho hb hp => ?_, fun hrev ho => ?_⟩
      · rw [Part.fillPlace_revoked hbare hopen hrev]; rfl
      · rw [Part.fillPlace_batch hbare hopen hrev ⟨ho, hb, hp⟩]; rfl
      · rw [Part.fillPlace_none (p := s.withEgress rest) _ hrev ho]; rfl

end Sys2Proof.Machine

/-! ### What lasts until the next reset -/

namespace Sys2Proof.Machine

variable (p : Part)

/-! #### What each operation leaves of the duplicate-station latch (R114) -/

@[simp] theorem Part.setGroup_latch (g : Group) (r : GroupRec) : (p.setGroup g r).rcu.latch = p.rcu.latch := rfl
@[simp] theorem Part.setFence_latch (f : FenceCauses) : (p.setFence f).rcu.latch = p.rcu.latch := rfl
@[simp] theorem Part.markRebirth_latch : p.markRebirth.rcu.latch = p.rcu.latch := rfl

theorem Part.GroupsAlone.latch {p q : Part} (h : p.GroupsAlone q) : q.rcu.latch = p.rcu.latch := by rw [h]

@[simp] theorem Part.evalStandby_latch (g : Group) : (p.evalStandby g).rcu.latch = p.rcu.latch :=
  (Part.GroupsAlone.evalStandby p g).latch
@[simp] theorem Part.makeClaim_latch (g : Group) (k : ClaimKind) : (p.makeClaim g k).rcu.latch = p.rcu.latch :=
  (Part.GroupsAlone.makeClaim p g k).latch
@[simp] theorem Part.evaluateAll_latch : p.evaluateAll.rcu.latch = p.rcu.latch := (Part.GroupsAlone.evaluateAll p).latch
@[simp] theorem Part.unfence_latch : p.unfence.rcu.latch = p.rcu.latch := (Part.GroupsAlone.unfence p).latch
@[simp] theorem Part.enterStandby_latch (g : Group) (c : RoleCause) : (p.enterStandby g c).rcu.latch = p.rcu.latch := by
  simp [Part.enterStandby]
@[simp] theorem Part.startListen_latch (g : Group) (c : RoleCause) : (p.startListen g c).rcu.latch = p.rcu.latch := by
  simp [Part.startListen]
@[simp] theorem Part.failClaim_latch (g : Group) (b : Bool) : (p.failClaim g b).rcu.latch = p.rcu.latch := by
  cases b <;> simp [Part.failClaim]
@[simp] theorem Part.exitActive_latch (g : Group) (r : Role) (c : RoleCause) :
    (p.exitActive g r c).rcu.latch = p.rcu.latch := by simp [Part.exitActive]
@[simp] theorem Part.clearFence_latch (f : FenceCauses) : (p.clearFence f).rcu.latch = p.rcu.latch := by
  unfold Part.clearFence; split <;> simp
@[simp] theorem Part.testQuorum_latch : p.testQuorum.rcu.latch = p.rcu.latch := by
  unfold Part.testQuorum; split <;> simp
@[simp] theorem Part.enterActive_latch (g : Group) (c : RoleCause) : (p.enterActive g c).rcu.latch = p.rcu.latch := by
  simp [Part.enterActive]
@[simp] theorem Part.resolveDeadline_latch (g : Group) (c : ClaimRecord) :
    (p.resolveDeadline g c).rcu.latch = p.rcu.latch := by unfold Part.resolveDeadline; (repeat' split) <;> simp
@[simp] theorem Part.completeYield_latch (g : Group) (b : Bool) : (p.completeYield g b).rcu.latch = p.rcu.latch := by
  unfold Part.completeYield; dsimp only; split <;> simp
@[simp] theorem Part.flushTest_latch (g : Group) : (p.flushTest g).rcu.latch = p.rcu.latch := by
  unfold Part.flushTest; split <;> simp
@[simp] theorem Part.flushTests_latch : p.flushTests.rcu.latch = p.rcu.latch := by simp [Part.flushTests]
@[simp] theorem Part.enterYielding_latch (g : Group) (c : RoleCause) (f : PendingFrame) :
    (p.enterYielding g c f).rcu.latch = p.rcu.latch := by simp [Part.enterYielding]
@[simp] theorem Part.contest_latch (c : ClaimFrame) : (p.contest c).rcu.latch = p.rcu.latch := rfl
@[simp] theorem Part.claimByRole_latch (c : ClaimFrame) : (p.claimByRole c).rcu.latch = p.rcu.latch := by
  unfold Part.claimByRole Part.claimMeetsActive; (repeat' split) <;> simp
@[simp] theorem Part.takeClaim_latch (c : ClaimFrame) : (p.takeClaim c).rcu.latch = p.rcu.latch := by
  simp [Part.takeClaim]
@[simp] theorem Part.takeAnswer_latch (x : Station) (a : AnswerFrame) : (p.takeAnswer x a).rcu.latch = p.rcu.latch := by
  unfold Part.takeAnswer; (repeat' split) <;> simp
@[simp] theorem Part.takeYield_latch (g : Group) : (p.takeYield g).rcu.latch = p.rcu.latch := by
  unfold Part.takeYield; (repeat' split) <;> simp
@[simp] theorem Part.pulseStanding_latch (g : Group) (r : Option Role) :
    (p.pulseStanding g r).rcu.latch = p.rcu.latch := rfl
@[simp] theorem Part.pulseMeetsGroup_latch (g : Group) (r : Role) (n : Nat) :
    (p.pulseMeetsGroup g r n).rcu.latch = p.rcu.latch := by unfold Part.pulseMeetsGroup; (repeat' split) <;> simp
@[simp] theorem Part.pulseOfOther_latch (rs : PerGroup (Option Role)) (ms : PerGroup (Option (BitVec 8))) :
    (p.pulseOfOther rs ms).rcu.latch = p.rcu.latch := by
  unfold Part.pulseOfOther; dsimp only; rw [Part.evaluateAll_latch]; (repeat' split) <;> simp
@[simp] theorem Part.failVacantClaim_latch (g : Group) : (p.failVacantClaim g).rcu.latch = p.rcu.latch := by
  unfold Part.failVacantClaim; (repeat' split) <;> simp
@[simp] theorem Part.lossMeetsGroup_latch (g : Group) : (p.lossMeetsGroup g).rcu.latch = p.rcu.latch := by
  unfold Part.lossMeetsGroup; (repeat' split) <;> simp
@[simp] theorem Part.otherLost_latch : p.otherLost.rcu.latch = p.rcu.latch := by
  unfold Part.otherLost; dsimp only; rw [Part.evaluateAll_latch]; split <;> simp
@[simp] theorem Part.clearNoQuorum_latch : p.clearNoQuorum.rcu.latch = p.rcu.latch := by simp [Part.clearNoQuorum]
@[simp] theorem Part.setLatch_latch : p.setLatch.rcu.latch = true := by
  unfold Part.setLatch; dsimp only; split <;> simp
@[simp] theorem Part.claimSucceeded_latch (f : ClaimFrame) : (p.claimSucceeded f).rcu.latch = p.rcu.latch := by
  unfold Part.claimSucceeded; dsimp only; (repeat' split) <;> simp
@[simp] theorem Part.pulseCompleted_latch (m : PerGroup (BitVec 8)) : (p.pulseCompleted m).rcu.latch = p.rcu.latch := by
  unfold Part.pulseCompleted; split <;> rfl
@[simp] theorem Part.outcome_latch (f : TxFrame) (a b : Bool) : (p.outcome f a b).rcu.latch = p.rcu.latch := by
  unfold Part.outcome; (repeat' split) <;> simp
@[simp] theorem Part.endCopy_latch (h : InHand) (b : Bool) : (p.endCopy h b).rcu.latch = p.rcu.latch := by
  unfold Part.endCopy; dsimp only; split <;> simp
@[simp] theorem Part.abandonLost_latch : p.abandonLost.rcu.latch = p.rcu.latch := by
  unfold Part.abandonLost; (repeat' split) <;> simp
@[simp] theorem Part.laneTo_latch (l : Lane) (x : LaneState) : (p.laneTo l x).rcu.latch = p.rcu.latch := by
  simp [Part.laneTo]
@[simp] theorem Part.lateEvidence_latch (l : Lane) : (p.lateEvidence l).rcu.latch = p.rcu.latch := by
  unfold Part.lateEvidence; split <;> simp
@[simp] theorem Part.laneHears_latch (l : Lane) : (p.laneHears l).rcu.latch = p.rcu.latch := by
  unfold Part.laneHears; dsimp only; rw [Part.lateEvidence_latch]; split <;> simp
@[simp] theorem Part.judgeHealth_latch : p.judgeHealth.rcu.latch = p.rcu.latch := by
  unfold Part.judgeHealth; split <;> simp
@[simp] theorem Part.rolesHearOther_profile (b : Bool) : (p.rolesHearOther b).profile = p.profile := by
  cases b <;> simp [Part.rolesHearOther]
@[simp] theorem Part.rolesHearWitness_profile (b : Bool) : (p.rolesHearWitness b).profile = p.profile := by
  cases b <;> simp [Part.rolesHearWitness]
@[simp] theorem Part.pulseOfOther_profile (rs : PerGroup (Option Role)) (ms : PerGroup (Option (BitVec 8))) :
    (p.pulseOfOther rs ms).profile = p.profile := by
  unfold Part.pulseOfOther; dsimp only; rw [Part.evaluateAll_profile]; (repeat' split) <;> simp
@[simp] theorem Part.judgeHealth_profile : p.judgeHealth.profile = p.profile := by
  unfold Part.judgeHealth; split <;> simp
@[simp] theorem Part.rolesHearOther_latch (b : Bool) : (p.rolesHearOther b).rcu.latch = p.rcu.latch := by
  cases b <;> simp [Part.rolesHearOther]
@[simp] theorem Part.rolesHearWitness_latch (b : Bool) : (p.rolesHearWitness b).rcu.latch = p.rcu.latch := by
  cases b <;> simp [Part.rolesHearWitness]

/-! #### Acts that keep the configuration and the latch (R114, R174) -/

/-- `q` comes of `p` by acts that keep a configuration once it is taken and a latch once it is set. -/
structure Part.Lasts (p q : Part) : Prop where
  profile : ∀ c, p.profile = some c → q.profile = some c
  latch : p.rcu.latch = true → q.rcu.latch = true

namespace Part.Lasts

variable {p}

@[refl] theorem refl (p : Part) : p.Lasts p := ⟨fun _ => id, id⟩

theorem trans {q r : Part} (h : p.Lasts q) (h' : q.Lasts r) : p.Lasts r :=
  ⟨fun c => h'.profile c ∘ h.profile c, h'.latch ∘ h.latch⟩

theorem of_eq {q : Part} (hp : q.profile = p.profile) (hl : q.rcu.latch = p.rcu.latch) : p.Lasts q :=
  ⟨fun _ => hp.trans, hl.trans⟩

/-- Acts that touch neither the configuration nor the Role Controller. -/
theorem of_rcu {q : Part} (hp : q.profile = p.profile) (hr : q.rcu = p.rcu) : p.Lasts q := of_eq hp (by rw [hr])

/-- Acts that come before, and touch neither. -/
theorem from_rcu {q r : Part} (h : q.Lasts r) (hp : q.profile = p.profile) (hr : q.rcu = p.rcu) : p.Lasts r :=
  (of_rcu hp hr).trans h

theorem evaluateAll {q : Part} (h : p.Lasts q) : p.Lasts q.evaluateAll := h.trans (of_eq (by simp) (by simp))

theorem foldl {α : Type} {f : Part → α → Part} (hf : ∀ (q : Part) a, q.Lasts (f q a)) (xs : List α) (p : Part) :
    p.Lasts (xs.foldl f p) := by
  induction xs generalizing p with
  | nil => exact refl p
  | cons x xs ih => exact (hf p x).trans (ih _)

theorem onlyIf (c : Bool) {f : Part → Part} (hf : p.Lasts (f p)) : p.Lasts (p.onlyIf c f) := by
  unfold Part.onlyIf
  split
  · exact hf
  · rfl

end Part.Lasts

/-! #### Frames -/

theorem Part.lasts_flushTests : p.Lasts p.flushTests := .of_eq (by simp) (by simp)

theorem Part.lasts_takePairs (pairs : List (Slot × Version)) : p.Lasts (p.takePairs pairs) :=
  .foldl (fun q x => (Part.Lasts.of_rcu (by simp) (by simp) : q.Lasts (q.takePair x)).trans (Part.lasts_flushTests _)) _ _

theorem Part.lasts_takeWire {w : WireRecord} {q : Part} (h : p.takeWire w = some q) : p.Lasts q := by
  unfold Part.takeWire Part.meetCollision at h
  (repeat' split at h) <;> cases h <;> exact .of_rcu (by simp) (by simp)

theorem Part.lasts_takeDelta (ws : List WireRecord) : p.Lasts (p.takeDelta ws) := by
  induction ws generalizing p with
  | nil => rfl
  | cons w ws ih =>
    unfold Part.takeDelta
    split
    · rename_i h
      exact ((p.lasts_takeWire h).trans (Part.lasts_flushTests _)).trans (ih _)
    · rfl

theorem Part.lasts_takeDrop (ps : List (Slot × Version)) : p.Lasts (p.takeDrop ps) := by
  induction ps generalizing p with
  | nil => rfl
  | cons x ps ih =>
    unfold Part.takeDrop
    split
    · exact (ih _).from_rcu (by simp) (by simp)
    · rfl

theorem Part.lasts_replicationHears (wasLive reborn first : Bool) :
    p.Lasts (p.replicationHears wasLive reborn first) := by
  unfold Part.replicationHears
  (repeat' split) <;> exact .of_rcu (by simp) (by simp)

/-- The notice of a change of station `y`'s record, with the copy expectation and the working lane (R94, R95, R115). -/
def Part.recordNoticed (y : Station) (wasLive reborn : Bool) : Part :=
  let q := p.peerNotice y
  let q := if reborn then q.setExpect y none else q
  if wasLive then q else q.chooseLane

/-- What the blocks do as station `y` becomes LIVE or is reborn (R112, R150). -/
def Part.blocksHear (y : Station) (wasLive reborn first : Bool) : Part :=
  if p.isMember then
    if y = p.otherMember then
      ((if reborn then p.markRebirth else p).replicationHears wasLive reborn first).rolesHearOther wasLive
    else p.rolesHearWitness wasLive
  else if reborn then p.forgetAnswers y else p

theorem Part.recordChanged_eq (y : Station) (wasLive reborn first : Bool) :
    p.recordChanged y wasLive reborn first = (p.recordNoticed y wasLive reborn).blocksHear y wasLive reborn first := rfl

theorem Part.lasts_blocksHear (y : Station) (wasLive reborn first : Bool) :
    p.Lasts (p.blocksHear y wasLive reborn first) := by
  have marked : p.Lasts (if reborn then p.markRebirth else p) := by split <;> exact .of_eq rfl rfl
  unfold Part.blocksHear
  split
  · split
    · exact (marked.trans (Part.lasts_replicationHears _ wasLive reborn first)).trans (.of_eq (by simp) (by simp))
    · exact .of_eq (by simp) (by simp)
  · split
    · exact .of_rcu (by simp) (by simp)
    · rfl

theorem Part.lasts_recordChanged (y : Station) (wasLive reborn first : Bool) :
    p.Lasts (p.recordChanged y wasLive reborn first) := by
  rw [Part.recordChanged_eq]
  refine (Part.lasts_blocksHear _ _ _ _ _).from_rcu ?_ ?_ <;> cases wasLive <;> cases reborn <;> simp [Part.recordNoticed]

theorem Part.lasts_heard (y : Station) (l : Lane) (incarnation : BitVec 16) : p.Lasts (p.heard y l incarnation) := by
  unfold Part.heard
  dsimp only
  split
  · exact .of_rcu rfl rfl
  · exact (Part.lasts_recordChanged _ _ _ _ _).from_rcu rfl rfl

theorem Part.lasts_lose (y : Station) : p.Lasts (p.lose y) := by
  unfold Part.lose
  dsimp only
  refine .from_rcu (q := p.peerNotice y) ?_ (by simp) (by simp)
  (repeat' split) <;> exact .of_eq (by simp) (by simp)

theorem Part.lasts_takePulse (y : Station) (c : PulseContent) : p.Lasts (p.takePulse y c) := by
  unfold Part.takePulse
  dsimp only
  refine .from_rcu (q := p.writePulse y c) ?_ rfl rfl
  split
  · split <;> exact .of_eq (by simp) (by simp)
  · rfl

theorem Part.lasts_handUp (x : Station) (c : Content) : p.Lasts (p.handUp x c) := by
  unfold Part.handUp
  split
  · cases c with
    | pulse pc => exact p.lasts_takePulse x pc
    | claim f =>
      change p.Lasts (p.witnessClaim x f)
      unfold Part.witnessClaim Part.decideClaim Part.queueVerdict
      (repeat' (first | split | dsimp only)) <;> exact .of_rcu (by simp) (by simp)
    | align | delta | drop | receipt | answer | yield => exact .refl p
  · cases c with
    | align => exact .refl p
    | pulse pc => exact p.lasts_takePulse x pc
    | delta ws => exact p.lasts_takeDelta ws
    | drop ps => exact p.lasts_takeDrop ps
    | receipt ps => exact p.lasts_takePairs ps
    | claim f => exact .of_eq (Part.takeClaim_profile p f) (Part.takeClaim_latch p f)
    | answer a => exact .of_eq (Part.takeAnswer_profile p x a) (Part.takeAnswer_latch p x a)
    | yield g => exact .of_eq (Part.takeYield_profile p g) (Part.takeYield_latch p g)

theorem Part.lasts_receive (kind : FrameKind) (l : Lane) (rx : Reception) : p.Lasts (p.receive kind l rx) := by
  have lane : p.Lasts (p.laneHears l) := .of_eq (by simp) (by simp)
  have own (q : Part) : q.Lasts q.setLatch := ⟨fun _ => (Part.setLatch_profile q).trans, fun _ => Part.setLatch_latch q⟩
  have other (q : Part) (f : Frame) : q.Lasts (q.takeFromOther l rx.bytes f) := by
    unfold Part.takeFromOther
    dsimp only
    refine .from_rcu (q := q.setExpect f.sender none) (.trans (Part.lasts_heard _ f.sender l f.incarnation) ?_) rfl rfl
    split
    · rfl
    · split <;> exact (Part.lasts_handUp _ _ _).from_rcu rfl rfl
  unfold Part.receive
  split
  · split
    · split
      · unfold Part.takeValid
        dsimp only
        split
        · exact lane.trans (own _)
        · exact lane.trans (other _ _)
      · rfl
    · rfl
    · rfl
  · rfl

/-! #### The bus -/

theorem Part.lasts_endCopy (h : InHand) (completed : Bool) : p.Lasts (p.endCopy h completed) :=
  .of_eq (by simp) (by simp)

theorem Part.lasts_laneTo (l : Lane) (new : LaneState) : p.Lasts (p.laneTo l new) := .of_eq (by simp) (by simp)

theorem Part.lasts_buildSession {x : TxFrame × List Byte × Part} (h : p.buildSession = some x) : p.Lasts x.2.2 := by
  have framed (slots : List Slot) : p.Lasts (slots.foldl Part.frameSlot p) :=
    .foldl (fun _ _ => .of_rcu (by simp) (by simp)) slots p
  unfold Part.buildSession at h
  (repeat' split at h) <;> cases h <;> exact framed _

theorem Part.lasts_takeFrame {q : Part} (h : p.takeFrame = some q) : p.Lasts q := by
  have align (l : Lane) (h : p.takeAlignFrame l = some q) : p.Lasts q := by
    unfold Part.takeAlignFrame at h
    dsimp only at h
    split at h <;> cases h
    exact .of_rcu rfl rfl
  simp only [Part.takeFrame, Option.orElse_eq_orElse, Option.orElse_eq_or, Option.or_eq_some_iff] at h
  rcases h with h | ⟨-, h | ⟨-, h | ⟨-, h | ⟨-, h | ⟨-, h | ⟨-, h | ⟨-, h⟩⟩⟩⟩⟩⟩⟩
  · unfold Part.takeAnswerFrame at h
    (repeat' split at h) <;> cases h
    exact .of_rcu rfl rfl
  · unfold Part.takeClaimFrame at h
    (repeat' split at h) <;> cases h
    exact .of_rcu rfl rfl
  · unfold Part.takeYieldFrame at h
    (repeat' split at h) <;> cases h
    exact .of_rcu rfl rfl
  · unfold Part.takeReceiptFrame at h
    split at h <;> cases h
    rename_i hb
    unfold Part.buildReceipt at hb
    split at hb <;> cases hb
    exact .of_rcu rfl rfl
  · unfold Part.takePulseFrame at h
    split at h <;> cases h
    exact .of_rcu rfl rfl
  · unfold Part.takeSessionFrame at h
    split at h <;> cases h
    rename_i hb
    exact (p.lasts_buildSession hb).trans (.of_rcu rfl rfl)
  · exact align _ h
  · exact align _ h

theorem Part.lasts_transmitterTake : p.Lasts p.transmitterTake := by
  unfold Part.transmitterTake
  split
  · cases h : p.takeFrame with
    | none => rfl
    | some q => exact p.lasts_takeFrame h
  · rfl

theorem Part.lasts_collision : p.Lasts p.collision := by
  unfold Part.collision
  split
  · split
    · unfold Part.collide
      split
      · exact p.lasts_endCopy _ _
      · exact .of_rcu rfl rfl
    · rfl
  · rfl

theorem Part.lasts_frameDone : p.Lasts p.frameDone := by
  unfold Part.frameDone
  split
  · split
    · exact p.lasts_endCopy _ _
    · rfl
  · rfl

/-! #### Records of the ingress stream -/

/-- A PROFILE taken before fixes the configuration: a second one is refused (R174). -/
theorem Part.lasts_takeProfile (ws : List Word32) : p.Lasts (p.takeProfile ws).1 := by
  unfold Part.takeProfile
  split
  · rfl
  split
  · rfl
  rename_i hnone
  have enabled (q : Part) (c : Profile) (l : Lane) : q.Lasts (q.enableLane c l) := by
    unfold Part.enableLane
    split
    · exact q.lasts_laneTo _ _
    · rfl
  have started (q : Part) (c : Profile) : q.Lasts (q.startMember c) :=
    .of_eq (by simp [Part.startMember]) (by simp [Part.startMember])
  have configured (c : Profile) : p.rcu.latch = true → (p.configure c).rcu.latch = true := by
    unfold Part.configure
    dsimp only
    split
    · exact fun h => ((enabled _ _ _).trans (enabled _ _ _)).latch h
    · exact fun h => (((enabled _ _ _).trans (enabled _ _ _)).trans (started _ _)).latch h
  exact ⟨fun c hc => absurd (by rw [hc]; rfl) hnone, configured _⟩

theorem Part.lasts_takeOpen (ws : List Word32) : p.Lasts (p.takeOpen ws).1 := by
  unfold Part.takeOpen
  (repeat' split) <;> exact .of_rcu rfl rfl

theorem Part.lasts_takeUpdate (ws : List Word32) : p.Lasts (p.takeUpdate ws).1 := by
  unfold Part.takeUpdate
  (repeat' split) <;> exact .of_rcu rfl rfl

theorem Part.lasts_takeClose (ws : List Word32) : p.Lasts (p.takeClose ws).1 := by
  unfold Part.takeClose
  (repeat' split) <;> exact .of_eq (by simp) (by simp)

theorem Part.lasts_takeAlive (ws : List Word32) : p.Lasts (p.takeAlive ws).1 := by
  unfold Part.takeAlive
  (repeat' (first | split | dsimp only)) <;> exact .of_eq (by simp) (by simp)

theorem Part.lasts_release (i : Fin 8) : p.Lasts (p.release i) := by
  have record (g : Group) (q : Part) (r : BufferRec) : q.Lasts (q.releaseRecord g r) := by
    unfold Part.releaseRecord Part.markInstalled
    (repeat' split) <;> exact .of_rcu rfl rfl
  have served (q : Part) : q.Lasts (q.setBuffer i .free).serveWaiting := .of_rcu (by simp) (by simp)
  unfold Part.release
  split
  · dsimp only
    split
    · exact served _
    · exact (Part.Lasts.foldl (record _) _ _).trans (served _)
  · rfl

theorem Part.lasts_takeRelease (ws : List Word32) : p.Lasts (p.takeRelease ws).1 := by
  unfold Part.takeRelease
  split
  · rfl
  split
  · rfl
  split
  · rfl
  split
  · split
    · exact p.lasts_release _
    · rfl
  · rfl

theorem Part.lasts_takeHandover (ws : List Word32) : p.Lasts (p.takeHandover ws).1 := by
  unfold Part.takeHandover
  (repeat' split) <;> exact .of_eq (by simp) (by simp)

theorem Part.lasts_takeStatus (ws : List Word32) : p.Lasts (p.takeStatus ws).1 := by
  unfold Part.takeStatus
  split <;> rfl

theorem Part.lasts_handle (ws : List Word32) : p.Lasts (p.handle ws).1 := by
  unfold Part.handle
  split
  · exact p.lasts_takeProfile ws
  · exact p.lasts_takeOpen ws
  · exact p.lasts_takeUpdate ws
  · exact p.lasts_takeClose ws
  · exact p.lasts_takeAlive ws
  · exact p.lasts_takeRelease ws
  · exact p.lasts_takeHandover ws
  · exact p.lasts_takeStatus ws
  · rfl

theorem Part.lasts_takeRecord {f : Part → List Word32 → Part × Option EgressRecord}
    (hf : ∀ (q : Part) ws, q.Lasts (f q ws).1) (kind : Option IngressKind) : p.Lasts (p.takeRecord kind f) := by
  have answered (x : Part × Option EgressRecord) : x.1.Lasts (Part.answerWith x) := by
    unfold Part.answerWith
    split <;> exact .of_rcu rfl rfl
  unfold Part.takeRecord
  split
  · split
    · exact ((hf p.popIngress _).trans (answered _)).from_rcu rfl rfl
    · rfl
  · rfl

/-! #### The egress FIFO -/

theorem Part.lasts_takeRevoked {x : EgressRecord × Part} (h : p.takeRevoked = some x) : p.Lasts x.2 := by
  unfold Part.takeRevoked at h
  split at h <;> cases h
  exact .of_rcu rfl rfl

theorem Part.lasts_takeBatch {x : EgressRecord × Part} (h : p.takeBatch = some x) : p.Lasts x.2 := by
  unfold Part.takeBatch at h
  (repeat' split at h) <;> cases h
  exact .of_rcu rfl rfl

theorem Part.lasts_fillPlace (n : Nat) : p.Lasts (p.fillPlace n) := by
  unfold Part.fillPlace
  split
  · split
    · rename_i r q h
      have placed : q.Lasts (q.placeAt n r) := .of_rcu rfl rfl
      simp only [Part.takeRevokedOrBatch, Option.orElse_eq_orElse, Option.orElse_eq_or, Option.or_eq_some_iff] at h
      rcases h with h | ⟨-, h⟩
      · exact (p.lasts_takeRevoked h).trans placed
      · exact (p.lasts_takeBatch h).trans placed
    · rfl
  · rfl

theorem Part.lasts_giveGeneral : p.Lasts p.giveGeneral := by
  unfold Part.giveGeneral
  dsimp only
  split
  · rename_i ws _
    split
    · have handled : p.Lasts (p.popIngress.handle ws).1 := (Part.lasts_handle _ ws).from_rcu rfl rfl
      split
      · exact handled.trans (.of_rcu rfl rfl)
      · exact handled.trans (Part.lasts_fillPlace _ _)
    · exact p.lasts_fillPlace _
  · exact p.lasts_fillPlace _

theorem Part.lasts_emitMark {q : Part} (h : p.emitMark = some q) : p.Lasts q := by
  have role (g : Group) (h : p.emitRoleMark g = some q) : p.Lasts q := by
    obtain ⟨m, -, rfl⟩ := Option.map_eq_some_iff.1 h
    exact .of_rcu rfl rfl
  have peer (y : Station) (h : p.emitPeerMark y = some q) : p.Lasts q := by
    unfold Part.emitPeerMark at h
    split at h <;> cases h
    exact .of_rcu rfl rfl
  have lane (l : Lane) (h : p.emitLaneMark l = some q) : p.Lasts q := by
    unfold Part.emitLaneMark at h
    split at h <;> cases h
    exact .of_rcu rfl rfl
  simp only [Part.emitMark, Option.orElse_eq_orElse, Option.orElse_eq_or, Option.or_eq_some_iff] at h
  rcases h with h | ⟨-, h | ⟨-, h | ⟨-, h | ⟨-, h | ⟨-, h | ⟨-, h⟩⟩⟩⟩⟩⟩
  · exact role _ h
  · exact role _ h
  · exact peer _ h
  · exact peer _ h
  · exact peer _ h
  · exact lane _ h
  · exact lane _ h

theorem Part.lasts_egressTaken : p.Lasts p.egressTaken := by
  unfold Part.egressTaken
  split
  · rfl
  · rename_i rest _
    dsimp only
    refine .from_rcu (q := { p with evp := { p.evp with egress := rest } }) ?_ rfl rfl
    cases h : Part.emitMark { p with evp := { p.evp with egress := rest } } with
    | some q => exact Part.lasts_emitMark _ h
    | none =>
      rw [Option.getD_none]
      unfold Part.giveFreed
      split
      · exact Part.lasts_giveGeneral _
      · rfl

theorem Part.lasts_placeRevoked : p.Lasts p.placeRevoked := by
  unfold Part.placeRevoked
  split
  · split
    · rename_i h
      exact (p.lasts_takeRevoked h).trans (.of_rcu rfl rfl)
    · rfl
  · rfl

theorem Part.lasts_placeBatch : p.Lasts p.placeBatch := by
  unfold Part.placeBatch
  split
  · split
    · rename_i h
      exact (p.lasts_takeBatch h).trans (.of_rcu rfl rfl)
    · rfl
  · rfl

/-! #### Timers and walks -/

theorem Part.lasts_epochNow : p.Lasts p.epochNow := by
  unfold Part.epochNow
  split
  · refine .onlyIf _ ?_
    unfold Part.epoch
    dsimp only
    split
    · exact .of_eq (by simp) (by simp)
    · exact .of_rcu rfl rfl
  · rfl

theorem Part.lasts_deadTimeEnd (g : Group) : p.Lasts (p.deadTimeEnd g) := by
  unfold Part.deadTimeEnd
  refine .evaluateAll ?_
  split <;> exact .of_eq (by simp) (by simp)

theorem Part.lasts_forgetEnd (g : Group) : p.Lasts (p.forgetEnd g) := by
  unfold Part.forgetEnd Part.enterHeld
  split
  · refine .onlyIf _ ?_
    (repeat' split) <;> exact .of_eq (by simp) (by simp)
  · rfl

theorem Part.lasts_forgetVisit (g : Group) : p.Lasts (p.forgetVisit g) := by
  unfold Part.forgetVisit
  (repeat' (first | split | dsimp only)) <;> exact .of_rcu rfl rfl

/-- Every command but RESET keeps the configuration and the latch. -/
theorem Part.lasts_act (i : Instr) : p.Lasts (p.act i) := by
  unfold Part.act
  cases i with
  | reset | fragment | resetEnd => rfl
  | clearWalkVisit =>
    change p.Lasts p.clearVisit
    unfold Part.clearVisit
    split
    · exact .onlyIf _ (.of_rcu rfl rfl)
    · rfl
  | clearWalkEnd =>
    change p.Lasts p.clearEnd
    unfold Part.clearEnd
    split
    · exact .onlyIf _ (.of_rcu rfl rfl)
    · rfl
  | profileRecord => exact p.lasts_takeRecord Part.lasts_takeProfile _
  | openRecord => exact p.lasts_takeRecord Part.lasts_takeOpen _
  | updateRecord => exact p.lasts_takeRecord Part.lasts_takeUpdate _
  | closeRecord => exact p.lasts_takeRecord Part.lasts_takeClose _
  | aliveRecord => exact p.lasts_takeRecord Part.lasts_takeAlive _
  | releaseRecord => exact p.lasts_takeRecord Part.lasts_takeRelease _
  | handoverRecord => exact p.lasts_takeRecord Part.lasts_takeHandover _
  | statusRecord => exact p.lasts_takeRecord Part.lasts_takeStatus _
  | malformedRecord => exact p.lasts_takeRecord (f := fun q ws => (q, refusal ws .malformed)) (fun q _ => .refl q) none
  | egressRecordTaken => exact p.lasts_egressTaken
  | revokedRecord => exact p.lasts_placeRevoked
  | batchRecord => exact p.lasts_placeBatch
  | alignFrame l rx | pulseFrame l rx | deltaFrame l rx | dropFrame l rx | receiptFrame l rx | claimFrame l rx
  | answerFrame l rx | yieldFrame l rx => exact p.lasts_receive _ l rx
  | badFrame l rx =>
    change p.Lasts (p.receiveBad l rx)
    unfold Part.receiveBad Part.countBad
    (repeat' (first | split | dsimp only)) <;> exact .of_eq (by simp) (by simp)
  | transmitterTake => exact p.lasts_transmitterTake
  | frameStart =>
    change p.Lasts p.startFrame
    unfold Part.startFrame
    (repeat' split) <;> exact .of_rcu rfl rfl
  | collision => exact p.lasts_collision
  | backoffEnd =>
    change p.Lasts p.backoffOver
    unfold Part.backoffOver
    (repeat' split) <;> exact .of_rcu rfl rfl
  | frameComplete => exact p.lasts_frameDone
  | receiptTimerExpiry =>
    change p.Lasts p.receiptTimer
    unfold Part.receiptTimer
    split <;> exact .of_rcu (by simp) (by simp)
  | pauseTimerExpiry => exact .onlyIf _ (.of_rcu rfl rfl)
  | receiptDelay => exact .onlyIf _ ((Part.lasts_transmitterTake p.noteWaited).from_rcu rfl rfl)
  | livenessTimerExpiry y => exact .onlyIf _ (p.lasts_lose y)
  | pulseEpoch => exact p.lasts_epochNow
  | engineSilenceTimerExpiry => exact .onlyIf _ (.of_eq (Part.applyFence_profile _ _) (Part.latch_applyFence _ _))
  | listenTimerExpiry g =>
    refine .onlyIf _ (.evaluateAll ?_)
    split <;> exact .of_eq (by simp) (by simp)
  | vacancyTimerExpiry g => exact .onlyIf _ (.evaluateAll (.of_eq rfl rfl))
  | deadTimeExpiry g => exact .onlyIf _ (p.lasts_deadTimeEnd g)
  | holdOffExpiry g => exact .onlyIf _ (.evaluateAll (.of_eq rfl rfl))
  | handoverTimerExpiry g => exact .onlyIf _ (.evaluateAll (.of_eq (by simp) (by simp)))
  | healthWindowEnd l =>
    change p.Lasts (p.windowNow l)
    unfold Part.windowNow Part.endWindow
    split
    · refine .onlyIf _ ?_
      dsimp only
      split <;> exact .of_eq (by simp) (by simp)
    · rfl
  | quietExpiry l =>
    refine .onlyIf _ ?_
    unfold Part.quietExpiry
    split <;> exact .of_eq (by simp) (by simp)
  | retrainTimerExpiry l report =>
    refine .onlyIf _ ?_
    unfold Part.retrain
    dsimp only
    split <;> exact .of_eq (by simp) (by simp)
  | lineFault l report =>
    refine .onlyIf _ ?_
    unfold Part.lineFault
    dsimp only
    split <;> exact .of_eq (by simp) (by simp)
  | lineFaultClear l =>
    change p.Lasts (p.lineClear l)
    unfold Part.lineClear
    dsimp only
    split <;> exact .of_eq (by simp) (by simp)
  | alignDue l =>
    change p.Lasts (p.alignNow l)
    unfold Part.alignNow
    split
    · exact .onlyIf _ (.of_rcu rfl rfl)
    · rfl
  | grantLapse g => exact .onlyIf _ (.of_rcu (by simp) (by simp))
  | refreshWalkVisit =>
    change p.Lasts p.refreshVisit
    unfold Part.refreshVisit
    (repeat' (first | split | dsimp only)) <;> exact .of_eq (by simp) (by simp)
  | refreshWalkEnd =>
    change p.Lasts p.refreshEnd
    unfold Part.refreshEnd
    split
    · exact .onlyIf _ (.of_rcu rfl rfl)
    · rfl
  | takeoverWalkVisit g => exact .of_rcu (by simp) (by simp)
  | takeoverWalkEnd g => exact .of_rcu (by simp) (by simp)
  | forgetWalkVisit g => exact p.lasts_forgetVisit g
  | forgetWalkEnd g => exact p.lasts_forgetEnd g
  | ingressRecordArrival ws =>
    exact .foldl (fun q w => by unfold Part.pushWord; split <;> exact .of_rcu rfl rfl) ws p

/-- Settles O60: what a command does is an act that lasts (`Part.lasts_act`), a RESET_END, or nothing. -/
theorem configurationAndLatchLastUntilReset : Obligations.ConfigurationAndLatchLastUntilReset := by
  intro c s t h hreset
  rcases exec_cases h with rfl | rfl | rfl | ⟨-, rfl⟩
  · exact absurd rfl hreset
  · change Host.Outcome.next _ = _ at h
    split at h <;> cases h <;> exact ⟨fun _ => id, id⟩
  · exact ⟨fun _ => id, id⟩
  · exact ⟨(s.toPart.lasts_act c).profile, (s.toPart.lasts_act c).latch⟩

end Sys2Proof.Machine

/-! ### What pulses, peers and merits bring -/

namespace Sys2Proof.Machine

variable {p q r : Part}

/-! #### What a change of roles leaves of the Mirror Bus Interface (R97, R132) -/

/-- `q` has the Mirror Bus Interface of `p` but for the frames that wait and the one in hand. -/
def Part.RoleFramesAlone (p q : Part) : Prop :=
  q.mbi = { p.mbi with
    answers := q.mbi.answers, claims := q.mbi.claims, yields := q.mbi.yields, inHand := q.mbi.inHand }

namespace Part.RoleFramesAlone

@[refl] theorem refl (p : Part) : p.RoleFramesAlone p := rfl

theorem trans (h : p.RoleFramesAlone q) (h' : q.RoleFramesAlone r) : p.RoleFramesAlone r := by
  unfold Part.RoleFramesAlone at *
  rw [h', h]

theorem of_mbi (h : q.mbi = p.mbi) : p.RoleFramesAlone q := by
  unfold Part.RoleFramesAlone
  rw [h]

theorem from_mbi (h : q.RoleFramesAlone r) (hm : q.mbi = p.mbi) : p.RoleFramesAlone r := (of_mbi hm).trans h

theorem then_mbi (h : p.RoleFramesAlone q) (hm : r.mbi = q.mbi) : p.RoleFramesAlone r := h.trans (of_mbi hm)

theorem expect (h : p.RoleFramesAlone q) : q.mbi.expect = p.mbi.expect := by rw [h]

theorem lanes (h : p.RoleFramesAlone q) : q.mbi.lanes = p.mbi.lanes := by rw [h]

theorem pulseDue (h : p.RoleFramesAlone q) : q.mbi.pulseDue = p.mbi.pulseDue := by rw [h]

theorem setRole (p : Part) (g : Group) (new : Role) (cause : RoleCause) : p.RoleFramesAlone (p.setRole g new cause) := by
  unfold Part.RoleFramesAlone Part.setRole
  rw [Part.roleNotice_mbi]
  rfl

theorem makeClaim (p : Part) (g : Group) (kind : ClaimKind) : p.RoleFramesAlone (p.makeClaim g kind) :=
  (setRole p g .claiming (causeOfClaim kind)).trans rfl

theorem evalStandby (p : Part) (g : Group) : p.RoleFramesAlone (p.evalStandby g) := by
  have timed : p.RoleFramesAlone (p.updateVacancy g) := of_mbi (by simp)
  unfold Part.evalStandby
  dsimp only
  split
  · rfl
  split
  · exact timed.trans (makeClaim _ g _)
  split
  · exact timed.trans (makeClaim _ g _)
  · exact timed

theorem enterStandby (p : Part) (g : Group) (cause : RoleCause) : p.RoleFramesAlone (p.enterStandby g cause) :=
  (setRole p g .standby cause).trans (evalStandby _ g)

theorem evaluate (p : Part) (g : Group) : p.RoleFramesAlone (p.evaluate g) := by
  unfold Part.evaluate
  split
  · split
    · exact enterStandby p g _
    · rfl
  · exact evalStandby p g
  · rfl

theorem evaluateAll (p : Part) : p.RoleFramesAlone p.evaluateAll := (evaluate p .g0).trans (evaluate _ .g1)

theorem failClaim (p : Part) (g : Group) (holdOff : Bool) : p.RoleFramesAlone (p.failClaim g holdOff) := by
  unfold Part.failClaim
  cases holdOff
  · exact enterStandby p g _
  · exact (enterStandby _ g _).from_mbi rfl

theorem exitActive (p : Part) (g : Group) (new : Role) (cause : RoleCause) :
    p.RoleFramesAlone (p.exitActive g new cause) := (setRole p g new cause).trans rfl

theorem fenceGroup (p : Part) (g : Group) : p.RoleFramesAlone (p.fenceGroup g) := by
  unfold Part.fenceGroup
  split
  · rfl
  · rfl
  · exact exitActive p g _ _
  · exact setRole p g _ _

theorem fenceAll (p : Part) : p.RoleFramesAlone p.fenceAll :=
  ((fenceGroup p .g0).trans (fenceGroup _ .g1)).then_mbi (by simp [Part.fenceAll])

theorem applyFence (p : Part) (f : FenceCauses) : p.RoleFramesAlone (p.applyFence f) := by
  unfold Part.applyFence
  split
  · rfl
  · exact (fenceAll _).from_mbi rfl

theorem testQuorum (p : Part) : p.RoleFramesAlone p.testQuorum := by
  unfold Part.testQuorum
  split
  · exact applyFence p _
  · rfl

theorem unfenceGroup (p : Part) (g : Group) : p.RoleFramesAlone (p.unfenceGroup g) := by
  unfold Part.unfenceGroup
  split
  · exact (setRole p g .listen _).trans rfl
  · rfl

theorem clearFence (p : Part) (f : FenceCauses) : p.RoleFramesAlone (p.clearFence f) := by
  unfold Part.clearFence
  split
  · exact (((unfenceGroup _ .g0).trans (unfenceGroup _ .g1)).trans (evaluateAll _)).from_mbi rfl
  · rfl

end Part.RoleFramesAlone

/-! #### A first fence cause, where takeover walks are under way for ACTIVE groups alone (R140, R153, R166) -/

/-- A takeover walk is under way for an ACTIVE group only: half of `Part.walksOk`. -/
def Part.WalksServeActive (p : Part) : Prop := ∀ g, (p.smt.takeover.get g).isSome = true → p.role g = .active

theorem Part.walksServeActive_of_walksOk (h : p.walksOk = true) : p.WalksServeActive := by
  intro g hw
  simp only [Part.walksOk, List.all_cons, List.all_nil, Bool.and_true, Bool.and_eq_true, Bool.or_eq_true,
    Bool.not_eq_true', decide_eq_true_eq] at h
  obtain ⟨⟨h0, -⟩, h1, -⟩ := h
  cases g with
  | g0 => exact h0.resolve_left (by simp [hw])
  | g1 => exact h1.resolve_left (by simp [hw])

/-- With no walk under way there is none to serve. -/
theorem Part.serveFreed_of_noWalk (before : Part) (h : ∀ g, p.smt.takeover.get g = none) : p.serveFreed before = p := by
  have retry (g : Group) : p.retryWalk g = p := by simp [Part.retryWalk, h]
  have waits (g : Group) : p.walkIsWaiting g = false := by simp [Part.walkIsWaiting, h]
  unfold Part.serveFreed Part.serveWaiting
  simp [retry, waits]

/-- Fencing a group stops its takeover walk if it is ACTIVE, and touches no other, no entry and no list. -/
theorem Part.smt_fenceGroup (p : Part) (g : Group) :
    (p.fenceGroup g).smt.table = p.smt.table
      ∧ ∀ h, (p.fenceGroup g).smt.takeover.get h
        = if h = g ∧ p.role g = .active then none else p.smt.takeover.get h := by
  unfold Part.fenceGroup
  split
  · simp_all
  · simp_all
  · rename_i hr
    rw [Part.smt_exitActive]
    exact ⟨rfl, fun h => by simp [PerGroup.get_set, hr]⟩
  · simp_all

/-- The first cause touches neither the table nor the lists. -/
theorem Part.fenceAll_of_walks (h : p.WalksServeActive) :
    p.fenceAll.smt.table = p.smt.table ∧ p.fenceAll.rpu = p.rpu := by
  obtain ⟨ht0, hw0⟩ := p.smt_fenceGroup .g0
  obtain ⟨ht1, hw1⟩ := (p.fenceGroup .g0).smt_fenceGroup .g1
  have hrole : (p.fenceGroup .g0).role .g1 = p.role .g1 := by simp [Part.role, Part.group_fenceGroup]
  have none_left (g : Group) : ((p.fenceGroup .g0).fenceGroup .g1).smt.takeover.get g = none := by
    have := h g
    rw [hw1, hw0, hrole]
    cases g <;> cases hw : p.smt.takeover.get _ <;> simp_all
  unfold Part.fenceAll
  rw [Part.serveFreed_of_noWalk p none_left]
  exact ⟨ht1.trans ht0, by simp⟩

/-- So does any cause. -/
theorem Part.applyFence_of_walks (f : FenceCauses) (h : p.WalksServeActive) :
    (p.applyFence f).smt.table = p.smt.table ∧ (p.applyFence f).rpu = p.rpu := by
  unfold Part.applyFence
  split
  · exact ⟨rfl, rfl⟩
  · exact Part.fenceAll_of_walks (p := p.setFence f) h

/-! #### A frame of the own station number (R114, R139, R140, R151) -/

/-- The lane's record after a valid frame (R93). -/
def Part.laneRenewed (p : Part) (l : Lane) : Part :=
  p.setLane l { p.lane l with lastValid := some p.clock, quietElapsed := false }

/-- A valid frame on a usable lane, with no quiet evidence against the other, goes to the latch or to the header step (R93, R114). -/
theorem exec_validFrame {s : State} {l : Lane} {rx : Reception} {f : Frame} (hr : s.evp.resetHeld = false)
    (htakes : s.takesFrom l rx = true) (hl : s.laneUsable l = true)
    (hq : (s.laneUsable l.other && s.quietFor l.other) = false) (hj : judge rx = .valid f) :
    exec (f.content.kind.command l rx) s = .next (s.withPart
      (if f.sender = s.self then (s.laneRenewed l).setLatch else (s.laneRenewed l).takeFromOther l rx.bytes f)) := by
  refine exec_of_act hr ?_ (by cases f.content <;> nofun) (by cases f.content <;> nofun)
  rw [Part.act_frameCommand, Part.receive, if_pos htakes, hj]
  simp only [if_true, Part.takeValid, Part.laneHears_usable _ hl hq]
  rfl

/-- The part with the latch set, before what it brings. -/
def Part.latched (p : Part) : Part := { p with rcu := { p.rcu with latch := true } }

theorem Part.setLatch_member (h : p.isMember = true) :
    p.setLatch = p.latched.applyFence { p.rcu.fence with duplicateStation := true } := if_pos h

theorem Part.setLatch_witness (h : p.isMember = false) :
    p.setLatch = { p.latched with mbi := { p.mbi with answers := [] } } :=
  if_neg (show ¬ p.isMember = true by simp [h])

theorem Part.latched_walks (h : p.WalksServeActive) : p.latched.WalksServeActive := h

/-- The latch bears on the waiting frames and the one in hand alone. -/
theorem Part.RoleFramesAlone.setLatch (p : Part) : p.RoleFramesAlone p.setLatch := by
  unfold Part.setLatch
  dsimp only
  split
  · exact (Part.RoleFramesAlone.applyFence _ _).from_mbi rfl
  · rfl

theorem Part.setLatch_of_walks (h : p.WalksServeActive) :
    p.setLatch.rpu = p.rpu ∧ p.setLatch.smt.table = p.smt.table := by
  cases hm : p.isMember
  · rw [Part.setLatch_witness hm]
    exact ⟨rfl, rfl⟩
  · rw [Part.setLatch_member hm]
    obtain ⟨htable, hrpu⟩ := Part.applyFence_of_walks { p.rcu.fence with duplicateStation := true } (Part.latched_walks h)
    exact ⟨hrpu, htable⟩

/-- The latch as the first fence cause (R140). -/
theorem Part.group_setLatch_first (h : p.isMember = true) (hany : p.rcu.fence.any = false) {g : Group}
    (hd : p.role g ≠ .dormant) (hf : p.role g ≠ .fenced) : p.setLatch.group g = (p.group g).enter .fenced := by
  rw [Part.setLatch_member h, Part.applyFence_first _ _ (show p.latched.rcu.fence.any = false from hany)]
  exact (Part.group_fenceAll _ g).trans (if_pos ⟨hd, hf⟩)

/-- Settles O19: the latch, and on a member its fence cause, as the first one or a further one. -/
theorem ownNumberSetsTheLatch : Obligations.OwnNumberSetsTheLatch := by
  intro s l rx f hr htakes hl hq hj hown
  have hexec := exec_validFrame hr htakes hl hq hj
  rw [if_pos hown] at hexec
  have hbus := Part.RoleFramesAlone.setLatch (s.laneRenewed l)
  refine ⟨_, hexec, Part.setLatch_latch _, Part.setLatch_ppu _, Part.setLatch_wtu _, hbus.expect, hbus.lanes,
    fun hw => Part.setLatch_of_walks (p := s.laneRenewed l) (Part.walksServeActive_of_walksOk hw), fun hm => ?member,
    fun hwit => ?witness⟩
  case member =>
    have hm' : (s.laneRenewed l).isMember = true := hm
    have hlatch := Part.setLatch_member hm'
    refine ⟨?cause, fun hfirst g hd hf => ?first, fun hany => ?further⟩
    case cause =>
      change (s.laneRenewed l).setLatch.rcu.fence.duplicateStation = true
      rw [hlatch, Part.fence_applyFence]
    case first =>
      have hgroup := Part.group_setLatch_first (g := g) hm' hfirst hd hf
      exact ⟨congrArg GroupRec.role hgroup, congrArg GroupRec.fp hgroup⟩
    case further =>
      have hset := hlatch.trans (Part.applyFence_of_any _ _ (show (s.laneRenewed l).latched.rcu.fence.any = true from hany))
      rw [hset]
      rfl
  case witness =>
    have hm : s.isMember = false := by
      simp_all [Part.isWitness, Part.isMember]
    rw [Part.setLatch_witness (p := s.laneRenewed l) hm]
    rfl

end Sys2Proof.Machine

namespace Sys2Proof.Machine

variable {p : Part}

/-! #### The pulse epoch and the engine silence timer (R36, R102, R103, R105, R137) -/

/-- An evaluation leaves a group that is neither in LISTEN nor in STANDBY. -/
theorem Part.group_evaluateAll_rest {g : Group} (hl : p.role g ≠ .listen) (hs : p.role g ≠ .standby) :
    p.evaluateAll.group g = p.group g := by
  rw [Part.group_evaluateAll_eq]
  split <;> simp_all

theorem Part.judgeHealth_unfit (h : p.ppu.currentHealth = 0) :
    p.judgeHealth = p.applyFence { p.rcu.fence with engineUnfit := true } := if_pos h

theorem Part.judgeHealth_fit (h : p.ppu.currentHealth ≠ 0) :
    p.judgeHealth = p.clearFence { p.rcu.fence with engineUnfit := false } := if_neg h

@[simp] theorem Part.judgeHealth_ppu (p : Part) : p.judgeHealth.ppu = p.ppu := by
  unfold Part.judgeHealth; split <;> simp
@[simp] theorem Part.judgeHealth_clock (p : Part) : p.judgeHealth.clock = p.clock := by
  unfold Part.judgeHealth; split <;> simp

theorem Part.RoleFramesAlone.judgeHealth (p : Part) : p.RoleFramesAlone p.judgeHealth := by
  unfold Part.judgeHealth
  split
  · exact .applyFence p _
  · exact .clearFence p _

/-- ENGINE_UNFIT applies exactly while the latched health is 0 (R137). -/
theorem Part.fence_judgeHealth (p : Part) :
    p.judgeHealth.rcu.fence = { p.rcu.fence with engineUnfit := decide (p.ppu.currentHealth = 0) } := by
  by_cases h : p.ppu.currentHealth = 0
  · rw [Part.judgeHealth_unfit h, Part.fence_applyFence]
    simp [h]
  · rw [Part.judgeHealth_fit h, (p.clearFence_control _).1]
    rw [decide_eq_false h]

/-- Health 0 as the first fence cause (R140). -/
theorem Part.group_judgeHealth_first (h : p.ppu.currentHealth = 0) (hany : p.rcu.fence.any = false) {g : Group}
    (hd : p.role g ≠ .dormant) (hf : p.role g ≠ .fenced) : p.judgeHealth.group g = (p.group g).enter .fenced := by
  rw [Part.judgeHealth_unfit h, Part.applyFence_first _ _ hany]
  exact (Part.group_fenceAll _ g).trans (if_pos ⟨hd, hf⟩)

/-- The part as a member takes the epoch at `d`: the next one, a due PULSE, the health and the merits (R102, R103, R105). -/
def Part.epochLatched (p : Part) (d : Tick) : Part :=
  { p with
    mbi := { p.mbi with pulseDue := true }
    ppu := { p.ppu with
      epoch := some (d + BitVec.ofNat 32 p.pulseInterval)
      currentHealth := p.ppu.pendingHealth
      merits := p.newMerits p.ppu.pendingHealth } }

theorem Part.epochNow_reached {d : Tick} (he : p.ppu.epoch = some d) (hd : p.reached d = true) :
    p.epochNow = p.epoch d := by simp [Part.epochNow, he, Part.onlyIf, hd]

theorem Part.epochNow_early {d : Tick} (he : p.ppu.epoch = some d) (hd : p.reached d = false) : p.epochNow = p := by
  simp [Part.epochNow, he, Part.onlyIf, hd]

theorem Part.epoch_member (d : Tick) (hm : p.isMember = true) :
    p.epoch d = (p.epochLatched d).judgeHealth.evaluateAll := if_pos hm

theorem Part.epoch_witness (d : Tick) (hm : p.isMember = false) :
    p.epoch d = { p with
      mbi := { p.mbi with pulseDue := true }
      ppu := { p.ppu with epoch := some (d + BitVec.ofNat 32 p.pulseInterval) } } := if_neg (by simp [hm])

theorem Part.pulseInterval_of_profile {c : Profile} (hp : p.profile = some c) : p.pulseInterval = c.pulseInterval := by
  simp [Part.pulseInterval, hp]

theorem Part.isMember_of_profile {c : Profile} (hp : p.profile = some c) :
    p.isMember = decide (c.station ≠ .s2) := by
  simp [Part.isMember, hp, Part.self_of_profile hp]

theorem Part.act_engineSilence {d : Tick} (hs : p.rcu.silence = some d) :
    p.act .engineSilenceTimerExpiry = if p.reached d then p.engineSilence else p := by
  change p.onlyIf (p.ranOut p.rcu.silence) Part.engineSilence = _
  rw [hs]
  rfl

/-- The part with the engine silence timer stopped and ENGINE_SILENT in the set, before what a first cause brings (R36). -/
def Part.silenced (p : Part) : Part :=
  { p with rcu := { p.rcu with silence := none, fence := { p.rcu.fence with engineSilent := true } } }

theorem Part.engineSilence_first (h : p.rcu.fence.any = false) : p.engineSilence = p.silenced.fenceAll :=
  Part.applyFence_first _ _ h

theorem Part.engineSilence_further (h : p.rcu.fence.any = true) : p.engineSilence = p.silenced :=
  Part.applyFence_of_any _ _ h

/-- Settles O39: the epoch latches and then judges the health (`Part.fence_judgeHealth`); silence as a first or a further cause. -/
theorem healthMeritsAndEngineFences : Obligations.HealthMeritsAndEngineFences := by
  refine ⟨fun s d c hr he hp => ⟨fun hd => ⟨fun hst => ?member, fun hst => ?witness⟩, fun hd => ?epochEarly⟩,
    fun s d hr hs => ⟨fun hd => ⟨fun hfirst => ?first, fun hany => ?further⟩, fun hd => ?silenceEarly⟩⟩
  case member =>
    have hm : s.isMember = true := (Part.isMember_of_profile hp).trans (decide_eq_true hst)
    have hexec := exec_of_act (i := .pulseEpoch) hr ((Part.epochNow_reached he hd).trans (Part.epoch_member d hm))
    have hbus := (Part.RoleFramesAlone.judgeHealth (s.epochLatched d)).trans (.evaluateAll _)
    have hfence : (s.epochLatched d).judgeHealth.evaluateAll.rcu.fence
        = { s.rcu.fence with engineUnfit := decide (s.ppu.pendingHealth = 0) } :=
      (Part.GroupsAlone.evaluateAll _).fence.trans (Part.fence_judgeHealth _)
    refine ⟨_, hexec, ?ppu, hbus.pulseDue, ?unfit, ?silent, fun hzero hnone g hdo hfe => ?fenced, ?clock⟩
    case ppu =>
      change (s.epochLatched d).judgeHealth.evaluateAll.ppu = _
      rw [Part.evaluateAll_ppu, Part.judgeHealth_ppu]
      simp [Part.epochLatched, Part.newMerits, hp, meritOf, Part.noLaneUp, Part.pulseInterval_of_profile hp]
    case unfit => exact congrArg FenceCauses.engineUnfit hfence
    case silent => exact (congrArg FenceCauses.engineSilent hfence : _)
    case fenced =>
      have hgroup := Part.group_judgeHealth_first (p := s.epochLatched d) (g := g) hzero hnone hdo hfe
      have hrole : (s.epochLatched d).judgeHealth.role g = .fenced := congrArg GroupRec.role hgroup
      have hkept := (Part.group_evaluateAll_rest (by simp [hrole]) (by simp [hrole])).trans hgroup
      exact ⟨congrArg GroupRec.role hkept, congrArg GroupRec.fp hkept⟩
    case clock => exact (Part.evaluateAll_clock _).trans (Part.judgeHealth_clock _)
  case witness =>
    have hm : s.isMember = false := (Part.isMember_of_profile hp).trans (decide_eq_false (by simp [hst]))
    have hexec := exec_of_act (i := .pulseEpoch) hr ((Part.epochNow_reached he hd).trans (Part.epoch_witness d hm))
    rw [Part.pulseInterval_of_profile hp] at hexec
    exact hexec
  case epochEarly => exact exec_of_act (i := .pulseEpoch) hr (Part.epochNow_early he hd)
  case first =>
    have hexec := exec_of_act hr ((Part.act_engineSilence hs).trans ((if_pos hd).trans (Part.engineSilence_first hfirst)))
    refine ⟨_, hexec, Part.silence_fenceAll _, Part.fence_fenceAll _, fun g hdo hfe => ?_,
      fun g ha => Part.walks_fenceAll _ ha, Part.fenceAll_ppu _, Part.fenceAll_clock _⟩
    have hgroup : s.silenced.fenceAll.group g = (s.group g).enter .fenced :=
      (Part.group_fenceAll _ g).trans (if_pos ⟨hdo, hfe⟩)
    exact ⟨congrArg GroupRec.role hgroup, congrArg GroupRec.fp hgroup, congrArg GroupRec.claim hgroup,
      congrArg GroupRec.pendingFrame hgroup, (congrArg GroupRec.holdOff hgroup : _)⟩
  case further =>
    exact exec_of_act hr ((Part.act_engineSilence hs).trans ((if_pos hd).trans (Part.engineSilence_further hany)))
  case silenceEarly =>
    exact exec_of_act hr ((Part.act_engineSilence hs).trans (if_neg (by simp [hd])))

end Sys2Proof.Machine

namespace Sys2Proof.Machine

variable {p q r : Part}

/-! #### A group that enters STANDBY, and the claim it makes at once (R120, R121, R128) -/

/-- Once evaluated at its entry to STANDBY, a group is left as it is by the next evaluation. -/
theorem Part.group_evaluate_enterStandby (p : Part) (g : Group) (cause : RoleCause) :
    ((p.enterStandby g cause).evaluate g).group g = (p.enterStandby g cause).group g := by
  have hg := Part.group_enterStandby p g cause
  have w : p.SameWorld (p.enterStandby g cause) := ⟨by simp, by simp, by simp⟩
  have hkeeps : ((p.enterStandby g cause).group g).peerClaiming = (p.group g).peerClaiming
      ∧ ((p.enterStandby g cause).group g).holdOff = (p.group g).holdOff := by
    rw [hg]
    cases p.freshClaim g <;> exact ⟨rfl, rfl⟩
  obtain ⟨hclaiming, hholdOff⟩ := hkeeps
  rw [Part.group_evaluate]
  cases hf : p.freshClaim g with
  | some kind =>
    have hrole : (p.enterStandby g cause).role g = .claiming := by rw [Part.role, hg, hf]; rfl
    simp only [hrole]
  | none =>
    rw [hf] at hg
    have hrole : (p.enterStandby g cause).role g = .standby := by rw [Part.role, hg]; rfl
    have hholds : (p.enterStandby g cause).vacancyHolds g = p.idleMember g := by
      simp [Part.vacancyHolds, hrole, w.otherLive, Part.idleMember, Part.standingIdle, w.standing hclaiming]
    have hclaim : (p.enterStandby g cause).standbyClaim g = none := by
      rw [Part.standbyClaim_fresh, w.freshClaim hclaiming hholdOff, hf]
      · simp [hg, GroupRec.standbyNext, GroupRec.withVacancy, GroupRec.enter]
      · simp only [hg, GroupRec.standbyNext, GroupRec.withVacancy, GroupRec.enter]; split <;> simp
    simp only [hrole, hholds, hclaim, w.after, w.pulseInterval, hg]
    cases p.idleMember g <;> rfl

/-- The same whatever has become of the rest of the part meanwhile. -/
theorem Part.group_evaluateAll_of_enterStandby {g : Group} {cause : RoleCause}
    (h : (p.enterStandby g cause).SameView q g) : q.evaluateAll.group g = (p.enterStandby g cause).group g := by
  rw [Part.group_evaluateAll, h.group_evaluate, Part.group_evaluate_enterStandby]

theorem Part.holdOff_enterStandby (p : Part) (g : Group) (cause : RoleCause) :
    ((p.enterStandby g cause).group g).holdOff = (p.group g).holdOff := by
  rw [Part.group_enterStandby]
  cases p.freshClaim g <;> rfl

theorem Part.pendingFrame_enterStandby (p : Part) (g : Group) (cause : RoleCause) :
    ((p.enterStandby g cause).group g).pendingFrame = none := by
  rw [Part.group_enterStandby]
  cases p.freshClaim g <;> rfl

theorem Part.enterStandby_stays {g : Group} (h : p.freshClaim g = none) (cause : RoleCause) :
    (p.enterStandby g cause).role g = .standby ∧ ((p.enterStandby g cause).group g).claim = none := by
  rw [Part.role, Part.group_enterStandby, h]
  exact ⟨rfl, rfl⟩

theorem Part.enterStandby_claims {g : Group} {kind : ClaimKind} (h : p.freshClaim g = some kind) (cause : RoleCause) :
    (p.enterStandby g cause).role g = .claiming
      ∧ (((p.enterStandby g cause).group g).claim.map fun c => (c.kind, c.number))
        = some (kind, (p.group g).claimNumber + 1) := by
  rw [Part.role, Part.group_enterStandby, h]
  exact ⟨rfl, rfl⟩

/-- While the other member is LIVE the only fresh claim is a PREEMPT (R120). -/
theorem Part.freshClaim_live {g : Group} (h : p.otherLive = true) :
    p.freshClaim g = if p.preemptConditions g then some .preempt else none := by simp [Part.freshClaim, h]

/-! #### One act on each group in turn -/

/-- An act on each group in turn, that leaves the other group and what a station knows, comes for either group to the act on it. -/
theorem Part.each_group {f : Group → Part → Part} (hne : ∀ (q : Part) {g h : Group}, h ≠ g → (f g q).group h = q.group h)
    (hworld : ∀ (q : Part) (g : Group), q.SameWorld (f g q)) (p : Part) (g : Group) :
    ∃ x, p.SameView x g ∧ (f g x).SameView (f .g1 (f .g0 p)) g := by
  cases g with
  | g0 => exact ⟨p, ⟨⟨rfl, rfl, rfl⟩, rfl⟩, hworld _ _, hne _ (by decide)⟩
  | g1 => exact ⟨f .g0 p, ⟨hworld _ _, hne _ (by decide)⟩, ⟨rfl, rfl, rfl⟩, rfl⟩

/-! #### The content of a PULSE (R113, R118, R124, R126) -/

/-- What a PULSE of the other member does to a group by the role and the merit it announces. -/
def Part.meetsPulse (roles : PerGroup (Option Role)) (merits : PerGroup (Option (BitVec 8))) (g : Group) (p : Part) : Part :=
  match roles.get g with
  | some r => p.pulseMeetsGroup g r ((merits.get g).elim 0 BitVec.toNat)
  | none => p

/-- An open claim may fail by a PULSE, and an ACTIVE group may lose a split brain by it; else the PULSE moves no group. -/
theorem Part.meetsPulse_cases (roles : PerGroup (Option Role)) (merits : PerGroup (Option (BitVec 8))) (g : Group)
    (p : Part) :
    p.meetsPulse roles merits g = p ∨ p.meetsPulse roles merits g = p.enterStandby g .claimFailed
      ∨ p.meetsPulse roles merits g = ((p.exitActive g .standby .splitBrain).evalStandby g).serveFreed p := by
  unfold Part.meetsPulse Part.pulseMeetsGroup
  split
  · split
    · split
      · split
        · split
          · exact .inr (.inl rfl)
          · exact .inl rfl
        · split
          · exact .inr (.inl rfl)
          · exact .inl rfl
        · exact .inl rfl
      · exact .inl rfl
    · split
      · exact .inr (.inr rfl)
      · exact .inl rfl
    · exact .inl rfl
  · exact .inl rfl

/-- The part once the standings are the announced roles again, before the groups meet them (R118). -/
def Part.standingsAnnounced (p : Part) (roles : PerGroup (Option Role)) : Part :=
  (p.pulseStanding .g0 roles.g0).pulseStanding .g1 roles.g1

theorem Part.pulseOfOther_eq (p : Part) (roles : PerGroup (Option Role)) (merits : PerGroup (Option (BitVec 8))) :
    p.pulseOfOther roles merits
      = (Part.meetsPulse roles merits .g1 (Part.meetsPulse roles merits .g0 (p.standingsAnnounced roles))).evaluateAll :=
  rfl

theorem Part.sameWorld_meetsPulse (roles : PerGroup (Option Role)) (merits : PerGroup (Option (BitVec 8))) (p : Part)
    (g : Group) : p.SameWorld (p.meetsPulse roles merits g) := by
  unfold Part.meetsPulse
  split
  · exact ⟨by simp, by simp, by simp⟩
  · exact ⟨rfl, rfl, rfl⟩

theorem Part.group_meetsPulse_ne (roles : PerGroup (Option Role)) (merits : PerGroup (Option (BitVec 8))) (p : Part)
    {g h : Group} (hne : h ≠ g) : (p.meetsPulse roles merits g).group h = p.group h := by
  rcases Part.meetsPulse_cases roles merits g p with hm | hm | hm <;> rw [hm]
  · exact p.group_enterStandby_ne hne _
  · rw [Part.group_serveFreed, Part.group_evalStandby_ne _ hne, Part.group_exitActive, if_neg hne]

theorem Part.group_standingsAnnounced (p : Part) (roles : PerGroup (Option Role)) (g : Group) :
    (p.standingsAnnounced roles).group g = { p.group g with
      peerClaiming := false
      rebirthMark := (p.group g).rebirthMark && ((roles.get g).map Role.idle).getD true } := by
  cases g <;> rfl

/-- A claim fails by an announced role: a VACANT one by ACTIVE or YIELDING, a HANDED one by ACTIVE (R124, R126). -/
def ClaimKind.failsBy (kind : ClaimKind) (announced : Option Role) : Prop :=
  (kind = .vacant ∧ (announced = some .active ∨ announced = some .yielding))
    ∨ (kind = .handed ∧ announced = some .active)

theorem Part.meetsPulse_fails {roles : PerGroup (Option Role)} {merits : PerGroup (Option (BitVec 8))} {g : Group}
    {own : ClaimRecord} (hr : p.role g = .claiming) (hc : (p.group g).claim = some own)
    (h : own.kind.failsBy (roles.get g)) : p.meetsPulse roles merits g = p.enterStandby g .claimFailed := by
  have hplain : p.enterStandby g .claimFailed = p.failClaim g false := rfl
  unfold Part.meetsPulse Part.pulseMeetsGroup
  rcases h with ⟨hk, ha | ha⟩ | ⟨hk, ha⟩ <;> simp [hr, hc, hk, ha, Role.serving, hplain]

theorem Part.meetsPulse_stands {roles : PerGroup (Option Role)} {merits : PerGroup (Option (BitVec 8))} {g : Group}
    {own : ClaimRecord} (hr : p.role g = .claiming) (hc : (p.group g).claim = some own)
    (h : ¬ own.kind.failsBy (roles.get g)) : p.meetsPulse roles merits g = p := by
  unfold Part.meetsPulse Part.pulseMeetsGroup
  split
  · rename_i role ha
    cases hk : own.kind <;> cases role <;> simp_all [ClaimKind.failsBy, Role.serving]
  · rfl

/-- A CLAIMING group whose claim stands meets a PULSE of the other member. -/
theorem Part.group_pulseOfOther_stands {roles : PerGroup (Option Role)} {merits : PerGroup (Option (BitVec 8))} {g : Group}
    {own : ClaimRecord} (hr : p.role g = .claiming) (hc : (p.group g).claim = some own)
    (h : ¬ own.kind.failsBy (roles.get g)) :
    (p.pulseOfOther roles merits).group g = (p.standingsAnnounced roles).group g := by
  obtain ⟨x, hx, hv⟩ := Part.each_group (Part.group_meetsPulse_ne roles merits) (Part.sameWorld_meetsPulse roles merits)
    (p.standingsAnnounced roles) g
  have hrx : x.role g = .claiming := by rw [hx.role, Part.role, Part.group_standingsAnnounced]; exact hr
  have hcx : (x.group g).claim = some own := by rw [hx.group, Part.group_standingsAnnounced]; exact hc
  rw [Part.meetsPulse_stands hrx hcx h] at hv
  have hrole := hv.role.trans hrx
  rw [Part.pulseOfOther_eq, Part.group_evaluateAll_rest (by simp [hrole]) (by simp [hrole]), hv.group, hx.group]

/-- One whose claim fails enters STANDBY, on the view that the PULSE leaves. -/
theorem Part.group_pulseOfOther_fails {roles : PerGroup (Option Role)} {merits : PerGroup (Option (BitVec 8))} {g : Group}
    {own : ClaimRecord} (hr : p.role g = .claiming) (hc : (p.group g).claim = some own)
    (h : own.kind.failsBy (roles.get g)) :
    ∃ x, (p.standingsAnnounced roles).SameView x g
      ∧ (p.pulseOfOther roles merits).group g = (x.enterStandby g .claimFailed).group g := by
  obtain ⟨x, hx, hv⟩ := Part.each_group (Part.group_meetsPulse_ne roles merits) (Part.sameWorld_meetsPulse roles merits)
    (p.standingsAnnounced roles) g
  have hrx : x.role g = .claiming := by rw [hx.role, Part.role, Part.group_standingsAnnounced]; exact hr
  have hcx : (x.group g).claim = some own := by rw [hx.group, Part.group_standingsAnnounced]; exact hc
  rw [Part.meetsPulse_fails hrx hcx h] at hv
  exact ⟨x, hx, Part.group_evaluateAll_of_enterStandby hv⟩

/-- An evaluation leaves what a CLAIM made of the other member's standing (R118). -/
theorem Part.peerClaiming_evaluateAll (p : Part) (g : Group) :
    (p.evaluateAll.group g).peerClaiming = (p.group g).peerClaiming := by
  have next (r : GroupRec) (holds : Bool) (d : Tick) (kind : Option ClaimKind) :
      (r.standbyNext holds d kind).peerClaiming = r.peerClaiming := by cases kind <;> rfl
  rw [Part.group_evaluateAll_eq]
  split
  · split
    · exact next _ _ _ _
    · rfl
  · exact next _ _ _ _
  · rfl

theorem Part.peerClaiming_enterStandby (p : Part) (g : Group) (cause : RoleCause) :
    ((p.enterStandby g cause).group g).peerClaiming = (p.group g).peerClaiming := by
  rw [Part.group_enterStandby]
  cases p.freshClaim g <;> rfl

theorem Part.peerClaiming_meetsPulse (roles : PerGroup (Option Role)) (merits : PerGroup (Option (BitVec 8))) (p : Part)
    (g : Group) : ((p.meetsPulse roles merits g).group g).peerClaiming = (p.group g).peerClaiming := by
  have left : ((((p.exitActive g .standby .splitBrain).evalStandby g).serveFreed p).group g).peerClaiming
      = (p.group g).peerClaiming := by
    have hexit := p.group_exitActive g g .standby .splitBrain
    have hrole : (p.exitActive g .standby .splitBrain).role g = .standby := by rw [Part.role, hexit, if_pos rfl]; rfl
    rw [Part.group_serveFreed, Part.group_evalStandby _ _ hrole, hexit, if_pos rfl]
    cases Part.standbyClaim _ _ <;> rfl
  rcases Part.meetsPulse_cases roles merits g p with h | h | h <;> rw [h]
  · exact p.peerClaiming_enterStandby g _
  · exact left

theorem Part.peerClaiming_pulseOfOther (p : Part) (roles : PerGroup (Option Role))
    (merits : PerGroup (Option (BitVec 8))) (g : Group) : ((p.pulseOfOther roles merits).group g).peerClaiming = false := by
  obtain ⟨x, hx, hv⟩ := Part.each_group (Part.group_meetsPulse_ne roles merits) (Part.sameWorld_meetsPulse roles merits)
    (p.standingsAnnounced roles) g
  rw [Part.pulseOfOther_eq, Part.peerClaiming_evaluateAll, hv.group, Part.peerClaiming_meetsPulse, hx.group,
    Part.group_standingsAnnounced]

end Sys2Proof.Machine

namespace Sys2Proof.Machine

variable {p q r : Part}

/-- What a PULSE of the other member leaves of the bus. -/
theorem Part.RoleFramesAlone.pulseOfOther (p : Part) (roles : PerGroup (Option Role))
    (merits : PerGroup (Option (BitVec 8))) : p.RoleFramesAlone (p.pulseOfOther roles merits) := by
  have left (q : Part) (g : Group) :
      q.RoleFramesAlone (((q.exitActive g .standby .splitBrain).evalStandby g).serveFreed q) :=
    ((exitActive q g .standby .splitBrain).trans (evalStandby _ g)).then_mbi (by simp)
  have meets (q : Part) (g : Group) : q.RoleFramesAlone (q.meetsPulse roles merits g) := by
    rcases Part.meetsPulse_cases roles merits g q with h | h | h <;> rw [h]
    · exact enterStandby q g _
    · exact left q g
  rw [Part.pulseOfOther_eq]
  exact (((meets _ .g0).trans (meets _ .g1)).trans (evaluateAll _)).from_mbi rfl

theorem Part.takePulse_other (hm : p.isMember = true) (c : PulseContent) :
    p.takePulse p.otherMember c = ((p.writePulse p.otherMember c).chooseLane).pulseOfOther c.roles c.merits :=
  (if_pos hm).trans (if_pos rfl)

theorem Part.takePulse_witness (hm : p.isMember = false) (y : Station) (c : PulseContent) :
    p.takePulse y c = p.writePulse y c := if_neg (show ¬ p.isMember = true by simp [hm])

/-- A PULSE is written whole, and its readers leave what is written (R113). -/
theorem Part.takePulse_ppu (p : Part) (y : Station) (c : PulseContent) : (p.takePulse y c).ppu = (p.writePulse y c).ppu := by
  have other (q : Part) : (q.pulseOfOther c.roles c.merits).ppu = q.ppu := by
    rw [Part.pulseOfOther_eq, Part.evaluateAll_ppu, (Part.sameWorld_meetsPulse c.roles c.merits _ .g1).ppu,
      (Part.sameWorld_meetsPulse c.roles c.merits _ .g0).ppu]
    rfl
  unfold Part.takePulse
  dsimp only
  split
  · split
    · exact other _
    · exact Part.evaluateAll_ppu _
  · rfl

theorem Part.takePulse_expect (p : Part) (y : Station) (c : PulseContent) :
    (p.takePulse y c).mbi.expect = p.mbi.expect := by
  unfold Part.takePulse
  dsimp only
  split
  · split
    · exact (Part.RoleFramesAlone.pulseOfOther _ _ _).expect
    · exact (Part.RoleFramesAlone.evaluateAll _).expect
  · rfl

/-- Both a member and a witness take a PULSE that is no copy (R93, R145). -/
theorem exec_pulse {s : State} {l : Lane} {rx : Reception} {y : Station} {c : PulseContent}
    (h : s.hearsNew l rx y (.pulse c)) :
    exec (.pulseFrame l rx) s = .next (s.withPart ((s.afterHeader l y (some (l.other, rx.bytes))).takePulse y c)) := by
  refine exec_of_act h.1.1 ?_
  have hreceive := State.receive_of_hearsNew h
  rw [Part.handUp] at hreceive
  exact hreceive.trans (by split <;> rfl)

/-- The part as the Role Controller of a member meets a PULSE of the other member. -/
def Part.pulseWritten (p : Part) (c : PulseContent) : Part := (p.writePulse p.otherMember c).chooseLane

/-- The group's record as the PULSE leaves its standing (R116, R118). -/
theorem Part.group_pulseWritten (p : Part) (c : PulseContent) (g : Group) : (p.pulseWritten c).group g = p.group g := rfl

theorem decide_idle (announced : Option Role) :
    (announced.map Role.idle).getD true
      = decide (announced ≠ some .active ∧ announced ≠ some .yielding ∧ announced ≠ some .claiming) := by
  rcases announced with _ | role
  · rfl
  · cases role <;> rfl

theorem Part.otherLive_pulseWritten (h : (p.peer p.otherMember).state = .live) (c : PulseContent) :
    ((p.pulseWritten c).standingsAnnounced c.roles).otherLive = true := by
  have hset := Part.peer_setPeer p p.otherMember p.otherMember { p.peer p.otherMember with
    roles := c.roles, merits := c.merits, heardLanes := some c.heardLanes, witnessConfigured := some c.witnessConfigured }
  rw [if_pos rfl] at hset
  exact decide_eq_true ((congrArg PeerRec.state hset).trans h)

/-- The PREEMPT conditions on what a PULSE of the other member, LIVE, has just announced (R120). -/
theorem Part.preemptConditions_announced {c : PulseContent} {cfg : Profile} {g : Group} {m : BitVec 8}
    (hlive : (p.peer p.otherMember).state = .live) (hp : p.profile = some cfg) (hm : c.merits.get g = some m) :
    ((p.pulseWritten c).standingsAnnounced c.roles).preemptConditions g = true
      ↔ c.roles.get g = some .active ∧ cfg.preempt.get g = true
        ∧ m.toNat + cfg.margin.toNat ≤ (p.ppu.merits.get g).toNat ∧ (p.group g).holdOff = none := by
  obtain ⟨x, hx⟩ : ∃ x, x = (p.pulseWritten c).standingsAnnounced c.roles := ⟨_, rfl⟩
  have hother : x.otherMember = p.otherMember := by rw [hx]; rfl
  have hpeer : x.peer x.otherMember = { p.peer p.otherMember with
      roles := c.roles, merits := c.merits, heardLanes := some c.heardLanes,
      witnessConfigured := some c.witnessConfigured } := by
    rw [hother, hx]
    exact (Part.peer_setPeer _ _ _ _).trans (if_pos rfl)
  have hgroup : (x.group g).peerClaiming = false ∧ (x.group g).holdOff = (p.group g).holdOff := by
    rw [hx, Part.group_standingsAnnounced]
    exact ⟨rfl, rfl⟩
  obtain ⟨hclaiming, hholdOff⟩ := hgroup
  have hstanding : x.standing g = c.roles.get g := by simp [Part.standing, hclaiming, hpeer]
  have hl : x.otherLive = true := by rw [hx]; exact Part.otherLive_pulseWritten hlive c
  have hprofile : x.profile = some cfg := by rw [hx]; exact hp
  have hmerit : x.merit g = (p.ppu.merits.get g).toNat := by rw [hx]; rfl
  rw [← hx]
  simp [Part.preemptConditions, hl, hstanding, hprofile, hpeer, hm, Part.margin, hmerit, Part.heldOff, hholdOff, and_assoc]

/-- A claim that fails by a PULSE leaves the group in STANDBY, from which only a PREEMPT claim may follow (R120, R124, R126). -/
theorem Part.pulseWritten_fails {c : PulseContent} {g : Group} {own : ClaimRecord}
    (hlive : (p.peer p.otherMember).state = .live) (hr : p.role g = .claiming) (hc : (p.group g).claim = some own)
    (hfails : own.kind.failsBy (c.roles.get g)) :
    ∃ x : Part, (x.group g).holdOff = (p.group g).holdOff ∧ (x.group g).claimNumber = (p.group g).claimNumber
      ∧ x.freshClaim g
        = (if ((p.pulseWritten c).standingsAnnounced c.roles).preemptConditions g then some .preempt else none)
      ∧ ((p.pulseWritten c).pulseOfOther c.roles c.merits).group g = (x.enterStandby g .claimFailed).group g := by
  have hr' : (p.pulseWritten c).role g = .claiming := hr
  have hc' : ((p.pulseWritten c).group g).claim = some own := hc
  obtain ⟨x, hx, hgx⟩ := Part.group_pulseOfOther_fails (merits := c.merits) hr' hc' hfails
  have hfresh := Part.freshClaim_live (g := g) (hx.otherLive.trans (Part.otherLive_pulseWritten hlive c))
  rw [hx.preemptConditions] at hfresh
  refine ⟨x, ?_, ?_, hfresh, hgx⟩ <;> rw [hx.group, Part.group_standingsAnnounced, Part.group_pulseWritten]

/-- Settles O21: the write (`Part.takePulse_ppu`), then an open claim that fails or stands by the role announced. -/
theorem pulseIsWrittenWhole : Obligations.PulseIsWrittenWhole := by
  refine ⟨fun s l rx y c h => ?write, fun s l rx c g m cfg own h hp hst hr hc hm => ?claim⟩
  case write =>
    refine ⟨_, exec_pulse h, (Part.takePulse_ppu _ _ _).trans ?ppu, ?expect, fun hmem hy g => ?standing, fun hwit => ?witness⟩
    case ppu => cases y <;> rfl
    case expect =>
      exact (congrArg (PerStation.get · y) (Part.takePulse_expect _ _ _)).trans (PerStation.get_set_same _ _ _)
    case standing =>
      have hother : y = (s.afterHeader l y (some (l.other, rx.bytes))).otherMember := hy
      have htake := Part.takePulse_other (p := s.afterHeader l y (some (l.other, rx.bytes))) hmem c
      rw [← hother] at htake
      exact (congrArg (fun t : Part => (t.group g).peerClaiming) htake).trans (Part.peerClaiming_pulseOfOther _ _ _ g)
    case witness =>
      have hmem : (s.afterHeader l y (some (l.other, rx.bytes))).isMember = false := by
        change s.isMember = false
        simp_all [Part.isWitness, Part.isMember]
      rw [Part.takePulse_witness hmem]
      rfl
  case claim =>
    intro fails preempts
    have hhears := h
    obtain ⟨⟨-, -, -, -, -, hlive, -⟩, -⟩ := hhears
    obtain ⟨a, ha⟩ : ∃ a : Part, a = s.afterHeader l s.otherMember (some (l.other, rx.bytes)) := ⟨_, rfl⟩
    have hexec := exec_pulse h
    rw [← ha] at hexec
    have hother : s.otherMember = a.otherMember := by rw [ha]; rfl
    have hmem : a.isMember = true := by
      rw [ha]
      exact (Part.isMember_of_profile hp).trans (decide_eq_true hst)
    have hgroup : a.group g = s.group g := by rw [ha]; rfl
    have hpeer : (a.peer a.otherMember).state = .live := by
      rw [← hother, ha]
      have hset := Part.peer_setPeer s.toPart s.otherMember s.otherMember
        { s.peer s.otherMember with
          lastHeard := some s.clock, heardOn := (s.peer s.otherMember).heardOn.set l (some s.clock) }
      rw [if_pos rfl] at hset
      exact (congrArg PeerRec.state hset).trans hlive
    have hpre := Part.preemptConditions_announced (g := g) hpeer (by rw [ha]; exact hp) hm
    rw [hgroup, show a.ppu.merits = s.ppu.merits by rw [ha]; rfl] at hpre
    rw [hother, Part.takePulse_other hmem] at hexec
    have hr' : a.role g = .claiming := (congrArg GroupRec.role hgroup).trans hr
    have hc' : (a.group g).claim = some own := (congrArg GroupRec.claim hgroup).trans hc
    refine ⟨_, hexec, fun hstands => ?stands, fun hfails => ?fails⟩
    case stands =>
      refine (Part.group_pulseOfOther_stands (p := a.pulseWritten c) hr' hc' hstands).trans ?_
      rw [Part.group_standingsAnnounced, Part.group_pulseWritten, hgroup, decide_idle]
    case fails =>
      obtain ⟨x, hholdOff, hnumber, hfresh, hgx⟩ := Part.pulseWritten_fails hpeer hr' hc' hfails
      rw [hgroup] at hholdOff hnumber
      have hrole : (s.withPart ((a.pulseWritten c).pulseOfOther c.roles c.merits)).role g
          = (x.enterStandby g .claimFailed).role g := congrArg GroupRec.role hgx
      have hclaim := congrArg GroupRec.claim hgx
      refine ⟨(congrArg GroupRec.holdOff hgx).trans ((x.holdOff_enterStandby g _).trans hholdOff), fun hn => ?_, fun hy => ?_⟩
      · rw [if_neg (fun hc => hn (hpre.1 hc))] at hfresh
        obtain ⟨hstandby, hnone⟩ := Part.enterStandby_stays hfresh .claimFailed
        exact ⟨hrole.trans hstandby, hclaim.trans hnone⟩
      · rw [if_pos (hpre.2 hy)] at hfresh
        obtain ⟨hclaiming, hsome⟩ := Part.enterStandby_claims hfresh .claimFailed
        rw [hnumber] at hsome
        exact ⟨hrole.trans hclaiming, (congrArg (Option.map _) hclaim).trans hsome⟩

end Sys2Proof.Machine

namespace Sys2Proof.Machine

variable {p q r : Part}

/-! #### Every In-Flight record returns (R46, R47, R55, R58) -/

/-- An entry whose record has left without a receipt, its attempts count standing (R46). -/
def Entry.returned (e : Entry) : Entry := { e with state := e.state.returned }

theorem EntryState.awaitsSend_returned {st : EntryState} (h : st.inFlight = true) : st.returned.awaitsSend = true := by
  cases st <;> simp_all [EntryState.inFlight, EntryState.returned, EntryState.awaitsSend]

theorem flies_eq_true {e : Option Entry} : flies e = true ↔ ∃ x, e = some x ∧ x.state.inFlight = true := by
  cases e <;> simp

/-- One record in flight returns: its slot joins the tail of the Send List. -/
theorem Part.returnTail_of_agree (h : p.Agree) {slot : Slot} {e : Entry} (he : p.entry slot = some e)
    (hf : e.state.inFlight = true) :
    p.returnTail (fun e => e.attempts) slot = { p with
      smt := { p.smt with table := tableSet p.smt.table slot (some e.returned) }
      rpu := { p.rpu with
        sendList := p.rpu.sendList ++ [slot]
        inFlight := p.rpu.inFlight.filter fun r => decide (r.slot ≠ slot) } } := by
  have hput : p.returnTail (fun e => e.attempts) slot = p.putEntry slot (some e.returned) := by
    simp only [Part.returnTail, he, hf, if_true]
    rfl
  have hout : slot ∉ p.rpu.sendList := by
    intro hin
    have hawaits := (h.send slot).1 hin
    rw [he] at hawaits
    simp [EntryState.not_inFlight_of_awaitsSend hawaits] at hf
  have hsend : sendPlace p.rpu.sendList slot (some e.returned) = p.rpu.sendList ++ [slot] := by
    simp [sendPlace, Entry.returned, EntryState.awaitsSend_returned hf, hout]
  have hflight : flightPlace p.rpu.inFlight slot (some e.returned)
      = p.rpu.inFlight.filter fun r => decide (r.slot ≠ slot) := by simp [flightPlace, Entry.returned]
  rw [hput, Part.putEntry, hsend, hflight]

/-- The records of `slots`, in flight, return in that order. -/
theorem Part.returnTails_of_agree {slots : List Slot} (hn : slots.Nodup) (h : p.Agree)
    (hf : ∀ x ∈ slots, flies (p.entry x) = true) :
    (slots.foldl (fun q slot => q.returnTail (fun e => e.attempts) slot) p).rpu = { p.rpu with
        sendList := p.rpu.sendList ++ slots
        inFlight := p.rpu.inFlight.filter fun r => decide (r.slot ∉ slots) }
      ∧ ∀ x, (slots.foldl (fun q slot => q.returnTail (fun e => e.attempts) slot) p).entry x
        = if x ∈ slots then (p.entry x).map Entry.returned else p.entry x := by
  induction slots generalizing p with
  | nil => simp
  | cons slot slots ih =>
    obtain ⟨hout, hnodup⟩ := List.nodup_cons.1 hn
    obtain ⟨e, he, hfe⟩ := flies_eq_true.1 (hf slot (by simp))
    have hstep := Part.returnTail_of_agree h he hfe
    have hagree := (p.keepsLists_returnTail (fun e => e.attempts) slot).agree h
    have hentry (x : Slot) : (p.returnTail (fun e => e.attempts) slot).entry x
        = if x = slot then some e.returned else p.entry x := by
      rw [hstep]
      exact tableGet_set p.smt.table slot x (some e.returned)
    have hflies : ∀ x ∈ slots, flies ((p.returnTail (fun e => e.attempts) slot).entry x) = true := by
      intro x hx
      rw [hentry, if_neg (ne_of_mem_of_not_mem hx hout)]
      exact hf x (List.mem_cons_of_mem _ hx)
    obtain ⟨hrpu, hentries⟩ := ih hnodup hagree hflies
    rw [List.foldl_cons]
    refine ⟨?rpu, fun x => ?entry⟩
    case rpu =>
      rw [hrpu, hstep]
      simp [List.filter_filter, Bool.and_comm]
    case entry =>
      rw [hentries, hentry]
      by_cases hx : x = slot
      · simp [hx, hout, he]
      · simp [hx]

theorem Part.completedSlots_nodup (h : p.Agree) : p.completedSlots.Nodup :=
  h.flightNodup.sublist (List.filter_sublist.map _)

theorem Part.flies_completedSlots (h : p.Agree) {x : Slot} (hx : x ∈ p.completedSlots) : flies (p.entry x) = true :=
  (h.flight x).1 ((List.filter_sublist.map _).subset hx)

/-- Without the completed records those in transmission are left. -/
theorem Part.inFlight_left (h : p.Agree) :
    (p.rpu.inFlight.filter fun r => decide (r.slot ∉ p.completedSlots)) = p.rpu.inFlight.filter fun r => r.transmitting := by
  refine List.filter_congr fun r hr => ?_
  have hmem : r.slot ∈ p.completedSlots ↔ r.transmitting = false := by
    simp only [Part.completedSlots, List.mem_map, List.mem_filter, Bool.not_eq_true']
    refine ⟨fun ⟨r', ⟨hr', ht⟩, hs⟩ => ?_, fun ht => ⟨r, ⟨hr, ht⟩, rfl⟩⟩
    rwa [← List.inj_on_of_nodup_map h.flightNodup hr' hr hs]
  cases ht : r.transmitting <;> simp [hmem, ht]

theorem Part.markRecall_rpu (p : Part) :
    p.markRecall.rpu = { p.rpu with recallMark := p.rpu.recallMark || p.mbi.inHand.any fun h => h.frame.session } := by
  unfold Part.markRecall
  cases p.mbi.inHand with
  | none => simp
  | some h => cases hs : h.frame.session <;> simp [hs]

theorem Part.mbi_returnTails (slots : List Slot) (p : Part) :
    (slots.foldl (fun q slot => q.returnTail (fun e => e.attempts) slot) p).mbi = p.mbi :=
  foldl_keeps _ (fun q => q.mbi) (fun q a => q.returnTail_mbi _ a) slots p

/-- What the return makes of the Replication Unit. -/
theorem Part.rpu_returnAll (h : p.Agree) :
    p.returnAll.rpu = { p.rpu with
      sendList := p.rpu.sendList ++ p.completedSlots
      inFlight := p.rpu.inFlight.filter fun r => r.transmitting
      recallMark := p.rpu.recallMark || p.mbi.inHand.any fun h => h.frame.session } := by
  obtain ⟨hrpu, -⟩ := Part.returnTails_of_agree (Part.completedSlots_nodup h) h fun _ => Part.flies_completedSlots h
  unfold Part.returnAll
  rw [Part.mapEntries_rpu, Part.markRecall_rpu, Part.mbi_returnTails, hrpu, Part.inFlight_left h]

/-- What it makes of an entry, given whether its record had completed. -/
def Entry.broughtBack (e : Entry) (completed : Prop) [Decidable completed] : Entry :=
  { e with
    state := if completed then if e.state = .sent ∨ e.state = .changed then .dirty else .dropDue else e.state
    attempts := if e.state.owned then 0 else e.attempts }

theorem Entry.attemptsCleared_eq (e : Entry) : e.attemptsCleared = e.broughtBack False := by
  unfold Entry.attemptsCleared Entry.broughtBack
  cases hs : e.state.owned <;> simp

theorem Entry.attemptsCleared_returned {e : Entry} (h : e.state.inFlight = true) :
    e.returned.attemptsCleared = e.broughtBack True := by
  unfold Entry.attemptsCleared Entry.broughtBack Entry.returned
  cases hs : e.state <;> simp_all [EntryState.inFlight, EntryState.returned, EntryState.owned]

theorem Part.entry_returnAll (h : p.Agree) (x : Slot) :
    p.returnAll.entry x = (p.entry x).map fun e => e.broughtBack (x ∈ p.completedSlots) := by
  obtain ⟨-, hentry⟩ := Part.returnTails_of_agree (Part.completedSlots_nodup h) h fun _ => Part.flies_completedSlots h
  have hmark (q : Part) : q.markRecall.entry x = q.entry x := by simp [Part.entry]
  unfold Part.returnAll
  rw [Part.entry_mapEntries, hmark, hentry]
  by_cases hx : x ∈ p.completedSlots
  · obtain ⟨e, he, hf⟩ := flies_eq_true.1 (Part.flies_completedSlots h hx)
    simp [hx, he, Entry.attemptsCleared_returned hf]
  · cases p.entry x <;> simp [hx, Entry.attemptsCleared_eq]

/-- `q` has the Session Mirror of `p` but for its table. -/
def Part.TableAlone (p q : Part) : Prop := q.smt = { p.smt with table := q.smt.table }

theorem Part.TableAlone.trans (h : p.TableAlone q) (h' : q.TableAlone r) : p.TableAlone r := by
  unfold Part.TableAlone at *
  rw [h', h]

theorem Part.TableAlone.takeover (h : p.TableAlone q) : q.smt.takeover = p.smt.takeover := by rw [h]

theorem Part.TableAlone.of_smt (h : q.smt = p.smt) : p.TableAlone q := by
  unfold Part.TableAlone
  rw [h]

/-- The return leaves every walk, and the Receipt Queue. -/
theorem Part.TableAlone.returnAll (p : Part) : p.TableAlone p.returnAll := by
  have tail (q : Part) (slot : Slot) : q.TableAlone (q.returnTail (fun e => e.attempts) slot) := by
    unfold Part.returnTail
    (repeat' split) <;> rfl
  have tails (slots : List Slot) (q : Part) :
      q.TableAlone (slots.foldl (fun q slot => q.returnTail (fun e => e.attempts) slot) q) := by
    induction slots generalizing q with
    | nil => rfl
    | cons slot slots ih => exact (tail q slot).trans (ih _)
  have cleared (q : Part) : q.TableAlone (q.markRecall.mapEntries Entry.attemptsCleared) :=
    .trans (q := q.markRecall) (.of_smt (Part.markRecall_smt q)) rfl
  exact (tails _ p).trans (cleared _)

theorem Part.receipts_returnAll (p : Part) : p.returnAll.rpu.receipts = p.rpu.receipts := by
  have tail (q : Part) (slot : Slot) :
      (q.returnTail (fun e => e.attempts) slot).rpu.receipts = q.rpu.receipts := by
    unfold Part.returnTail
    (repeat' split) <;> rfl
  unfold Part.returnAll
  rw [Part.mapEntries_rpu, Part.markRecall_rpu]
  exact foldl_keeps _ (fun q => q.rpu.receipts) tail _ p

end Sys2Proof.Machine

namespace Sys2Proof.Machine

variable {p q r : Part}

/-! #### What fences leave of the Receipt Queue -/

theorem Part.receipts_closeEntry (p : Part) (slot : Slot) (e : Entry) :
    (p.closeEntry slot e).rpu.receipts = p.rpu.receipts := by
  unfold Part.closeEntry
  (repeat' split) <;> rfl

theorem Part.receipts_takeoverVisit (p : Part) (g : Group) : (p.takeoverVisit g).rpu.receipts = p.rpu.receipts := by
  have disposed (slot : Slot) (e : Entry) : (p.disposeExpired slot e).rpu.receipts = p.rpu.receipts := by
    unfold Part.disposeExpired
    split
    · rfl
    · exact p.receipts_closeEntry slot e
  have adopted (slot : Slot) (e : Entry) : (p.adopt slot e).rpu.receipts = p.rpu.receipts := by
    unfold Part.adopt
    split <;> rfl
  have visited (cursor : Nat) (e : Entry) : (p.visitEntry g cursor e).rpu.receipts = p.rpu.receipts := by
    unfold Part.visitEntry
    dsimp only
    split
    · rfl
    · split
      · rw [Part.walkPast_rpu, disposed]
      · split
        · rfl
        · rw [Part.walkPast_rpu, Part.writeRecord_rpu, adopted]
  unfold Part.takeoverVisit
  split
  · rfl
  · split
    · rfl
    · split
      · exact visited _ _
      · split <;> simp

theorem Part.receipts_takeoverEnd (p : Part) (g : Group) : (p.takeoverEnd g).rpu.receipts = p.rpu.receipts := by
  unfold Part.takeoverEnd
  (repeat' split) <;> rfl

theorem Part.receipts_retryWalk (p : Part) (g : Group) : (p.retryWalk g).rpu.receipts = p.rpu.receipts := by
  unfold Part.retryWalk
  split
  · split
    · rfl
    · split
      · rw [Part.receipts_takeoverVisit, Part.walkTo_rpu]
      · rw [Part.receipts_takeoverEnd, Part.walkTo_rpu]
  · rfl

theorem Part.receipts_serveFreed (p before : Part) : (p.serveFreed before).rpu.receipts = p.rpu.receipts := by
  unfold Part.serveFreed Part.serveWaiting
  (repeat' split) <;> simp [Part.receipts_retryWalk]

theorem Part.receipts_testQuorum (p : Part) : p.testQuorum.rpu.receipts = p.rpu.receipts := by
  have fenced (q : Part) : q.fenceAll.rpu.receipts = q.rpu.receipts := by
    unfold Part.fenceAll
    rw [Part.receipts_serveFreed]
    simp
  unfold Part.testQuorum Part.applyFence
  split
  · split
    · rfl
    · exact fenced _
  · rfl

/-! #### The test for NO_QUORUM (R138, R140) -/

theorem Part.SameView.refl (p : Part) (g : Group) : p.SameView p g := ⟨⟨rfl, rfl, rfl⟩, rfl⟩

theorem Part.SameWorld.trans (h : p.SameWorld q) (h' : q.SameWorld r) : p.SameWorld r :=
  ⟨h'.profile.trans h.profile, h'.clock.trans h.clock, h'.ppu.trans h.ppu⟩

theorem Part.SameView.trans {g : Group} (h : p.SameView q g) (h' : q.SameView r g) : p.SameView r g :=
  ⟨h.toSameWorld.trans h'.toSameWorld, h'.group.trans h.group⟩

theorem Part.SameWorld.quorumLost (h : p.SameWorld q) (hr : ∀ g, (q.role g).serving = (p.role g).serving) :
    q.quorumLost = p.quorumLost := by
  simp [Part.quorumLost, h.isMember, h.witnessConfigured, h.otherLive, h.peerLive, hr]

theorem Part.sameWorld_testQuorum (p : Part) : p.SameWorld p.testQuorum := ⟨by simp, by simp, by simp⟩

/-- The test leaves a group as it is or fences it. -/
theorem Part.testQuorum_cases (p : Part) (g : Group) :
    p.SameView p.testQuorum g ∨ p.testQuorum.group g = (p.group g).enter .fenced := by
  cases hl : p.quorumLost
  · rw [Part.testQuorum_of_not p hl]
    exact .inl (.refl p g)
  · have htest : p.testQuorum = p.applyFence { p.rcu.fence with noQuorum := true } := if_pos hl
    have hworld := p.sameWorld_testQuorum
    rw [htest] at hworld ⊢
    cases hany : p.rcu.fence.any
    · rw [Part.applyFence_first _ _ hany] at hworld ⊢
      have hgroup := Part.group_fenceAll (p.setFence { p.rcu.fence with noQuorum := true }) g
      split at hgroup
      · exact .inr hgroup
      · exact .inl ⟨hworld, hgroup⟩
    · rw [Part.applyFence_of_any _ _ hany] at hworld ⊢
      exact .inl ⟨hworld, rfl⟩

/-- The quorum that is lost as the first cause fences an ACTIVE group. -/
theorem Part.testQuorum_fences (hl : p.quorumLost = true) (hany : p.rcu.fence.any = false) {g : Group}
    (hr : p.role g = .active) :
    p.testQuorum.group g = (p.group g).enter .fenced ∧ p.testQuorum.rcu.fence.noQuorum = true := by
  have htest : p.testQuorum = p.applyFence { p.rcu.fence with noQuorum := true } := if_pos hl
  rw [htest]
  refine ⟨?_, by rw [Part.fence_applyFence]⟩
  rw [Part.applyFence_first _ _ hany]
  exact (Part.group_fenceAll _ g).trans (if_pos (show p.role g ≠ .dormant ∧ p.role g ≠ .fenced by simp [hr]))

theorem Part.testQuorum_of_walks (h : p.WalksServeActive) :
    p.testQuorum.smt.table = p.smt.table ∧ p.testQuorum.rpu = p.rpu := by
  unfold Part.testQuorum
  split
  · exact Part.applyFence_of_walks _ h
  · exact ⟨rfl, rfl⟩

/-! #### The other member is LOST (R125, R135, R138) -/

/-- Both groups meet the loss. -/
def Part.lossMeetsGroups (p : Part) : Part := (p.lossMeetsGroup .g0).lossMeetsGroup .g1

/-- The two orders that a free choice decides between (log 10). -/
theorem Part.otherLost_cases (p : Part) :
    p.otherLost = p.drawn.testQuorum.lossMeetsGroups.evaluateAll
      ∨ p.otherLost = p.drawn.lossMeetsGroups.testQuorum.evaluateAll := by
  cases hc : p.choice
  · exact .inr (congrArg Part.evaluateAll (if_neg (by simp [hc])))
  · exact .inl (congrArg Part.evaluateAll (if_pos hc))

theorem Part.sameView_drawn (p : Part) (g : Group) : p.SameView p.drawn g := ⟨⟨rfl, rfl, rfl⟩, rfl⟩

/-- A loss leaves a group as it is, or brings it to STANDBY (R125, R135). -/
theorem Part.lossMeetsGroup_cases (p : Part) (g : Group) :
    p.lossMeetsGroup g = p ∨ ∃ cause, p.lossMeetsGroup g = p.enterStandby g cause := by
  unfold Part.lossMeetsGroup
  split
  · split
    · split
      · exact .inr ⟨_, rfl⟩
      · exact .inl rfl
    · exact .inl rfl
  · exact .inr ⟨_, rfl⟩
  · exact .inl rfl

theorem Part.sameWorld_lossMeetsGroup (p : Part) (g : Group) : p.SameWorld (p.lossMeetsGroup g) :=
  ⟨by simp, by simp, by simp⟩

theorem Part.group_lossMeetsGroup_ne (p : Part) {g h : Group} (hne : h ≠ g) :
    (p.lossMeetsGroup g).group h = p.group h := by
  rcases p.lossMeetsGroup_cases g with hl | ⟨cause, hl⟩ <;> rw [hl]
  exact p.group_enterStandby_ne hne cause

theorem Part.lossMeetsGroups_view (p : Part) (g : Group) :
    ∃ x, p.SameView x g ∧ (x.lossMeetsGroup g).SameView p.lossMeetsGroups g :=
  Part.each_group (f := fun g q => q.lossMeetsGroup g) Part.group_lossMeetsGroup_ne Part.sameWorld_lossMeetsGroup p g

theorem Part.lossMeetsGroup_yielding {g : Group} (h : p.role g = .yielding) :
    p.lossMeetsGroup g = p.enterStandby g .peerLost := by simp [Part.lossMeetsGroup, h]

/-- A claim that stands at the loss: not a PREEMPT, or one already conceded (R125, R126). -/
def ClaimRecord.standsLoss (c : ClaimRecord) : Prop :=
  c.kind ≠ .preempt ∨ ∃ v, c.activeVerdict = some v ∧ v.verdict = .concede

theorem ClaimRecord.standsLoss_iff (c : ClaimRecord) (p : Part) :
    c.standsLoss ↔ ¬ (c.kind = .preempt ∧ p.claimWins c = false) := by
  unfold ClaimRecord.standsLoss Part.claimWins
  cases hk : c.kind <;> cases hv : c.activeVerdict <;> simp

theorem Part.lossMeetsGroup_claiming {g : Group} {own : ClaimRecord} (h : p.role g = .claiming)
    (hc : (p.group g).claim = some own) :
    (own.standsLoss → p.lossMeetsGroup g = p) ∧ (¬ own.standsLoss → p.lossMeetsGroup g = p.enterStandby g .claimFailed) := by
  have hplain : p.failClaim g false = p.enterStandby g .claimFailed := rfl
  rw [own.standsLoss_iff p]
  refine ⟨fun hs => ?_, fun hs => ?_⟩
  · simp only [Part.lossMeetsGroup, h, hc, if_neg hs]
  · simp only [Part.lossMeetsGroup, h, hc, if_pos (not_not.1 hs), hplain]

/-- Every other role stands (R135). -/
theorem Part.lossMeetsGroup_rest {g : Group} (hc : p.role g ≠ .claiming) (hy : p.role g ≠ .yielding) :
    p.lossMeetsGroup g = p := by
  unfold Part.lossMeetsGroup
  split
  · contradiction
  · contradiction
  · rfl

/-- A group whose role is neither CLAIMING nor YIELDING keeps its record as the groups meet the loss. -/
theorem Part.group_lossMeetsGroups_rest {g : Group} (hc : p.role g ≠ .claiming) (hy : p.role g ≠ .yielding) :
    p.SameView p.lossMeetsGroups g := by
  obtain ⟨x, hx, hv⟩ := p.lossMeetsGroups_view g
  rw [Part.lossMeetsGroup_rest (by rwa [hx.role]) (by rwa [hx.role])] at hv
  exact hx.trans hv

theorem Part.serving_enterStandby (p : Part) (g : Group) (cause : RoleCause) :
    ((p.enterStandby g cause).role g).serving = false := by
  rw [Part.role, Part.group_enterStandby]
  cases p.freshClaim g <;> rfl

/-- The loss ends serving and starts none. -/
theorem Part.serving_lossMeetsGroups (p : Part) (g : Group) (h : (p.lossMeetsGroups.role g).serving = true) :
    p.lossMeetsGroups.role g = p.role g := by
  obtain ⟨x, hx, hv⟩ := p.lossMeetsGroups_view g
  have hserving : ((x.lossMeetsGroup g).role g).serving = true := by rw [← hv.role]; exact h
  have hsame : x.lossMeetsGroup g = x := by
    have left (cause : RoleCause) (he : x.lossMeetsGroup g = x.enterStandby g cause) : False := by
      rw [he, Part.serving_enterStandby] at hserving
      cases hserving
    cases hr : x.role g
    case yielding => exact (left _ (Part.lossMeetsGroup_yielding hr)).elim
    case claiming =>
      cases hc : (x.group g).claim with
      | none => simp [Part.lossMeetsGroup, hr, hc]
      | some own =>
        obtain ⟨hstands, hfails⟩ := Part.lossMeetsGroup_claiming hr hc
        by_cases hs : own.standsLoss
        · exact hstands hs
        · exact (left _ (hfails hs)).elim
    all_goals exact Part.lossMeetsGroup_rest (by simp [hr]) (by simp [hr])
  rw [hv.role, hsame, hx.role]

theorem Part.sameWorld_lossMeetsGroups (p : Part) : p.SameWorld p.lossMeetsGroups :=
  (p.sameWorld_lossMeetsGroup .g0).trans (Part.sameWorld_lossMeetsGroup _ .g1)

/-- Where a quorum is held the order is of no account. -/
theorem Part.otherLost_quorate (h : p.quorumLost = false) : p.otherLost = p.drawn.lossMeetsGroups.evaluateAll := by
  have hdrawn : p.drawn.quorumLost = false := h
  have hgroups : p.drawn.lossMeetsGroups.quorumLost = false := by
    have w := p.drawn.sameWorld_lossMeetsGroups
    have serves (g : Group) : (p.drawn.lossMeetsGroups.role g).serving = true → (p.drawn.role g).serving = true := by
      intro hs
      rwa [← Part.serving_lossMeetsGroups _ g hs]
    have h0 := serves .g0
    have h1 := serves .g1
    simp only [Part.quorumLost, w.isMember, w.witnessConfigured, w.otherLive, w.peerLive] at hdrawn ⊢
    cases ha : (p.drawn.lossMeetsGroups.role .g0).serving <;> cases hb : (p.drawn.lossMeetsGroups.role .g1).serving <;>
      simp_all
  rcases p.otherLost_cases with ho | ho
  · rw [ho, Part.testQuorum_of_not _ hdrawn]
  · rw [ho, Part.testQuorum_of_not _ hgroups]

/-- The yielding of a group ends (R135). -/
theorem Part.otherLost_yielding {g : Group} (h : p.role g = .yielding) :
    p.otherLost.role g ≠ .yielding ∧ (p.otherLost.group g).pendingFrame = none := by
  have entered {q x : Part} {cause : RoleCause} (hq : (x.enterStandby g cause).SameView q g) :
      q.evaluateAll.role g ≠ .yielding ∧ (q.evaluateAll.group g).pendingFrame = none := by
    have hgroup := Part.group_evaluateAll_of_enterStandby hq
    have hserving := x.serving_enterStandby g cause
    rw [Part.role, hgroup]
    refine ⟨fun hy => ?_, x.pendingFrame_enterStandby g cause⟩
    rw [Part.role, hy] at hserving
    cases hserving
  have fenced {q : Part} {old : GroupRec} (hq : q.group g = old.enter .fenced) :
      q.evaluateAll.role g ≠ .yielding ∧ (q.evaluateAll.group g).pendingFrame = none := by
    have hr : q.role g = .fenced := congrArg GroupRec.role hq
    rw [Part.role, Part.group_evaluateAll_rest (by simp [hr]) (by simp [hr]), hq]
    exact ⟨nofun, rfl⟩
  rcases p.otherLost_cases with ho | ho <;> rw [ho]
  · rcases p.drawn.testQuorum_cases g with hs | hf
    · obtain ⟨x, hx, hv⟩ := p.drawn.testQuorum.lossMeetsGroups_view g
      rw [Part.lossMeetsGroup_yielding (hx.role.trans (hs.role.trans h))] at hv
      exact entered hv
    · have hr : p.drawn.testQuorum.role g = .fenced := congrArg GroupRec.role hf
      exact fenced ((Part.group_lossMeetsGroups_rest (by simp [hr]) (by simp [hr])).group.trans hf)
  · obtain ⟨x, hx, hv⟩ := p.drawn.lossMeetsGroups_view g
    rw [Part.lossMeetsGroup_yielding (hx.role.trans h)] at hv
    rcases p.drawn.lossMeetsGroups.testQuorum_cases g with hs | hf
    · exact entered (hv.trans hs)
    · exact fenced hf

/-- NO_QUORUM as the first cause fences an ACTIVE group, in either order. -/
theorem Part.otherLost_fences (hl : p.quorumLost = true) (hany : p.rcu.fence.any = false) {g : Group}
    (hr : p.role g = .active) :
    p.otherLost.role g = .fenced ∧ (p.otherLost.group g).fp = false ∧ p.otherLost.rcu.fence.noQuorum = true := by
  have alone (q : Part) (h : Group) : q.GroupsAlone (q.lossMeetsGroup h) := by
    have left (cause : RoleCause) : q.GroupsAlone (q.enterStandby h cause) :=
      (Part.GroupsAlone.setRole q h .standby cause).trans (.evalStandby _ h)
    rcases q.lossMeetsGroup_cases h with hl | ⟨cause, hl⟩ <;> rw [hl]
    · rfl
    · exact left cause
  have groups (q : Part) : q.lossMeetsGroups.rcu.fence = q.rcu.fence := ((alone q .g0).trans (alone _ .g1)).fence
  have evaluated {q : Part} (hq : q.group g = (p.group g).enter .fenced) (hf : q.rcu.fence.noQuorum = true) :
      q.evaluateAll.role g = .fenced ∧ (q.evaluateAll.group g).fp = false
        ∧ q.evaluateAll.rcu.fence.noQuorum = true := by
    have hfenced : q.role g = .fenced := congrArg GroupRec.role hq
    rw [Part.role, Part.group_evaluateAll_rest (by simp [hfenced]) (by simp [hfenced]), hq,
      (Part.GroupsAlone.evaluateAll q).fence]
    exact ⟨rfl, rfl, hf⟩
  rcases p.otherLost_cases with ho | ho <;> rw [ho]
  · obtain ⟨hgroup, hfence⟩ := Part.testQuorum_fences (p := p.drawn) hl hany hr
    have hfenced : p.drawn.testQuorum.role g = .fenced := congrArg GroupRec.role hgroup
    exact evaluated ((Part.group_lossMeetsGroups_rest (by simp [hfenced]) (by simp [hfenced])).group.trans hgroup)
      (by rw [groups]; exact hfence)
  · have hactive : p.drawn.role g = .active := hr
    have hv := Part.group_lossMeetsGroups_rest (p := p.drawn) (g := g) (by simp [hactive]) (by simp [hactive])
    have hlost : p.drawn.lossMeetsGroups.quorumLost = true := by
      have hd : p.drawn.quorumLost = true := hl
      have hserves : (p.drawn.lossMeetsGroups.role g).serving = true := by rw [hv.role, hactive]; rfl
      simp only [Part.quorumLost, hv.isMember, hv.witnessConfigured, hv.otherLive, hv.peerLive] at hd ⊢
      cases g <;> simp_all
    obtain ⟨hgroup, hfence⟩ := Part.testQuorum_fences hlost (by rw [groups]; exact hany) (hv.role.trans hactive)
    exact evaluated (by rw [hgroup, hv.group]; rfl) hfence

/-- With takeover walks for ACTIVE groups alone, the roles' part of the loss moves no entry and no list. -/
theorem Part.otherLost_of_walks (h : p.WalksServeActive) :
    p.otherLost.smt.table = p.smt.table ∧ p.otherLost.rpu = p.rpu := by
  have hgroups : p.drawn.lossMeetsGroups.WalksServeActive := by
    intro g hw
    have hactive : p.drawn.role g = .active := h g (by simpa [Part.lossMeetsGroups] using hw)
    exact (Part.group_lossMeetsGroups_rest (by simp [hactive]) (by simp [hactive])).role.trans hactive
  rcases p.otherLost_cases with ho | ho <;> rw [ho]
  · obtain ⟨htable, hrpu⟩ := Part.testQuorum_of_walks (p := p.drawn) h
    simp [Part.lossMeetsGroups, htable, hrpu]
  · obtain ⟨htable, hrpu⟩ := Part.testQuorum_of_walks hgroups
    rw [Part.evaluateAll_smt, htable, Part.evaluateAll_rpu, hrpu]
    simp [Part.lossMeetsGroups]

theorem Part.receipts_otherLost (p : Part) : p.otherLost.rpu.receipts = p.rpu.receipts := by
  rcases p.otherLost_cases with ho | ho <;> rw [ho] <;>
    simp [Part.lossMeetsGroups, Part.receipts_testQuorum]

end Sys2Proof.Machine

namespace Sys2Proof.Machine

variable {p q r : Part}

/-- An open claim at the loss, where a quorum is held (R125, R126). -/
theorem Part.otherLost_claiming (hl : p.quorumLost = false) {g : Group} {own : ClaimRecord} (hr : p.role g = .claiming)
    (hc : (p.group g).claim = some own) :
    (own.standsLoss → p.otherLost.group g = p.group g)
      ∧ (¬ own.standsLoss → ∃ x, p.SameView x g ∧ p.otherLost.group g = (x.enterStandby g .claimFailed).group g) := by
  rw [Part.otherLost_quorate hl]
  obtain ⟨x, hx, hv⟩ := p.drawn.lossMeetsGroups_view g
  have hpx := (p.sameView_drawn g).trans hx
  have hrx : x.role g = .claiming := hpx.role.trans hr
  obtain ⟨hstands, hfails⟩ := Part.lossMeetsGroup_claiming hrx (by rw [hpx.group]; exact hc)
  refine ⟨fun hs => ?_, fun hs => ⟨x, hpx, ?_⟩⟩
  · rw [hstands hs] at hv
    have hrole := hv.role.trans hrx
    rw [Part.group_evaluateAll_rest (by simp [hrole]) (by simp [hrole]), hv.group, hpx.group]
  · rw [hfails hs] at hv
    exact Part.group_evaluateAll_of_enterStandby hv

/-- While the other member is not LIVE the only fresh claim is a VACANT one (R120, R121). -/
theorem Part.freshClaim_lost {g : Group} (h : p.otherLive = false) :
    p.freshClaim g = if (p.ppu.merits.get g ≠ 0 ∧ (p.group g).holdOff = none
        ∧ (p.witnessConfigured = false ∨ (p.peerLive .s2 = true ∧ p.witnessHearsNeither = true)))
      then some .vacant else none := by
  have hmerit : 0 < p.merit g ↔ p.ppu.merits.get g ≠ 0 := by
    rw [Part.merit, Nat.pos_iff_ne_zero, ne_eq, ne_eq, BitVec.toNat_eq]
    simp
  have hpre : p.preemptConditions g = false := by simp [Part.preemptConditions, h]
  have hoff : p.heldOff g = false ↔ (p.group g).holdOff = none := by simp [Part.heldOff]
  unfold Part.freshClaim
  rw [hpre]
  congr 1
  simp [h, hmerit, hoff, and_assoc]

/-! #### A peer that is LOST (R94, R95, R111, R115) -/

/-- The part as station `y`'s record becomes LOST: the record, its notice, its copy expectation, the working lane. -/
def Part.lostPeer (p : Part) (y : Station) : Part :=
  (((p.setPeer y { p.peer y with state := .lost }).peerNotice y).setExpect y none).chooseLane

section lostPeer

variable (p) (y : Station)

@[simp] theorem Part.lostPeer_profile : (p.lostPeer y).profile = p.profile := by simp [Part.lostPeer]
@[simp] theorem Part.lostPeer_clock : (p.lostPeer y).clock = p.clock := by simp [Part.lostPeer]
@[simp] theorem Part.lostPeer_smt : (p.lostPeer y).smt = p.smt := by simp [Part.lostPeer]
@[simp] theorem Part.lostPeer_rpu : (p.lostPeer y).rpu = p.rpu := by simp [Part.lostPeer]
@[simp] theorem Part.lostPeer_rcu : (p.lostPeer y).rcu = p.rcu := by simp [Part.lostPeer]

theorem Part.isMember_lostPeer : (p.lostPeer y).isMember = p.isMember := by
  unfold Part.isMember Part.self
  rw [Part.lostPeer_profile]

theorem Part.otherMember_lostPeer : (p.lostPeer y).otherMember = p.otherMember := by
  unfold Part.otherMember Part.self
  rw [Part.lostPeer_profile]

theorem Part.lostPeer_ppu :
    (p.lostPeer y).ppu = { p.ppu with peers := p.ppu.peers.set y { p.peer y with state := .lost } } := by
  simp [Part.lostPeer, Part.setPeer]

/-- What it makes of the bus. -/
theorem Part.lostPeer_mbi : (p.lostPeer y).mbi = { p.mbi with
    expect := p.mbi.expect.set y none, workingLane := (p.lostPeer y).mbi.workingLane } := by
  have hnotice := Part.peerNotice_mbi (p.setPeer y { p.peer y with state := .lost }) y
  unfold Part.lostPeer Part.chooseLane Part.setExpect
  rw [hnotice]
  rfl

theorem Part.peer_lostPeer (z : Station) :
    (p.lostPeer y).peer z = if z = y then { p.peer y with state := .lost } else p.peer z := by
  rw [Part.peer, Part.lostPeer_ppu]
  exact PerStation.get_set _ _ _ _

theorem Part.lostPeer_egress (hm : p.evp.peerMarks.get y = false) (ho : p.evp.egress.length < 64) :
    (p.lostPeer y).evp.egress = p.evp.egress ++ [.peer y .lost (p.peer y).incarnation] := by
  have hplaced := Part.peerNotice_placed (p := p.setPeer y { p.peer y with state := .lost }) hm ho
  unfold Part.lostPeer
  rw [Part.chooseLane_evp, Part.setExpect_evp, hplaced]
  simp [Part.withEgress]

end lostPeer

theorem Part.lose_other {y : Station} (hm : p.isMember = true) (hy : y = p.otherMember) :
    p.lose y = (p.lostPeer y).returnAll.otherLost :=
  (if_pos ((p.isMember_lostPeer y).trans hm)).trans (if_pos (hy.trans (p.otherMember_lostPeer y).symm))

theorem Part.lose_third {y : Station} (hm : p.isMember = true) (hy : y ≠ p.otherMember) :
    p.lose y = (p.lostPeer y).testQuorum.evaluateAll :=
  (if_pos ((p.isMember_lostPeer y).trans hm)).trans (if_neg fun h => hy (h.trans (p.otherMember_lostPeer y)))

theorem Part.lose_witness {y : Station} (hm : p.isMember = false) : p.lose y = p.lostPeer y :=
  if_neg (Bool.eq_false_iff.1 ((p.isMember_lostPeer y).trans hm))

theorem Part.Notices.lossMeetsGroup (p : Part) (g : Group) : p.Notices (p.lossMeetsGroup g) := by
  rcases p.lossMeetsGroup_cases g with h | ⟨cause, h⟩ <;> rw [h]
  · exact refl p
  · exact enterStandby p g cause

theorem Part.Notices.otherLost (p : Part) : p.Notices p.otherLost := by
  have groups (q : Part) : q.Notices q.lossMeetsGroups := (lossMeetsGroup q .g0).trans (lossMeetsGroup _ .g1)
  have drawn : p.Notices p.drawn := of_evp rfl
  rcases p.otherLost_cases with ho | ho <;> rw [ho]
  · exact ((drawn.trans (testQuorum _)).trans (groups _)).trans (evaluateAll _)
  · exact ((drawn.trans (groups _)).trans (testQuorum _)).trans (evaluateAll _)

theorem Part.RoleFramesAlone.otherLost (p : Part) : p.RoleFramesAlone p.otherLost := by
  have group (q : Part) (g : Group) : q.RoleFramesAlone (q.lossMeetsGroup g) := by
    rcases q.lossMeetsGroup_cases g with h | ⟨cause, h⟩ <;> rw [h]
    exact enterStandby q g cause
  have groups (q : Part) : q.RoleFramesAlone q.lossMeetsGroups := (group q .g0).trans (group _ .g1)
  have drawn : p.RoleFramesAlone p.drawn := rfl
  rcases p.otherLost_cases with ho | ho <;> rw [ho]
  · exact ((drawn.trans (testQuorum _)).trans (groups _)).trans (evaluateAll _)
  · exact ((drawn.trans (groups _)).trans (testQuorum _)).trans (evaluateAll _)

/-- What the consequences of a loss leave, whichever station is lost. -/
theorem Part.lose_leaves (p : Part) (y : Station) :
    (p.lose y).ppu = (p.lostPeer y).ppu ∧ (p.lostPeer y).RoleFramesAlone (p.lose y) ∧ (p.lostPeer y).Notices (p.lose y)
      ∧ (p.lose y).clock = p.clock ∧ (p.lose y).profile = p.profile := by
  cases hm : p.isMember
  · rw [Part.lose_witness hm]
    exact ⟨rfl, rfl, .refl _, by simp, by simp⟩
  · by_cases hy : y = p.otherMember
    · rw [Part.lose_other hm hy]
      exact ⟨by simp, (Part.RoleFramesAlone.otherLost _).from_mbi (by simp),
        (Part.Notices.otherLost _).from_evp (by simp), by simp, by simp⟩
    · rw [Part.lose_third hm hy]
      exact ⟨by simp, (Part.RoleFramesAlone.testQuorum _).trans (.evaluateAll _),
        (Part.Notices.testQuorum _).trans (.evaluateAll _), by simp, by simp⟩

theorem otherMemberOf_ne_witness (x : Station) : otherMemberOf x ≠ .s2 := by cases x <;> decide

end Sys2Proof.Machine

namespace Sys2Proof.Machine

variable {p q r : Part}

theorem Part.peerLive_lostPeer (p : Part) (y z : Station) :
    (p.lostPeer y).peerLive z = (decide (z ≠ y) && p.peerLive z) := by
  unfold Part.peerLive
  rw [Part.peer_lostPeer]
  by_cases hz : z = y <;> simp [hz]

theorem Part.sameWorld_returnAll (p : Part) : p.SameWorld p.returnAll := ⟨by simp, by simp, by simp⟩

theorem Part.role_returnAll (p : Part) (g : Group) : p.returnAll.role g = p.role g := by simp [Part.role, Part.group]

theorem Part.quorumLost_returnAll (p : Part) : p.returnAll.quorumLost = p.quorumLost :=
  p.sameWorld_returnAll.quorumLost fun g => by rw [Part.role_returnAll]

theorem Part.group_lostPeer (p : Part) (y : Station) (g : Group) : (p.lostPeer y).group g = p.group g := by simp [Part.group]

theorem Part.agree_lostPeer (h : p.Agree) (y : Station) : (p.lostPeer y).Agree :=
  (Part.Keeps.of_eq (p.lostPeer_smt y) (p.lostPeer_rpu y)).agree h

/-- The loss of the other member in the Replication Unit and the table (R55). -/
theorem Part.lose_replication {y : Station} (hm : p.isMember = true) (hy : y = p.otherMember) (h : p.Agree)
    (hw : p.WalksServeActive) :
    (p.lose y).rpu = { p.rpu with
        sendList := p.rpu.sendList ++ p.completedSlots
        inFlight := p.rpu.inFlight.filter fun r => r.transmitting
        recallMark := p.rpu.recallMark || p.mbi.inHand.any fun h => h.frame.session }
      ∧ ∀ x, (p.lose y).entry x = (p.entry x).map fun e => e.broughtBack (x ∈ p.completedSlots) := by
  have hagree := Part.agree_lostPeer h y
  have hslots : (p.lostPeer y).completedSlots = p.completedSlots := by
    unfold Part.completedSlots
    rw [Part.lostPeer_rpu]
  have hwalks : (p.lostPeer y).returnAll.WalksServeActive := by
    intro g hg
    rw [(Part.TableAlone.returnAll _).takeover, Part.lostPeer_smt] at hg
    rw [Part.role_returnAll, Part.role, Part.group_lostPeer]
    exact hw g hg
  obtain ⟨htable, hrpu⟩ := Part.otherLost_of_walks hwalks
  rw [Part.lose_other hm hy]
  refine ⟨?_, fun x => ?_⟩
  · rw [hrpu, Part.rpu_returnAll hagree, hslots, Part.lostPeer_rpu, Part.lostPeer_mbi]
  · rw [Part.entry, htable]
    refine (Part.entry_returnAll hagree x).trans ?_
    rw [hslots, Part.entry, Part.lostPeer_smt]
    rfl

theorem Part.quorumHeld_of_claiming {g : Group} (hr : p.role g = .claiming)
    (h : p.witnessConfigured = false ∨ p.peerLive .s2 = true ∨ (p.role g.other).serving = false) :
    p.quorumLost = false := by
  have hother : (p.role g).serving = false := by rw [hr]; rfl
  unfold Part.quorumLost
  rcases h with h | h | h
  · simp [h]
  · simp [h]
  · cases g <;> simp_all [Group.other]

/-- The view of group `g` that a member has once the other one is LOST. -/
theorem Part.view_lost {y : Station} (hy : y = p.otherMember) :
    (p.lostPeer y).returnAll.otherLive = false
      ∧ (p.lostPeer y).returnAll.peerLive .s2 = p.peerLive .s2
      ∧ (p.lostPeer y).returnAll.witnessHearsNeither = p.witnessHearsNeither
      ∧ (p.lostPeer y).returnAll.witnessConfigured = p.witnessConfigured
      ∧ (p.lostPeer y).returnAll.ppu.merits = p.ppu.merits
      ∧ ∀ g, (p.lostPeer y).returnAll.group g = p.group g := by
  have w := (p.lostPeer y).sameWorld_returnAll
  have hne : Station.s2 ≠ y := fun h => otherMemberOf_ne_witness p.self (hy.symm.trans h.symm)
  have hs2 : (p.lostPeer y).peer .s2 = p.peer .s2 := (p.peer_lostPeer y .s2).trans (if_neg hne)
  refine ⟨?_, ?_, ?_, ?_, ?_, fun g => ?_⟩
  · rw [w.otherLive, Part.otherLive, Part.peerLive_lostPeer, Part.otherMember_lostPeer, hy]
    simp
  · rw [w.peerLive, Part.peerLive_lostPeer]
    simp [hne]
  · rw [w.witnessHearsNeither]
    simp [Part.witnessHearsNeither, hs2, Part.otherMember_lostPeer]
  · rw [w.witnessConfigured]
    simp [Part.witnessConfigured]
  · rw [Part.returnAll_ppu, Part.lostPeer_ppu]
  · simp [Part.group]

/-- An open claim at the loss of the other member (R125, R126): it stands, or enters STANDBY on the view that the loss leaves. -/
theorem Part.lose_claiming {y : Station} {g : Group} {own : ClaimRecord} (hm : p.isMember = true)
    (hy : y = p.otherMember) (hr : p.role g = .claiming) (hc : (p.group g).claim = some own)
    (hq : p.witnessConfigured = false ∨ p.peerLive .s2 = true ∨ (p.role g.other).serving = false) :
    (own.standsLoss → (p.lose y).group g = p.group g)
      ∧ (¬ own.standsLoss → ∃ x : Part, (x.group g) = p.group g
        ∧ x.freshClaim g = (if (p.ppu.merits.get g ≠ 0 ∧ (p.group g).holdOff = none
            ∧ (p.witnessConfigured = false ∨ (p.peerLive .s2 = true ∧ p.witnessHearsNeither = true)))
          then some .vacant else none)
        ∧ (p.lose y).group g = (x.enterStandby g .claimFailed).group g) := by
  obtain ⟨hlive, hs2, hhears, hwitness, hmerits, hgroup⟩ := p.view_lost hy
  have hrole (h : Group) : (p.lostPeer y).returnAll.role h = p.role h := congrArg GroupRec.role (hgroup h)
  have hheld : (p.lostPeer y).returnAll.quorumLost = false :=
    Part.quorumHeld_of_claiming (g := g) ((hrole g).trans hr) (by rw [hwitness, hs2, hrole]; exact hq)
  rw [Part.lose_other hm hy]
  obtain ⟨hstands, hfails⟩ := Part.otherLost_claiming hheld ((hrole g).trans hr) (by rw [hgroup]; exact hc)
  refine ⟨fun hs => (hstands hs).trans (hgroup g), fun hs => ?_⟩
  obtain ⟨x, hx, hgx⟩ := hfails hs
  refine ⟨x, hx.group.trans (hgroup g), ?_, hgx⟩
  have hfresh := Part.freshClaim_lost (g := g) (hx.otherLive.trans hlive)
  rw [hx.ppu, hmerits, hx.group, hgroup, hx.witnessConfigured, hwitness, hx.peerLive, hs2, hx.witnessHearsNeither,
    hhears] at hfresh
  exact hfresh

/-- A loss that leaves neither other station LIVE fences an ACTIVE group where a witness is configured (R138). -/
theorem Part.lose_fences {y : Station} {g : Group} (hm : p.isMember = true) (hw : p.witnessConfigured = true)
    (hany : p.rcu.fence.any = false) (ho : p.peerLive p.otherMember = false ∨ y = p.otherMember)
    (hs : p.peerLive .s2 = false ∨ y = .s2) (hr : p.role g = .active) :
    (p.lose y).role g = .fenced ∧ ((p.lose y).group g).fp = false ∧ (p.lose y).rcu.fence.noQuorum = true := by
  have gone {z : Station} (hz : p.peerLive z = false ∨ y = z) : (p.lostPeer y).peerLive z = false := by
    rw [Part.peerLive_lostPeer]
    rcases hz with hz | hz <;> simp [hz]
  have hrole : (p.lostPeer y).role g = .active := by rw [Part.role, Part.group_lostPeer]; exact hr
  have hwc : (p.lostPeer y).witnessConfigured = true := by simpa [Part.witnessConfigured] using hw
  have hlost : (p.lostPeer y).quorumLost = true := by
    have hgone := gone ho
    rw [← p.otherMember_lostPeer y] at hgone
    simp only [Part.quorumLost, Part.isMember_lostPeer, hm, hwc, Part.otherLive, hgone, gone hs]
    cases g <;> simp [hrole, Role.serving]
  have hnone : (p.lostPeer y).rcu.fence.any = false := by rw [Part.lostPeer_rcu]; exact hany
  by_cases hy : y = p.otherMember
  · rw [Part.lose_other hm hy]
    exact Part.otherLost_fences ((Part.quorumLost_returnAll _).trans hlost) (by rw [Part.returnAll_rcu]; exact hnone)
      ((Part.role_returnAll _ _).trans hrole)
  · rw [Part.lose_third hm hy]
    obtain ⟨hgroup, hfence⟩ := Part.testQuorum_fences hlost hnone hrole
    have hfenced : (p.lostPeer y).testQuorum.role g = .fenced := congrArg GroupRec.role hgroup
    rw [Part.role, Part.group_evaluateAll_rest (by simp [hfenced]) (by simp [hfenced]), hgroup,
      (Part.GroupsAlone.evaluateAll _).fence]
    exact ⟨rfl, rfl, hfence⟩

theorem Part.lose_yielding {y : Station} {g : Group} (hm : p.isMember = true) (hy : y = p.otherMember)
    (hr : p.role g = .yielding) : (p.lose y).role g ≠ .yielding ∧ ((p.lose y).group g).pendingFrame = none := by
  rw [Part.lose_other hm hy]
  exact Part.otherLost_yielding (by rw [Part.role_returnAll, Part.role, Part.group_lostPeer]; exact hr)

theorem Part.lose_receipts {y : Station} (hm : p.isMember = true) (hy : y = p.otherMember) :
    (p.lose y).rpu.receipts = p.rpu.receipts := by
  rw [Part.lose_other hm hy, Part.receipts_otherLost, Part.receipts_returnAll, Part.lostPeer_rpu]

theorem Part.act_liveness {y : Station} {t0 : Tick} (hl : (p.peer y).state = .live) (ht : (p.peer y).lastHeard = some t0) :
    p.act (.livenessTimerExpiry y) = if p.holdDown ≤ (p.clock - t0).toNat then p.lose y else p := by
  change p.onlyIf (p.silentFor y) (fun q => q.lose y) = _
  have hsilent : p.silentFor y = decide (p.holdDown ≤ (p.clock - t0).toNat) := by
    simp only [Part.silentFor, Part.peerLive, hl, ht, decide_true, Bool.true_and]
    rfl
  rw [Part.onlyIf, hsilent]
  exact if_congr decide_eq_true_iff rfl rfl

/-- Settles O38: the record and its notice (`Part.lostPeer`), the records that return (`Part.lose_replication`), the roles
(`Part.lose_yielding`, `Part.lose_claiming`, `Part.lose_fences`). -/
theorem silenceLosesThePeer : Obligations.SilenceLosesThePeer := by
  intro s y t0 hr hlive ht
  have hact := Part.act_liveness (p := s.toPart) hlive ht
  refine ⟨fun hsilent => ?lost, fun hheard => exec_of_act hr (hact.trans (if_neg (by omega)))⟩
  have hexec := exec_of_act hr (hact.trans (if_pos hsilent))
  obtain ⟨hppu, hbus, ⟨notices, hnotices, -⟩, hclock, hprofile⟩ := s.toPart.lose_leaves y
  refine ⟨_, hexec, hppu.trans (s.toPart.lostPeer_ppu y), ?expect, fun hmark hroom => ?notice,
    fun hm hy => ⟨fun hagree hw => ?returned, Part.lose_receipts hm hy, fun g hy' => Part.lose_yielding hm hy hy',
      fun g own hrole hclaim hq => ?claim⟩,
    fun hm hw hany ho hs g hactive => Part.lose_fences hm hw hany ho hs hactive, hclock, hprofile⟩
  case expect =>
    change (s.lose y).mbi.expect.get y = none
    rw [hbus.expect, Part.lostPeer_mbi]
    exact PerStation.get_set_same _ _ _
  case notice =>
    rw [Part.lostPeer_egress _ _ hmark hroom] at hnotices
    exact ⟨notices, hnotices.symm⟩
  case returned =>
    obtain ⟨hrpu, hentry⟩ := Part.lose_replication hm hy (Part.agree_of_listsAgree hagree)
      (Part.walksServeActive_of_walksOk hw)
    exact ⟨hrpu, hentry⟩
  case claim =>
    obtain ⟨hstands, hfails⟩ := Part.lose_claiming hm hy hrole hclaim hq
    refine ⟨hstands, fun hs => ?_⟩
    obtain ⟨x, hgroup, hfresh, hgx⟩ := hfails hs
    have hclaim' := congrArg GroupRec.claim hgx
    have hrole' : (s.withPart (s.lose y)).role g = (x.enterStandby g .claimFailed).role g := congrArg GroupRec.role hgx
    refine ⟨?_, fun hn => ?_, fun hc => ?_⟩
    · exact (congrArg GroupRec.holdOff hgx).trans ((x.holdOff_enterStandby g _).trans (by rw [hgroup]))
    · obtain ⟨hstandby, hnone⟩ := Part.enterStandby_stays (hfresh.trans (if_neg hn)) .claimFailed
      exact ⟨hrole'.trans hstandby, hclaim'.trans hnone⟩
    · obtain ⟨hclaiming, hsome⟩ := Part.enterStandby_claims (hfresh.trans (if_pos hc)) .claimFailed
      rw [hgroup] at hsome
      exact ⟨hrole'.trans hclaiming, (congrArg (Option.map _) hclaim').trans hsome⟩

end Sys2Proof.Machine

namespace Sys2Proof.Machine

variable {p q r : Part}

/-! #### A record that becomes LIVE, or is reborn, in the Replication Unit (R56 to R58, R74) -/

theorem Part.replicationHears_first (p : Part) (wasLive reborn : Bool) :
    p.replicationHears wasLive reborn true = p.startRefresh := rfl

theorem Part.replicationHears_reborn (p : Part) (wasLive : Bool) :
    p.replicationHears wasLive true false = ((if wasLive then p.returnAll else p).emptyReceipts).startRefresh := rfl

theorem Part.replicationHears_return (p : Part) (wasLive : Bool) : p.replicationHears wasLive false false = p := rfl

theorem Part.refreshWalk_startRefresh (p : Part) : p.startRefresh.smt.refreshWalk = some 0 := rfl

/-- The refresh walk's start clears every note (R20). -/
theorem Part.entry_startRefresh (p : Part) (x : Slot) :
    p.startRefresh.entry x = (p.entry x).map fun e => { e with noted := false } :=
  p.entry_mapEntries (fun e => { e with noted := false }) x

@[simp] theorem Part.replicationHears_rcu (p : Part) (a b c : Bool) : (p.replicationHears a b c).rcu = p.rcu := by
  unfold Part.replicationHears
  (repeat' split) <;> simp

theorem Part.sameWorld_replicationHears (p : Part) (a b c : Bool) : p.SameWorld (p.replicationHears a b c) := by
  unfold Part.replicationHears
  (repeat' split) <;> exact ⟨by simp, by simp, by simp⟩

theorem Part.replicationHears_leaves (p : Part) (a b c : Bool) :
    (p.replicationHears a b c).mbi = p.mbi ∧ (p.replicationHears a b c).evp = p.evp
      ∧ (p.replicationHears a b c).wtu = p.wtu := by
  unfold Part.replicationHears
  (repeat' split) <;> simp

/-! #### The last fence cause that a record's becoming LIVE clears (R137, R141) -/

/-- What an evaluation may not change of a group: the other member's standing by its CLAIM (R118). -/
theorem Part.standing_evaluateAll (p : Part) (g : Group) : p.evaluateAll.standing g = p.standing g :=
  p.sameWorld_evaluateAll.standing (p.peerClaiming_evaluateAll g)

theorem Part.listenMeets_congr (h : p.SameWorld q) {g : Group} (hs : q.standing g = p.standing g) :
    q.listenMeets g = p.listenMeets g := by
  simp [Part.listenMeets, Part.serves, h.otherLive, hs]

/-- A group that is not FENCED is merely evaluated as the others are let go. -/
theorem Part.group_unfence_rest {g : Group} (hr : p.role g ≠ .fenced) : p.unfence.group g = p.evaluateAll.group g := by
  have hview : p.SameView ((p.unfenceGroup .g0).unfenceGroup .g1) g := by
    refine ⟨⟨by simp, by simp, by simp⟩, ?_⟩
    have hr' : (p.group g).role ≠ .fenced := hr
    cases g <;> simp [Part.group_unfenceGroup, Part.role, hr']
  unfold Part.unfence
  rw [Part.group_evaluateAll, Part.group_evaluateAll, hview.group_evaluate]

theorem Part.peerClaiming_unfence (p : Part) (g : Group) : (p.unfence.group g).peerClaiming = (p.group g).peerClaiming := by
  by_cases hr : p.role g = .fenced
  · rw [Part.group_unfence p hr]
    split
    · cases p.freshClaim g <;> rfl
    · rfl
  · rw [Part.group_unfence_rest hr, Part.peerClaiming_evaluateAll]

theorem Part.sameWorld_clearNoQuorum (p : Part) : p.SameWorld p.clearNoQuorum := ⟨by simp, by simp, by simp⟩

/-- NO_QUORUM clears: with another cause left, or none before, no group moves; as the last one it lets the groups go. -/
theorem Part.clearNoQuorum_cases (p : Part) (g : Group) :
    (p.clearNoQuorum.group g = p.group g ∧ ¬ (p.rcu.fence.any = true ∧ p.clearNoQuorum.rcu.fence.any = false))
      ∨ p.clearNoQuorum.group g = p.unfence.group g := by
  have hfence : p.clearNoQuorum.rcu.fence = { p.rcu.fence with noQuorum := false } := (p.clearFence_control _).1
  by_cases h : p.rcu.fence.any = true ∧ p.clearNoQuorum.rcu.fence.any = false
  · refine .inr ?_
    obtain ⟨hany, hnone⟩ := h
    rw [hfence] at hnone
    have hlast : p.clearNoQuorum = (p.setFence { p.rcu.fence with noQuorum := false }).unfence :=
      Part.clearFence_last hany hnone
    rw [hlast]
    by_cases hr : p.role g = .fenced
    · have hr' : (p.setFence { p.rcu.fence with noQuorum := false }).role g = .fenced := hr
      rw [Part.group_unfence _ hr', Part.group_unfence _ hr]
      rfl
    · have hr' : (p.setFence { p.rcu.fence with noQuorum := false }).role g ≠ .fenced := hr
      have hview : p.SameView (p.setFence { p.rcu.fence with noQuorum := false }) g := ⟨⟨rfl, rfl, rfl⟩, rfl⟩
      rw [Part.group_unfence_rest hr', Part.group_unfence_rest hr, Part.group_evaluateAll, Part.group_evaluateAll,
        hview.group_evaluate]
  · refine .inl ⟨?_, h⟩
    have hstays : p.rcu.fence.any = false ∨ ({ p.rcu.fence with noQuorum := false } : FenceCauses).any = true := by
      rw [hfence] at h
      cases ha : p.rcu.fence.any
      · exact .inl rfl
      · exact .inr (by simpa [ha] using h)
    have hset : p.clearNoQuorum = p.setFence { p.rcu.fence with noQuorum := false } := Part.clearFence_stays hstays
    rw [hset]
    rfl

/-- A FENCED group listens for a hold-down where the other member neither serves nor claims it (R119, R141). -/
theorem Part.clearNoQuorum_listens {g : Group} (hr : p.role g = .fenced) (hany : p.rcu.fence.any = true)
    (hnone : p.clearNoQuorum.evaluateAll.rcu.fence.any = false)
    (hidle : p.clearNoQuorum.evaluateAll.listenMeets g = false) :
    p.clearNoQuorum.evaluateAll.role g = .listen
      ∧ (p.clearNoQuorum.evaluateAll.group g).listen = some (p.after p.holdDown) := by
  rw [(Part.GroupsAlone.evaluateAll _).fence] at hnone
  have hgroup : p.clearNoQuorum.group g = p.unfence.group g := by
    rcases p.clearNoQuorum_cases g with ⟨-, h⟩ | h
    · exact absurd ⟨hany, hnone⟩ h
    · exact h
  have hmeets : p.clearNoQuorum.listenMeets g = false := by
    rwa [← Part.listenMeets_congr p.clearNoQuorum.sameWorld_evaluateAll (Part.standing_evaluateAll _ g)]
  have hstanding : p.clearNoQuorum.standing g = p.standing g :=
    p.sameWorld_clearNoQuorum.standing (by rw [hgroup, Part.peerClaiming_unfence])
  obtain ⟨hrole, hlisten⟩ := Part.unfence_listens p hr
    (by rwa [← Part.listenMeets_congr p.sameWorld_clearNoQuorum hstanding])
  have hrole' : p.clearNoQuorum.role g = .listen := (congrArg GroupRec.role hgroup).trans hrole
  have hkept : p.clearNoQuorum.evaluateAll.group g = p.clearNoQuorum.group g := by
    rw [Part.group_evaluateAll_eq]
    simp [hrole', hmeets]
  rw [Part.role, hkept]
  exact ⟨hrole', (congrArg GroupRec.listen hgroup).trans hlisten⟩

/-- A group that has just entered STANDBY stays as it is while NO_QUORUM clears and the groups are evaluated. -/
theorem Part.group_clearNoQuorum_of_enterStandby {g : Group} {cause : RoleCause} (h : (p.enterStandby g cause).SameView q g) :
    (p.enterStandby g cause).SameView q.clearNoQuorum g := by
  refine ⟨h.toSameWorld.trans q.sameWorld_clearNoQuorum, ?_⟩
  rcases q.clearNoQuorum_cases g with ⟨hc, -⟩ | hc
  · exact hc.trans h.group
  · have hr : q.role g ≠ .fenced := by
      rw [h.role, Part.role, Part.group_enterStandby]
      cases p.freshClaim g <;> exact nofun
    rw [hc, Part.group_unfence_rest hr, Part.group_evaluateAll_of_enterStandby h]

/-! #### The roles hear of the other member (R112, R116, R118, R124) -/

/-- An open VACANT claim of either group fails. -/
def Part.failVacantClaims (p : Part) : Part := (p.failVacantClaim .g0).failVacantClaim .g1

theorem Part.failVacantClaim_cases (p : Part) (g : Group) :
    p.failVacantClaim g = p ∨ p.failVacantClaim g = p.enterStandby g .claimFailed := by
  unfold Part.failVacantClaim
  split
  · split
    · exact .inr rfl
    · exact .inl rfl
  · exact .inl rfl

theorem Part.group_failVacantClaim_ne (p : Part) {g h : Group} (hne : h ≠ g) :
    (p.failVacantClaim g).group h = p.group h := by
  rcases p.failVacantClaim_cases g with hf | hf <;> rw [hf]
  exact p.group_enterStandby_ne hne _

theorem Part.sameWorld_failVacantClaim (p : Part) (g : Group) : p.SameWorld (p.failVacantClaim g) :=
  ⟨by simp, by simp, by simp⟩

theorem Part.failVacantClaims_view (p : Part) (g : Group) :
    ∃ x, p.SameView x g ∧ (x.failVacantClaim g).SameView p.failVacantClaims g :=
  Part.each_group (f := fun g q => q.failVacantClaim g) Part.group_failVacantClaim_ne Part.sameWorld_failVacantClaim p g

/-- Without an open VACANT claim nothing fails. -/
theorem Part.failVacantClaims_none {g : Group} (h : ∀ c, (p.group g).claim = some c → c.kind ≠ .vacant) :
    p.SameView p.failVacantClaims g := by
  obtain ⟨x, hx, hv⟩ := p.failVacantClaims_view g
  have hsame : x.failVacantClaim g = x := by
    unfold Part.failVacantClaim
    split
    · rename_i c hc
      exact if_neg (h c (by rw [← hx.group]; exact hc))
    · rfl
  rw [hsame] at hv
  exact hx.trans hv

theorem Part.failVacantClaims_some {g : Group} {c : ClaimRecord} (hc : (p.group g).claim = some c) (hk : c.kind = .vacant) :
    ∃ x, p.SameView x g ∧ (x.enterStandby g .claimFailed).SameView p.failVacantClaims g := by
  obtain ⟨x, hx, hv⟩ := p.failVacantClaims_view g
  have hfails : x.failVacantClaim g = x.enterStandby g .claimFailed := by
    have hcx : (x.group g).claim = some c := by rw [hx.group]; exact hc
    unfold Part.failVacantClaim
    simp only [hcx, hk, if_true]
    rfl
  rw [hfails] at hv
  exact ⟨x, hx, hv⟩

theorem Part.rolesHearOther_eq (p : Part) (wasLive : Bool) :
    p.rolesHearOther wasLive
      = (if wasLive then p.failVacantClaims else p.failVacantClaims.clearNoQuorum).evaluateAll := rfl

/-- What the roles leave as the other member becomes LIVE or is reborn. -/
theorem Part.rolesHearOther_leaves (p : Part) (wasLive : Bool) :
    p.SameWorld (p.rolesHearOther wasLive) ∧ (p.rolesHearOther wasLive).smt = p.smt
      ∧ (p.rolesHearOther wasLive).rpu = p.rpu ∧ (p.rolesHearOther wasLive).wtu = p.wtu := by
  rw [Part.rolesHearOther_eq]
  cases wasLive <;> exact ⟨⟨by simp [Part.failVacantClaims], by simp [Part.failVacantClaims],
    by simp [Part.failVacantClaims]⟩, by simp [Part.failVacantClaims], by simp [Part.failVacantClaims],
    by simp [Part.failVacantClaims]⟩

theorem Part.GroupsAlone.failVacantClaims (p : Part) : p.GroupsAlone p.failVacantClaims := by
  have one (q : Part) (g : Group) : q.GroupsAlone (q.failVacantClaim g) := by
    have left : q.GroupsAlone (q.enterStandby g .claimFailed) := (setRole q g .standby _).trans (evalStandby _ g)
    rcases q.failVacantClaim_cases g with hf | hf <;> rw [hf]
    · rfl
    · exact left
  exact (one p .g0).trans (one _ .g1)

/-- NO_QUORUM clears as the record becomes LIVE, and no other cause moves (R137). -/
theorem Part.fence_rolesHearOther (p : Part) (wasLive : Bool) :
    (p.rolesHearOther wasLive).rcu.fence
      = if wasLive then p.rcu.fence else { p.rcu.fence with noQuorum := false } := by
  have hfails := (Part.GroupsAlone.failVacantClaims p).fence
  rw [Part.rolesHearOther_eq, (Part.GroupsAlone.evaluateAll _).fence]
  cases wasLive
  · exact (Part.clearFence_control _ _).1.trans (by rw [hfails]; rfl)
  · exact hfails

/-- A VACANT claim fails with no hold-off, and no other follows unless the other member is ACTIVE (R120, R124). -/
theorem Part.rolesHearOther_vacant (wasLive : Bool) {g : Group} {c : ClaimRecord} (hc : (p.group g).claim = some c)
    (hk : c.kind = .vacant) (hl : p.otherLive = true) (hs : p.standing g ≠ some .active) :
    (p.rolesHearOther wasLive).role g = .standby ∧ ((p.rolesHearOther wasLive).group g).claim = none
      ∧ ((p.rolesHearOther wasLive).group g).holdOff = (p.group g).holdOff := by
  obtain ⟨x, hx, hv⟩ := Part.failVacantClaims_some hc hk
  have hfresh : x.freshClaim g = none := by
    have hpre : x.preemptConditions g = false := by
      rw [hx.preemptConditions]
      simp [Part.preemptConditions, hs]
    simp [Part.freshClaim_live (hx.otherLive.trans hl), hpre]
  have hgroup : (p.rolesHearOther wasLive).group g = (x.enterStandby g .claimFailed).group g := by
    rw [Part.rolesHearOther_eq]
    cases wasLive
    · exact Part.group_evaluateAll_of_enterStandby (Part.group_clearNoQuorum_of_enterStandby hv)
    · exact Part.group_evaluateAll_of_enterStandby hv
  obtain ⟨hrole, hclaim⟩ := Part.enterStandby_stays hfresh .claimFailed
  rw [Part.role, hgroup]
  exact ⟨hrole, hclaim, (x.holdOff_enterStandby g _).trans (by rw [hx.group])⟩

/-- The marks of a rebirth: the mark itself, no standing by a CLAIM, no number contested (R112, R116, R118). -/
def GroupRec.bearsRebirth (x : GroupRec) : Prop := x.rebirthMark = true ∧ x.peerClaiming = false ∧ x.contested = none

/-- While the other member's standing is absent an evaluation leaves the marks. -/
theorem Part.bearsRebirth_evaluateAll {g : Group} (h : (p.group g).bearsRebirth) (hs : p.standing g = none) :
    (p.evaluateAll.group g).bearsRebirth := by
  obtain ⟨hmark, hclaiming, hcontested⟩ := h
  have hmeets : p.listenMeets g = false := by simp [Part.listenMeets, Part.serves, hs]
  rw [Part.group_evaluateAll_eq]
  split
  · rw [if_neg (by simp [hmeets])]
    exact ⟨hmark, hclaiming, hcontested⟩
  · cases p.standbyClaim g with
    | none => exact ⟨hmark, hclaiming, hcontested⟩
    | some kind => exact ⟨by simp [GroupRec.standbyNext, GroupRec.claimed, GroupRec.enter, hmark], hclaiming, rfl⟩
  · exact ⟨hmark, hclaiming, hcontested⟩

theorem Part.bearsRebirth_unfence {g : Group} (h : (p.group g).bearsRebirth) (hs : p.standing g = none) :
    (p.unfence.group g).bearsRebirth := by
  by_cases hr : p.role g = .fenced
  · have hmeets : p.listenMeets g = false := by simp [Part.listenMeets, Part.serves, hs]
    rw [Part.group_unfence p hr, if_neg (by simp [hmeets])]
    exact ⟨by simp [Part.listening, GroupRec.enter, h.1], h.2.1, rfl⟩
  · rw [Part.group_unfence_rest hr]
    exact Part.bearsRebirth_evaluateAll h hs

/-- A group without a VACANT claim keeps the marks. -/
theorem Part.rolesHearOther_rebirth (wasLive : Bool) {g : Group} (h : (p.group g).bearsRebirth) (hs : p.standing g = none)
    (hc : ∀ c, (p.group g).claim = some c → c.kind ≠ .vacant) : ((p.rolesHearOther wasLive).group g).bearsRebirth := by
  have hv := Part.failVacantClaims_none hc
  have hq : (p.failVacantClaims.group g).bearsRebirth := by rw [hv.group]; exact h
  have hsq : p.failVacantClaims.standing g = none := hv.standing.trans hs
  have hclear : (p.failVacantClaims.clearNoQuorum.group g).bearsRebirth := by
    rcases p.failVacantClaims.clearNoQuorum_cases g with ⟨hsame, -⟩ | hunfenced
    · rw [hsame]; exact hq
    · rw [hunfenced]; exact Part.bearsRebirth_unfence hq hsq
  rw [Part.rolesHearOther_eq]
  cases wasLive
  · have hsc : p.failVacantClaims.clearNoQuorum.standing g = none :=
      ((Part.sameWorld_clearNoQuorum _).standing (by rw [hclear.2.1, hq.2.1])).trans hsq
    exact Part.bearsRebirth_evaluateAll hclear hsc
  · exact Part.bearsRebirth_evaluateAll hq hsq

/-- The last cause lets a FENCED group listen. -/
theorem Part.rolesHearOther_listens {g : Group} (hr : p.role g = .fenced) (hc : (p.group g).claim = none)
    (hany : p.rcu.fence.any = true) (hnone : (p.rolesHearOther false).rcu.fence.any = false)
    (hidle : (p.rolesHearOther false).listenMeets g = false) :
    (p.rolesHearOther false).role g = .listen
      ∧ ((p.rolesHearOther false).group g).listen = some (p.after p.holdDown) := by
  have hv := Part.failVacantClaims_none (p := p) (g := g) (by rw [hc]; exact nofun)
  have hdown : p.failVacantClaims.holdDown = p.holdDown := by simp [Part.holdDown, hv.profile]
  have hany' : p.failVacantClaims.rcu.fence.any = true := by
    rw [(Part.GroupsAlone.failVacantClaims p).fence]; exact hany
  rw [← hv.after, ← hdown]
  exact Part.clearNoQuorum_listens (p := p.failVacantClaims) (hv.role.trans hr) hany' hnone hidle

end Sys2Proof.Machine

namespace Sys2Proof.Machine

variable {p q r : Part}

/-! #### A record that becomes LIVE or is reborn (R94, R95, R110, R112, R115) -/

/-- What a Peer Record holds of a station before a frame of it is noted: nothing but the lanes after a rebirth (R112). -/
theorem PeerRec.heard_eq (r : PeerRec) (l : Lane) (inc : BitVec 16) (now : Tick) :
    r.heard l inc now =
      { (if r.state ≠ .absent ∧ r.incarnation ≠ some inc then
          { r with roles := .both none, merits := .both none, heardLanes := none, witnessConfigured := none }
        else r) with
        state := .live, incarnation := some inc, lastHeard := some now, heardOn := r.heardOn.set l (some now) } := by
  unfold PeerRec.heard
  by_cases h : r.state ≠ .absent ∧ r.incarnation ≠ some inc
  · simp [PeerRec.rebornBy, PeerRec.reset, h]
  · have hn : r.rebornBy inc = false := by simpa [PeerRec.rebornBy] using h
    simp [hn, h]

theorem PeerRec.heard_roles (r : PeerRec) (l : Lane) (inc : BitVec 16) (now : Tick) :
    (r.heard l inc now).roles = if r.rebornBy inc then .both none else r.roles := by
  unfold PeerRec.heard
  cases r.rebornBy inc <;> rfl

theorem PeerRec.rebornBy_iff {r : PeerRec} {inc : BitVec 16} :
    r.rebornBy inc = true ↔ r.state ≠ .absent ∧ r.incarnation ≠ some inc := by simp [PeerRec.rebornBy]

section recordNoticed

variable (p) (y : Station) (wasLive reborn : Bool)

/-- The notice, the expectation and the working lane leave the rest of the part. -/
theorem Part.recordNoticed_leaves :
    p.SameWorld (p.recordNoticed y wasLive reborn)
      ∧ (p.recordNoticed y wasLive reborn).evp = (p.peerNotice y).evp
      ∧ (p.recordNoticed y wasLive reborn).smt = p.smt ∧ (p.recordNoticed y wasLive reborn).rpu = p.rpu
      ∧ (p.recordNoticed y wasLive reborn).rcu = p.rcu ∧ (p.recordNoticed y wasLive reborn).wtu = p.wtu := by
  unfold Part.recordNoticed
  cases wasLive <;> cases reborn <;> exact ⟨⟨by simp, by simp, by simp⟩, rfl, by simp, by simp, by simp, by simp⟩

theorem Part.recordNoticed_mbi :
    (p.recordNoticed y wasLive reborn).mbi.expect = (if reborn then p.mbi.expect.set y none else p.mbi.expect)
      ∧ (p.recordNoticed y wasLive reborn).mbi.inHand = p.mbi.inHand
      ∧ (p.recordNoticed y wasLive reborn).mbi.answers = p.mbi.answers := by
  unfold Part.recordNoticed Part.chooseLane Part.setExpect
  cases wasLive <;> cases reborn <;> simp

end recordNoticed

/-- The part as a frame of station `y` makes its record LIVE or reborn: the record, its notice, its copy expectation, the
working lane. -/
def Part.heardPeer (p : Part) (y : Station) (l : Lane) (inc : BitVec 16) : Part :=
  ((p.setExpect y none).setPeer y ((p.peer y).heard l inc p.clock)).recordNoticed y (p.peerLive y) ((p.peer y).rebornBy inc)

section heardPeer

variable (p) (y : Station) (l : Lane) (inc : BitVec 16)

theorem Part.heardPeer_leaves :
    (p.heardPeer y l inc).profile = p.profile ∧ (p.heardPeer y l inc).clock = p.clock
      ∧ (p.heardPeer y l inc).smt = p.smt ∧ (p.heardPeer y l inc).rpu = p.rpu
      ∧ (p.heardPeer y l inc).rcu = p.rcu ∧ (p.heardPeer y l inc).wtu = p.wtu := by
  obtain ⟨hworld, -, hsmt, hrpu, hrcu, hwtu⟩ := Part.recordNoticed_leaves
    ((p.setExpect y none).setPeer y ((p.peer y).heard l inc p.clock)) y (p.peerLive y) ((p.peer y).rebornBy inc)
  exact ⟨hworld.profile, hworld.clock, hsmt, hrpu, hrcu, hwtu⟩

theorem Part.heardPeer_ppu : (p.heardPeer y l inc).ppu
    = { p.ppu with peers := p.ppu.peers.set y ((p.peer y).heard l inc p.clock) } :=
  (Part.recordNoticed_leaves _ y _ _).1.ppu

theorem Part.peer_heardPeer (z : Station) :
    (p.heardPeer y l inc).peer z = if z = y then (p.peer y).heard l inc p.clock else p.peer z := by
  rw [Part.peer, Part.heardPeer_ppu]
  exact PerStation.get_set _ _ _ _

theorem Part.heardPeer_mbi :
    (p.heardPeer y l inc).mbi.expect.get y = none ∧ (p.heardPeer y l inc).mbi.inHand = p.mbi.inHand
      ∧ (p.heardPeer y l inc).mbi.answers = p.mbi.answers := by
  obtain ⟨hexpect, hhand, hanswers⟩ := Part.recordNoticed_mbi
    ((p.setExpect y none).setPeer y ((p.peer y).heard l inc p.clock)) y (p.peerLive y) ((p.peer y).rebornBy inc)
  refine ⟨?_, hhand, hanswers⟩
  unfold Part.heardPeer
  rw [hexpect]
  split <;> simp [Part.setExpect]

theorem Part.heardPeer_egress (hm : p.evp.peerMarks.get y = false) (ho : p.evp.egress.length < 64) :
    (p.heardPeer y l inc).evp.egress = p.evp.egress ++ [.peer y .live (some inc)] := by
  have hplaced := Part.peerNotice_placed
    (p := (p.setExpect y none).setPeer y ((p.peer y).heard l inc p.clock)) hm ho
  unfold Part.heardPeer
  rw [(Part.recordNoticed_leaves _ y _ _).2.1, hplaced]
  simp [Part.withEgress, PeerRec.heard]

theorem Part.isMember_heardPeer : (p.heardPeer y l inc).isMember = p.isMember := by
  unfold Part.isMember Part.self
  rw [(p.heardPeer_leaves y l inc).1]

theorem Part.otherMember_heardPeer : (p.heardPeer y l inc).otherMember = p.otherMember := by
  unfold Part.otherMember Part.self
  rw [(p.heardPeer_leaves y l inc).1]

theorem Part.group_heardPeer (g : Group) : (p.heardPeer y l inc).group g = p.group g := by
  obtain ⟨-, -, -, -, hrcu, -⟩ := p.heardPeer_leaves y l inc
  rw [Part.group, hrcu]
  rfl

end heardPeer

/-- An ALIGN whose sender is not LIVE under its incarnation: the record changes, and the blocks hear of it (R93, R110). -/
theorem Part.takeFromOther_align {y : Station} {inc : BitVec 16} (l : Lane) (bytes : List Byte)
    (h : (p.peer y).state ≠ .live ∨ (p.peer y).incarnation ≠ some inc) :
    p.takeFromOther l bytes { sender := y, incarnation := inc, content := .align }
      = (p.heardPeer y l inc).blocksHear y (p.peerLive y) ((p.peer y).rebornBy inc)
          (decide ((p.peer y).state = .absent)) := by
  have hchanges : (decide ((p.peer y).state = .live) && !(p.peer y).rebornBy inc) = false := by
    rcases h with h | h
    · simp [h]
    · by_cases hl : (p.peer y).state = .live <;> simp [PeerRec.rebornBy, h, hl]
  have hheard : (p.setExpect y none).heard y l inc
      = (p.heardPeer y l inc).blocksHear y (p.peerLive y) ((p.peer y).rebornBy inc)
          (decide ((p.peer y).state = .absent)) := if_neg (by exact Bool.eq_false_iff.1 hchanges)
  have hgoes (q : Part) : q.handUp y .align = q := by
    unfold Part.handUp
    split <;> rfl
  unfold Part.takeFromOther
  dsimp only
  rw [hheard, hgoes]
  split <;> rfl

/-! #### What the blocks leave as they hear of it -/

theorem Part.Notices.failVacantClaims (p : Part) : p.Notices p.failVacantClaims := by
  have one (q : Part) (g : Group) : q.Notices (q.failVacantClaim g) := by
    rcases q.failVacantClaim_cases g with hf | hf <;> rw [hf]
    · exact refl q
    · exact enterStandby q g _
  exact (one p .g0).trans (one _ .g1)

theorem Part.RoleFramesAlone.failVacantClaims (p : Part) : p.RoleFramesAlone p.failVacantClaims := by
  have one (q : Part) (g : Group) : q.RoleFramesAlone (q.failVacantClaim g) := by
    rcases q.failVacantClaim_cases g with hf | hf <;> rw [hf]
    exact enterStandby q g _
  exact (one p .g0).trans (one _ .g1)

/-- A change of roles: notices in the egress FIFO, role frames in the Mirror Bus Interface, no more outside the groups. -/
structure Part.RolesHear (p q : Part) : Prop extends p.SameWorld q where
  notices : p.Notices q
  bus : p.RoleFramesAlone q
  wtu : q.wtu = p.wtu

theorem Part.RolesHear.evaluateAll (p : Part) : p.RolesHear p.evaluateAll :=
  ⟨p.sameWorld_evaluateAll, .evaluateAll p, .evaluateAll p, by simp⟩

theorem Part.RolesHear.clearNoQuorum (p : Part) : p.RolesHear p.clearNoQuorum :=
  ⟨p.sameWorld_clearNoQuorum, .clearFence p _, .clearFence p _, by simp⟩

theorem Part.RolesHear.trans (h : p.RolesHear q) (h' : q.RolesHear r) : p.RolesHear r :=
  ⟨h.toSameWorld.trans h'.toSameWorld, h.notices.trans h'.notices, h.bus.trans h'.bus, h'.wtu.trans h.wtu⟩

theorem Part.RolesHear.rolesHearWitness (p : Part) (wasLive : Bool) : p.RolesHear (p.rolesHearWitness wasLive) := by
  cases wasLive
  · exact (clearNoQuorum p).trans (evaluateAll _)
  · exact evaluateAll p

theorem Part.RolesHear.rolesHearOther (p : Part) (wasLive : Bool) : p.RolesHear (p.rolesHearOther wasLive) := by
  have fails : p.RolesHear p.failVacantClaims :=
    ⟨⟨by simp [Part.failVacantClaims], by simp [Part.failVacantClaims], by simp [Part.failVacantClaims]⟩,
      .failVacantClaims p, .failVacantClaims p, by simp [Part.failVacantClaims]⟩
  rw [Part.rolesHearOther_eq]
  cases wasLive
  · exact (fails.trans (clearNoQuorum _)).trans (evaluateAll _)
  · exact fails.trans (evaluateAll _)

/-- The rebirth marks and the Replication Unit's part, as the other member becomes LIVE or is reborn, before the roles'. -/
def Part.otherHeard (p : Part) (wasLive reborn first : Bool) : Part :=
  (if reborn then p.markRebirth else p).replicationHears wasLive reborn first

section otherHeard

variable (p) (wasLive reborn first : Bool)

theorem Part.RolesHear.otherHeard : p.RolesHear (p.otherHeard wasLive reborn first) := by
  have marked : p.RolesHear (if reborn then p.markRebirth else p) := by
    cases reborn <;> exact ⟨⟨rfl, rfl, rfl⟩, .of_evp rfl, .of_mbi rfl, rfl⟩
  obtain ⟨hmbi, hevp, hwtu⟩ := Part.replicationHears_leaves (if reborn then p.markRebirth else p) wasLive reborn first
  exact marked.trans ⟨Part.sameWorld_replicationHears _ _ _ _, .of_evp hevp, .of_mbi hmbi, hwtu⟩

theorem Part.group_otherHeard (g : Group) : (p.otherHeard wasLive reborn first).group g
    = if reborn then { p.group g with peerClaiming := false, rebirthMark := true, contested := none } else p.group g := by
  rw [Part.otherHeard, Part.group, Part.replicationHears_rcu]
  cases reborn
  · rfl
  · cases g <;> rfl

theorem Part.fence_otherHeard : (p.otherHeard wasLive reborn first).rcu.fence = p.rcu.fence := by
  rw [Part.otherHeard, Part.replicationHears_rcu]
  cases reborn <;> rfl

end otherHeard

theorem Part.blocksHear_other {y : Station} (hm : p.isMember = true) (hy : y = p.otherMember) (wasLive reborn first : Bool) :
    p.blocksHear y wasLive reborn first = (p.otherHeard wasLive reborn first).rolesHearOther wasLive :=
  (if_pos hm).trans (if_pos hy)

theorem Part.blocksHear_third {y : Station} (hm : p.isMember = true) (hy : y ≠ p.otherMember) (wasLive reborn first : Bool) :
    p.blocksHear y wasLive reborn first = p.rolesHearWitness wasLive := (if_pos hm).trans (if_neg hy)

theorem Part.blocksHear_witness (y : Station) (hm : p.isMember = false) (wasLive reborn first : Bool) :
    p.blocksHear y wasLive reborn first = if reborn then p.forgetAnswers y else p :=
  if_neg (show ¬ p.isMember = true by simp [hm])

theorem Part.rolesHear_blocksHear (hm : p.isMember = true) (y : Station) (wasLive reborn first : Bool) :
    p.RolesHear (p.blocksHear y wasLive reborn first) := by
  by_cases hy : y = p.otherMember
  · rw [Part.blocksHear_other hm hy]
    exact (Part.RolesHear.otherHeard p _ _ _).trans (.rolesHearOther _ _)
  · rw [Part.blocksHear_third hm hy]
    exact .rolesHearWitness p _

/-- What every station keeps as it hears of a change of record. -/
theorem Part.blocksHear_leaves (p : Part) (y : Station) (wasLive reborn first : Bool) :
    p.SameWorld (p.blocksHear y wasLive reborn first) ∧ p.Notices (p.blocksHear y wasLive reborn first)
      ∧ p.RoleFramesAlone (p.blocksHear y wasLive reborn first) := by
  cases hm : p.isMember
  · rw [Part.blocksHear_witness y hm]
    cases reborn <;> exact ⟨⟨rfl, rfl, rfl⟩, .of_evp rfl, .of_mbi rfl⟩
  · have h := Part.rolesHear_blocksHear hm y wasLive reborn first
    exact ⟨h.toSameWorld, h.notices, h.bus⟩

/-- The fence causes, whichever station a member hears of (R137). -/
theorem Part.fence_blocksHear (hm : p.isMember = true) (y : Station) (wasLive reborn first : Bool) :
    (p.blocksHear y wasLive reborn first).rcu.fence
      = if wasLive then p.rcu.fence else { p.rcu.fence with noQuorum := false } := by
  by_cases hy : y = p.otherMember
  · rw [Part.blocksHear_other hm hy, Part.fence_rolesHearOther, Part.fence_otherHeard]
  · rw [Part.blocksHear_third hm hy, Part.rolesHearWitness, (Part.GroupsAlone.evaluateAll _).fence]
    cases wasLive
    · exact (p.clearFence_control _).1
    · rfl

/-- A FENCED group listens as the last cause clears (R119, R141). -/
theorem Part.blocksHear_listens {y : Station} (hm : p.isMember = true) (reborn first : Bool) {g : Group}
    (hr : p.role g = .fenced) (hc : (p.group g).claim = none) (hany : p.rcu.fence.any = true)
    (hnone : (p.blocksHear y false reborn first).rcu.fence.any = false)
    (hidle : (p.blocksHear y false reborn first).listenMeets g = false) :
    (p.blocksHear y false reborn first).role g = .listen
      ∧ ((p.blocksHear y false reborn first).group g).listen = some (p.after p.holdDown) := by
  by_cases hy : y = p.otherMember
  · rw [Part.blocksHear_other hm hy] at *
    have world := (Part.RolesHear.otherHeard p false reborn first).toSameWorld
    have hgroup := p.group_otherHeard false reborn first g
    have hrole : (p.otherHeard false reborn first).role g = .fenced := by
      rw [Part.role, hgroup]
      cases reborn <;> exact hr
    have hclaim : ((p.otherHeard false reborn first).group g).claim = none := by
      rw [hgroup]
      cases reborn <;> exact hc
    have hdown : (p.otherHeard false reborn first).holdDown = p.holdDown := by simp [Part.holdDown, world.profile]
    rw [← world.after, ← hdown]
    exact Part.rolesHearOther_listens hrole hclaim (by rw [Part.fence_otherHeard]; exact hany) hnone hidle
  · rw [Part.blocksHear_third hm hy] at *
    exact Part.clearNoQuorum_listens hr hany hnone hidle

end Sys2Proof.Machine

namespace Sys2Proof.Machine

variable {p q r : Part}

/-! #### The Replication Unit as the other member becomes LIVE or is reborn (R55 to R58, R74) -/

theorem Part.refreshWalk_otherHeard (wasLive : Bool) {reborn first : Bool} (h : first = true ∨ reborn = true) :
    (p.otherHeard wasLive reborn first).smt.refreshWalk = some 0 := by
  cases first
  · obtain rfl : reborn = true := by simpa using h
    rfl
  · rfl

/-- A return leaves the whole part. -/
theorem Part.otherHeard_return (p : Part) (wasLive : Bool) : p.otherHeard wasLive false false = p := rfl

theorem Part.receipts_otherHeard (p : Part) (wasLive : Bool) : (p.otherHeard wasLive true false).rpu.receipts = [] := rfl

/-- A rebirth seen while the record was LIVE returns the In-Flight records as a loss does (R55, R58). -/
theorem Part.otherHeard_live (h : p.Agree) :
    (p.otherHeard true true false).rpu = { p.rpu with
        sendList := p.rpu.sendList ++ p.completedSlots
        inFlight := p.rpu.inFlight.filter fun r => r.transmitting
        recallMark := p.rpu.recallMark || p.mbi.inHand.any fun h => h.frame.session
        receipts := [] }
      ∧ ∀ x, (p.otherHeard true true false).entry x
        = (p.entry x).map fun e => { e.broughtBack (x ∈ p.completedSlots) with noted := false } := by
  have hagree : p.markRebirth.Agree := (Part.Keeps.of_eq (p := p) (q := p.markRebirth) rfl rfl).agree h
  have hheard : p.otherHeard true true false = p.markRebirth.returnAll.emptyReceipts.startRefresh := rfl
  refine ⟨?_, fun x => ?_⟩
  · rw [hheard, Part.startRefresh_rpu, Part.emptyReceipts, Part.rpu_returnAll hagree]
    rfl
  · have hentry : p.markRebirth.returnAll.emptyReceipts.entry x
        = (p.entry x).map fun e => e.broughtBack (x ∈ p.completedSlots) := Part.entry_returnAll hagree x
    rw [hheard, Part.entry_startRefresh, hentry, Option.map_map]
    rfl

/-- A first contact, or a rebirth of a LOST record, only clears the notes and, at a rebirth, the Receipt Queue (R57, R58, R74). -/
theorem Part.otherHeard_away (p : Part) (first : Bool) :
    (p.otherHeard false (!first) first).rpu = (if first then p.rpu else { p.rpu with receipts := [] })
      ∧ ∀ x, (p.otherHeard false (!first) first).entry x = (p.entry x).map fun e => { e with noted := false } := by
  cases first
  · exact ⟨rfl, fun x => Part.entry_startRefresh p.markRebirth.emptyReceipts x⟩
  · exact ⟨rfl, Part.entry_startRefresh p⟩

/-! #### The groups as the other member becomes LIVE or is reborn (R112, R116, R118, R124) -/

/-- The standing that the new record and the rebirth marks leave of the other member: none after a rebirth (R112, R118). -/
theorem Part.standing_heard {y : Station} (l : Lane) (inc : BitVec 16) (hy : y = p.otherMember) (wasLive first : Bool)
    (g : Group) : ((p.heardPeer y l inc).otherHeard wasLive ((p.peer y).rebornBy inc) first).standing g
      = if (p.peer y).rebornBy inc then none else p.standing g := by
  have hgroup := (p.heardPeer y l inc).group_otherHeard wasLive ((p.peer y).rebornBy inc) first g
  have world := (Part.RolesHear.otherHeard (p.heardPeer y l inc) wasLive ((p.peer y).rebornBy inc) first).toSameWorld
  rw [Part.group_heardPeer] at hgroup
  unfold Part.standing
  rw [hgroup, world.otherMember, world.peer, Part.otherMember_heardPeer, Part.peer_heardPeer, if_pos hy.symm,
    PeerRec.heard_roles, ← hy]
  cases (p.peer y).rebornBy inc
  · rfl
  · cases g <;> rfl

theorem Part.otherLive_heard {y : Station} (l : Lane) (inc : BitVec 16) (hy : y = p.otherMember)
    (wasLive reborn first : Bool) : ((p.heardPeer y l inc).otherHeard wasLive reborn first).otherLive = true := by
  rw [(Part.RolesHear.otherHeard (p.heardPeer y l inc) wasLive reborn first).otherLive, Part.otherLive, Part.peerLive,
    Part.otherMember_heardPeer, Part.peer_heardPeer, if_pos hy.symm]
  rfl

/-- A rebirth leaves its marks on a group that has no VACANT claim to fail. -/
theorem Part.heard_rebirth {y : Station} (l : Lane) {inc : BitVec 16} (hy : y = p.otherMember) (wasLive first : Bool)
    (hreborn : (p.peer y).rebornBy inc = true) {g : Group}
    (hc : ∀ c, (p.group g).claim = some c → c.kind ≠ .vacant) :
    ((((p.heardPeer y l inc).otherHeard wasLive ((p.peer y).rebornBy inc) first).rolesHearOther wasLive).group
      g).bearsRebirth := by
  have hgroup := (p.heardPeer y l inc).group_otherHeard wasLive ((p.peer y).rebornBy inc) first g
  have hstanding := Part.standing_heard l inc hy wasLive first g
  rw [Part.group_heardPeer] at hgroup
  rw [hreborn] at hgroup hstanding ⊢
  refine Part.rolesHearOther_rebirth wasLive ?_ hstanding ?_
  · rw [hgroup]
    exact ⟨rfl, rfl, rfl⟩
  · rw [hgroup]
    exact hc

/-- An open VACANT claim fails at the contact (R124). -/
theorem Part.heard_vacant {y : Station} (l : Lane) {inc : BitVec 16} (hy : y = p.otherMember) (wasLive first : Bool)
    {g : Group} {c : ClaimRecord} (hc : (p.group g).claim = some c) (hk : c.kind = .vacant)
    (hs : (p.peer y).rebornBy inc = true ∨ p.standing g ≠ some .active) :
    (((p.heardPeer y l inc).otherHeard wasLive ((p.peer y).rebornBy inc) first).rolesHearOther wasLive).role g = .standby
      ∧ ((((p.heardPeer y l inc).otherHeard wasLive ((p.peer y).rebornBy inc) first).rolesHearOther wasLive).group
          g).claim = none
      ∧ ((((p.heardPeer y l inc).otherHeard wasLive ((p.peer y).rebornBy inc) first).rolesHearOther wasLive).group
          g).holdOff = (p.group g).holdOff := by
  have hgroup := (p.heardPeer y l inc).group_otherHeard wasLive ((p.peer y).rebornBy inc) first g
  have hlive := Part.otherLive_heard (p := p) l inc hy wasLive ((p.peer y).rebornBy inc) first
  have hstanding := Part.standing_heard (p := p) l inc hy wasLive first g
  rw [Part.group_heardPeer] at hgroup
  generalize (p.heardPeer y l inc).otherHeard wasLive ((p.peer y).rebornBy inc) first = q at *
  obtain ⟨hclaim, hholdOff⟩ : (q.group g).claim = some c ∧ (q.group g).holdOff = (p.group g).holdOff := by
    rw [hgroup]
    split <;> exact ⟨hc, rfl⟩
  have hserves : q.standing g ≠ some .active := by
    rw [hstanding]
    rcases hs with hs | hs
    · simp [hs]
    · split
      · nofun
      · exact hs
  rw [← hholdOff]
  exact Part.rolesHearOther_vacant wasLive hclaim hk hlive hserves

/-! #### The Vote Records at a rebirth (R150) -/

theorem Part.vote_forgetAnswers (p : Part) (y : Station) (g : Group) :
    (p.forgetAnswers y).vote g = (p.vote g).setMemory y none := by
  unfold Part.forgetAnswers
  cases g <;> simp

theorem VoteRecord.setMemory_member {y : Station} (hy : y ≠ .s2) (v : VoteRecord) :
    v.setMemory y none = { v with
      memory0 := if y = .s0 then none else v.memory0
      memory1 := if y = .s1 then none else v.memory1 } := by
  cases y with
  | s0 => rfl
  | s1 => rfl
  | s2 => exact absurd rfl hy

/-- A witness that hears of a change of record: its Vote Records alone move, and only at a rebirth. -/
theorem Part.blocksHear_votes {y : Station} (hm : p.isMember = false) (hy : y ≠ .s2) (wasLive reborn first : Bool)
    (g : Group) : (p.blocksHear y wasLive reborn first).vote g = if reborn then { p.vote g with
        memory0 := if y = .s0 then none else (p.vote g).memory0
        memory1 := if y = .s1 then none else (p.vote g).memory1 } else p.vote g := by
  rw [Part.blocksHear_witness y hm]
  cases reborn
  · rfl
  · exact (p.vote_forgetAnswers y g).trans (VoteRecord.setMemory_member hy _)

theorem Part.blocksHear_witness_leaves (y : Station) (hm : p.isMember = false) (wasLive reborn first : Bool) :
    (p.blocksHear y wasLive reborn first).rcu = p.rcu ∧ (p.blocksHear y wasLive reborn first).rpu = p.rpu
      ∧ (p.blocksHear y wasLive reborn first).smt = p.smt ∧ (p.blocksHear y wasLive reborn first).mbi = p.mbi := by
  rw [Part.blocksHear_witness y hm]
  cases reborn <;> exact ⟨rfl, rfl, rfl, rfl⟩

/-! #### The header step as a whole -/

/-- The header step at the other member in the Replication Unit and the table, by what the record was (R55 to R58, R74). -/
theorem Part.heard_replication {y : Station} (l : Lane) (inc : BitVec 16) :
    let t := ((p.heardPeer y l inc).otherHeard (p.peerLive y) ((p.peer y).rebornBy inc)
      (decide ((p.peer y).state = .absent))).rolesHearOther (p.peerLive y)
    ((p.peer y).state = .absent ∨ (p.peer y).incarnation ≠ some inc → t.smt.refreshWalk = some 0)
      ∧ ((p.peer y).state = .lost → (p.peer y).incarnation = some inc → t.smt = p.smt ∧ t.rpu = p.rpu)
      ∧ ((p.peer y).state ≠ .absent → (p.peer y).incarnation ≠ some inc → t.rpu.receipts = [])
      ∧ ((p.peer y).state = .live → (p.peer y).incarnation ≠ some inc → p.Agree →
          t.rpu = { p.rpu with
            sendList := p.rpu.sendList ++ p.completedSlots
            inFlight := p.rpu.inFlight.filter fun r => r.transmitting
            recallMark := p.rpu.recallMark || p.mbi.inHand.any fun h => h.frame.session
            receipts := [] }
          ∧ ∀ x, t.entry x = (p.entry x).map fun e => { e.broughtBack (x ∈ p.completedSlots) with noted := false })
      ∧ ((p.peer y).state ≠ .live → (p.peer y).state = .absent ∨ (p.peer y).incarnation ≠ some inc →
          t.rpu = (if (p.peer y).state = .absent then p.rpu else { p.rpu with receipts := [] })
          ∧ ∀ x, t.entry x = (p.entry x).map fun e => { e with noted := false }) := by
  intro t
  obtain ⟨-, -, hsmt, hrpu, -, -⟩ := p.heardPeer_leaves y l inc
  obtain ⟨-, hhand, -⟩ := p.heardPeer_mbi y l inc
  obtain ⟨-, hsmt', hrpu', -⟩ := Part.rolesHearOther_leaves ((p.heardPeer y l inc).otherHeard (p.peerLive y)
    ((p.peer y).rebornBy inc) (decide ((p.peer y).state = .absent))) (p.peerLive y)
  have hentry (x : Slot) : (p.heardPeer y l inc).entry x = p.entry x := by rw [Part.entry, hsmt]; rfl
  have hentry' (x : Slot) : t.entry x = ((p.heardPeer y l inc).otherHeard (p.peerLive y) ((p.peer y).rebornBy inc)
      (decide ((p.peer y).state = .absent))).entry x := by rw [Part.entry, hsmt']; rfl
  have hslots : (p.heardPeer y l inc).completedSlots = p.completedSlots := by
    rw [Part.completedSlots, hrpu]
    rfl
  simp only [t, hsmt', hrpu', hentry'] at *
  refine ⟨fun h => ?refresh, fun hlost hsame => ?kept, fun ha hi => ?reborn, fun hlive hi hagree => ?live,
    fun haway h => ?away⟩
  case refresh =>
    refine Part.refreshWalk_otherHeard _ ?_
    by_cases ha : (p.peer y).state = .absent
    · exact .inl (decide_eq_true ha)
    · exact .inr (PeerRec.rebornBy_iff.2 ⟨ha, h.resolve_left ha⟩)
  case kept =>
    have hsame' : (p.peer y).rebornBy inc = false := by simp [PeerRec.rebornBy, hsame]
    simp only [hsame', hlost, reduceCtorEq, decide_false]
    exact ⟨hsmt, hrpu⟩
  case reborn =>
    simp only [PeerRec.rebornBy_iff.2 ⟨ha, hi⟩, ha, decide_false]
    exact Part.receipts_otherHeard _ _
  case live =>
    have ha : (p.peer y).state ≠ .absent := by simp [hlive]
    have hlive' : p.peerLive y = true := decide_eq_true hlive
    have hagree' : (p.heardPeer y l inc).Agree := (Part.Keeps.of_eq hsmt hrpu).agree hagree
    simp only [PeerRec.rebornBy_iff.2 ⟨ha, hi⟩, ha, decide_false, hlive']
    simpa only [hrpu, hhand, hslots, hentry] using Part.otherHeard_live hagree'
  case away =>
    have haway' : p.peerLive y = false := decide_eq_false haway
    have hflag : (p.peer y).rebornBy inc = !decide ((p.peer y).state = .absent) := by
      by_cases ha : (p.peer y).state = .absent
      · simp [PeerRec.rebornBy, ha]
      · simp [PeerRec.rebornBy, ha, h.resolve_left ha]
    rw [hflag, haway']
    simpa only [hrpu, hentry, decide_eq_true_eq] using
      (p.heardPeer y l inc).otherHeard_away (decide ((p.peer y).state = .absent))

/-- The fence causes of a member after the header step (R137). -/
theorem Part.heard_fence (hm : p.isMember = true) (y : Station) (l : Lane) (inc : BitVec 16) (wasLive reborn first : Bool) :
    ((p.heardPeer y l inc).blocksHear y wasLive reborn first).rcu.fence
      = if wasLive then p.rcu.fence else { p.rcu.fence with noQuorum := false } := by
  obtain ⟨-, -, -, -, hrcu, -⟩ := p.heardPeer_leaves y l inc
  rw [Part.fence_blocksHear ((p.isMember_heardPeer y l inc).trans hm), hrcu]

/-- A FENCED group listens once the last cause has cleared, while the other member neither serves nor claims it (R119, R141). -/
theorem Part.heard_listens (hm : p.isMember = true) (y : Station) (l : Lane) (inc : BitVec 16) (reborn first : Bool)
    {g : Group} (hf : p.role g = .fenced) (hc : (p.group g).claim = none) (hany : p.rcu.fence.any = true)
    (hnone : ((p.heardPeer y l inc).blocksHear y false reborn first).rcu.fence.any = false)
    (hidle : ((p.heardPeer y l inc).blocksHear y false reborn first).listenMeets g = false) :
    ((p.heardPeer y l inc).blocksHear y false reborn first).role g = .listen
      ∧ (((p.heardPeer y l inc).blocksHear y false reborn first).group g).listen = some (p.after p.holdDown) := by
  obtain ⟨hprofile, hclock, -, -, hrcu, -⟩ := p.heardPeer_leaves y l inc
  have hgroup := p.group_heardPeer y l inc g
  have hdown : (p.heardPeer y l inc).after (p.heardPeer y l inc).holdDown = p.after p.holdDown := by
    simp [Part.after, Part.holdDown, hprofile, hclock]
  rw [← hdown]
  exact Part.blocksHear_listens ((p.isMember_heardPeer y l inc).trans hm) _ _ ((congrArg GroupRec.role hgroup).trans hf)
    ((congrArg GroupRec.claim hgroup).trans hc) (by rw [hrcu]; exact hany) hnone hidle

/-- A witness after the header step: a rebirth makes the sender's answer memory absent in both Vote Records (R150). -/
theorem Part.heard_witness (hw : p.isWitness = true) {y : Station} (hy : y ≠ p.self) (l : Lane) (inc : BitVec 16)
    (wasLive reborn first : Bool) :
    let t := (p.heardPeer y l inc).blocksHear y wasLive reborn first
    t.rcu = p.rcu ∧ t.rpu = p.rpu ∧ t.smt = p.smt ∧ t.mbi.answers = p.mbi.answers
      ∧ ∀ g, t.vote g = if reborn then { p.vote g with
          memory0 := if y = .s0 then none else (p.vote g).memory0
          memory1 := if y = .s1 then none else (p.vote g).memory1 } else p.vote g := by
  obtain ⟨-, hself⟩ : p.profile.isSome = true ∧ p.self = .s2 := by simpa [Part.isWitness] using hw
  have hm : (p.heardPeer y l inc).isMember = false := by rw [Part.isMember_heardPeer]; simp [Part.isMember, hself]
  obtain ⟨-, -, hsmt, hrpu, hrcu, hwtu⟩ := p.heardPeer_leaves y l inc
  obtain ⟨-, -, hanswers⟩ := p.heardPeer_mbi y l inc
  obtain ⟨hrcu', hrpu', hsmt', hmbi'⟩ := Part.blocksHear_witness_leaves y hm wasLive reborn first
  have hvote (g : Group) : (p.heardPeer y l inc).vote g = p.vote g := by rw [Part.vote, hwtu]; rfl
  refine ⟨hrcu'.trans hrcu, hrpu'.trans hrpu, hsmt'.trans hsmt, (congrArg Mbi.answers hmbi').trans hanswers, fun g => ?_⟩
  rw [← hvote]
  exact Part.blocksHear_votes hm (fun h => hy (h.trans hself.symm)) _ _ _ g

/-- Settles O18: the record and its notice (`Part.heardPeer`), what every station keeps (`Part.blocksHear_leaves`), then on a
member the Replication Unit (`Part.heard_replication`), the groups (`Part.heard_rebirth`, `Part.heard_vacant`) and the fences
(`Part.blocksHear_listens`), and on a witness its Vote Records (`Part.blocksHear_votes`). -/
theorem headerStepFollowsThePeerRecord : Obligations.HeaderStepFollowsThePeerRecord := by
  intro s l rx y inc hr htakes hl hq hy hj hnew
  let p := s.laneRenewed l
  have hexec := exec_validFrame hr htakes hl hq hj
  rw [if_neg (by exact hy), Part.takeFromOther_align (p := p) l rx.bytes hnew] at hexec
  obtain ⟨hprofile, hclock, -, -, -, hwtu⟩ := p.heardPeer_leaves y l inc
  obtain ⟨hexpect, -, -⟩ := p.heardPeer_mbi y l inc
  have hmember := p.isMember_heardPeer y l inc
  have hother := p.otherMember_heardPeer y l inc
  obtain ⟨hworld, ⟨notices, hnotices, -⟩, hbus⟩ := (p.heardPeer y l inc).blocksHear_leaves y (p.peerLive y)
    ((p.peer y).rebornBy inc) (decide ((p.peer y).state = .absent))
  refine ⟨_, hexec, ?record, ?expect, fun hmark hroom => ?notice, fun hm hyo => ?other,
    fun hm' => ⟨fun hlive => ?kept, fun haway => ⟨?cleared, fun hany hnone g hf hc hidle => ?listens⟩⟩,
    fun hw => ?witness, fun hm => ?votes, hworld.clock.trans hclock, hworld.profile.trans hprofile⟩
  case record =>
    have hrecord := p.heardPeer_ppu y l inc
    rw [PeerRec.heard_eq] at hrecord
    exact hworld.ppu.trans hrecord
  case expect => exact (congrArg (PerStation.get · y) hbus.expect).trans hexpect
  case notice =>
    rw [p.heardPeer_egress y l inc hmark hroom] at hnotices
    exact ⟨notices, hnotices.symm⟩
  case other =>
    have hyo' : y = p.otherMember := hyo
    rw [Part.blocksHear_other (hmember.trans hm) (hyo'.trans hother.symm)]
    obtain ⟨hrefresh, hreturn, hreborn, hlive, haway⟩ := Part.heard_replication (p := p) (y := y) l inc
    refine ⟨hrefresh, fun h hi => ?_, hreborn, fun h hagree => ?_, haway, fun g ha hi hc => ?_, fun g c hc hk hs => ?_⟩
    · obtain ⟨hsame, hrpu⟩ := hreturn h hi
      exact ⟨congrArg Smt.refreshWalk hsame, congrArg Smt.table hsame, hrpu⟩
    · exact hlive h (hnew.resolve_left fun hn => hn h) (Part.agree_of_listsAgree hagree)
    · exact Part.heard_rebirth (p := p) l hyo' _ _ (PeerRec.rebornBy_iff.2 ⟨ha, hi⟩) hc
    · exact Part.heard_vacant (p := p) l hyo' _ _ hc hk (hs.imp_left PeerRec.rebornBy_iff.2)
  case kept => exact (Part.heard_fence (p := p) hm' y l inc _ _ _).trans (if_pos (decide_eq_true hlive))
  case cleared =>
    exact (Part.heard_fence (p := p) hm' y l inc _ _ _).trans (if_neg fun h => haway (of_decide_eq_true h))
  case listens =>
    have haway' : p.peerLive y = false := decide_eq_false haway
    rw [haway'] at hnone hidle ⊢
    refine Part.heard_listens (p := p) hm' y l inc _ _ hf hc hany hnone (Bool.eq_false_iff.2 fun hmeets => ?_)
    obtain ⟨hlive, hstanding⟩ := (Part.listenMeets_iff _ g).1 hmeets
    rcases hidle with hdead | ⟨hactive, hyielding, hclaiming⟩
    · exact absurd hlive (Bool.eq_false_iff.1 hdead)
    · exact hstanding.elim hactive (·.elim hyielding hclaiming)
  case witness =>
    obtain ⟨hrcu', hrpu', hsmt', hanswers, hvote⟩ := Part.heard_witness (p := p) hw hy l inc (p.peerLive y)
      ((p.peer y).rebornBy inc) (decide ((p.peer y).state = .absent))
    exact ⟨hrcu', hrpu', hsmt', hanswers, fun g => (hvote g).trans (if_congr PeerRec.rebornBy_iff rfl rfl)⟩
  case votes => exact (Part.rolesHear_blocksHear (hmember.trans hm) y _ _ _).wtu.trans hwtu

end Sys2Proof.Machine

/-! ### What an act makes of the roles -/

namespace Sys2Proof.Machine

/-! #### Buffers that a group has given up (R166) -/

/-- A buffer that is not FILLING for group `g`, and void where it is POSTED for it (R166). -/
def Buffer.DisownedBy (g : Group) : Buffer → Prop
  | .free => True
  | .filling g' _ => g' ≠ g
  | .posted g' _ _ _ void => g' = g → void = true

/-- Group `g` has no takeover walk, no FILLING buffer, and no POSTED one that is not void (R166). -/
structure Part.Disowned (p : Part) (g : Group) : Prop where
  takeover : p.smt.takeover.get g = none
  buffers : ∀ i, (p.buffer i).DisownedBy g

theorem Part.Disowned.fillingBuffer {p : Part} {g : Group} (h : p.Disowned g) : p.fillingBuffer g = none := by
  refine List.find?_eq_none.2 fun i _ hf => ?_
  have hi := h.buffers i
  cases hb : p.buffer i <;> simp_all [Buffer.fillingFor, Buffer.DisownedBy]

theorem Part.Disowned.void {p : Part} {g : Group} (h : p.Disowned g) {i : Fin 8} {recs : List BufferRec}
    {final emitted void : Bool} (hb : p.buffer i = .posted g recs final emitted void) : void = true := by
  have hi := h.buffers i
  rw [hb] at hi
  exact hi rfl

theorem Part.Disowned.of_eq {p q : Part} {g : Group} (h : p.Disowned g) (ht : q.smt.takeover.get g = none)
    (hk : q.tku.buffers = p.tku.buffers) : q.Disowned g :=
  ⟨ht, fun i => by unfold Part.buffer; rw [hk]; exact h.buffers i⟩

theorem Part.Disowned.setBuffer {p : Part} {g : Group} (h : p.Disowned g) {i : Fin 8} {b : Buffer}
    (hb : b.DisownedBy g) : (p.setBuffer i b).Disowned g := by
  refine ⟨h.takeover, fun j => ?_⟩
  rw [Part.buffer_setBuffer]
  split
  · exact hb
  · exact h.buffers j

/-- A change of every buffer that makes none the group's. -/
theorem Part.Disowned.map {p : Part} {g : Group} (h : p.Disowned g) {f : Buffer → Buffer}
    (hf : ∀ b : Buffer, b.DisownedBy g → (f b).DisownedBy g) :
    ({ p with tku := { p.tku with buffers := p.tku.buffers.map f } } : Part).Disowned g := by
  refine ⟨h.takeover, fun i => ?_⟩
  have hi : ({ p with tku := { p.tku with buffers := p.tku.buffers.map f } } : Part).buffer i = f (p.buffer i) := by
    simp [Part.buffer]
  rw [hi]
  exact hf _ (h.buffers i)

theorem Buffer.disownedBy_leave (g : Group) (b : Buffer) : (b.leave g).DisownedBy g := by
  cases b with
  | free => trivial
  | filling g' recs => by_cases hg : g' = g <;> simp [Buffer.leave, Buffer.DisownedBy, hg]
  | posted g' recs final emitted void => simp +contextual [Buffer.leave, Buffer.DisownedBy]

theorem Buffer.DisownedBy.leave {g h : Group} {b : Buffer} (hb : b.DisownedBy g) : (b.leave h).DisownedBy g := by
  cases b with
  | free => trivial
  | filling g' recs =>
    by_cases hg : g' = h
    · simp [Buffer.leave, Buffer.DisownedBy, hg]
    · simpa [Buffer.leave, hg] using hb
  | posted g' recs final emitted void => exact fun hg => by simp [hb hg]

theorem Buffer.DisownedBy.noteTaken {g : Group} {b : Buffer} (hb : b.DisownedBy g) (slot : Slot) :
    (b.noteTaken slot).DisownedBy g := by
  cases b <;> exact hb

/-- Stopping a group's takeover walk gives up its buffers (R166). -/
theorem Part.disowned_stopTakeover (p : Part) (g : Group) : (p.stopTakeover g).Disowned g := by
  refine ⟨PerGroup.get_set_same _ _ _, fun i => ?_⟩
  have hi : (p.stopTakeover g).buffer i = (p.buffer i).leave g := by simp [Part.buffer, Part.stopTakeover, Part.setWalk]
  rw [hi]
  exact Buffer.disownedBy_leave g _

/-- What stops one group's walk leaves what another has given up. -/
theorem Part.Disowned.stopTakeover {p : Part} {g : Group} (h : p.Disowned g) (h' : Group) :
    (p.stopTakeover h').Disowned g := by
  have hw : (p.setWalk h' none).Disowned g := by
    refine h.of_eq ?_ rfl
    change (p.smt.takeover.set h' none).get g = none
    rw [PerGroup.get_set]
    split
    · rfl
    · exact h.takeover
  exact hw.map fun b hb => hb.leave

/-! #### Acts in which every role stands -/

/-- What a group holds beside its role, as implications (R116). -/
theorem GroupRec.ok_iff (r : GroupRec) : r.ok = true ↔
    (r.claim.isSome = true ↔ r.role = .claiming) ∧ (r.pendingFrame.isSome = true ↔ r.role = .yielding)
      ∧ (r.handover.isSome = true ↔ r.role = .yielding) ∧ (r.listen.isSome = true → r.role = .listen)
      ∧ (r.deadTimer.isSome = true → r.role = .claiming) ∧ (r.vacancy ≠ .stopped → r.role = .standby)
      ∧ ∀ c, r.claim = some c → c.held = true → c.txTick.isSome = true := by
  have reads (a : Bool) (c : Prop) [Decidable c] : a = decide c ↔ (a = true ↔ c) := by cases a <;> simp
  simp only [GroupRec.ok, Bool.and_eq_true, Bool.or_eq_true, Bool.not_eq_true', decide_eq_true_eq, reads, and_assoc,
    Option.all_eq_true, ← Bool.not_eq_true, ← imp_iff_not_or, or_iff_not_imp_left (a := r.vacancy = .stopped)]

/-- A group's record with its role and its FPg line as they were, and as sound as it was. -/
structure GroupRec.Stands (r r' : GroupRec) : Prop where
  role : r'.role = r.role
  fp : r'.fp = r.fp
  ok : r.ok = true → r'.ok = true

@[refl] theorem GroupRec.Stands.refl (r : GroupRec) : r.Stands r := ⟨rfl, rfl, id⟩

theorem GroupRec.Stands.trans {r r' r'' : GroupRec} (h : r.Stands r') (h' : r'.Stands r'') : r.Stands r'' :=
  ⟨h'.role.trans h.role, h'.fp.trans h.fp, h'.ok ∘ h.ok⟩

/-- `q` comes of `p` by an act in which every role stands: the configuration and the forget walks stand too, a fence applies as it
did, the engine silence timer starts on a member alone, the egress FIFO takes what it takes at its tail and the ROLE marks stand, and
a group gets back no buffer it has given up. -/
structure Part.RolesStand (p q : Part) : Prop where
  profile : q.profile = p.profile
  group : ∀ g, (p.group g).Stands (q.group g)
  fence : q.rcu.fence.any = p.rcu.fence.any
  silence : q.rcu.silence.isSome = true → p.rcu.silence.isSome = true ∨ p.isMember = true
  egress : ∃ added, q.evp.egress = p.evp.egress ++ added
  marks : q.evp.roleMarks = p.evp.roleMarks
  forget : q.smt.forget = p.smt.forget
  disowned : ∀ g, p.Disowned g → q.Disowned g

theorem Part.isMember_congr {p q : Part} (h : q.profile = p.profile) : q.isMember = p.isMember := by
  have hs : q.self = p.self := by rw [Part.self, h, Part.self]
  simp [Part.isMember, h, hs]

namespace Part.RolesStand

variable {p q r : Part}

@[refl] theorem refl (p : Part) : p.RolesStand p :=
  ⟨rfl, fun _ => .refl _, rfl, .inl, ⟨[], by simp⟩, rfl, rfl, fun _ => id⟩

theorem trans (h : p.RolesStand q) (h' : q.RolesStand r) : p.RolesStand r where
  profile := h'.profile.trans h.profile
  group g := (h.group g).trans (h'.group g)
  fence := h'.fence.trans h.fence
  silence hs := (h'.silence hs).elim h.silence fun hm => .inr ((Part.isMember_congr h.profile).symm.trans hm)
  egress := by
    obtain ⟨a, ha⟩ := h.egress
    obtain ⟨b, hb⟩ := h'.egress
    exact ⟨a ++ b, by rw [hb, ha, List.append_assoc]⟩
  marks := h'.marks.trans h.marks
  forget := h'.forget.trans h.forget
  disowned g := h'.disowned g ∘ h.disowned g

theorem role (h : p.RolesStand q) (g : Group) : q.role g = p.role g := (h.group g).role

/-- Acts that touch neither the Role Controller nor the egress FIFO, nor the walks. -/
theorem of_walks (hp : q.profile = p.profile) (hr : q.rcu = p.rcu) (he : q.evp = p.evp) (hf : q.smt.forget = p.smt.forget)
    (hd : ∀ g, p.Disowned g → q.Disowned g) : p.RolesStand q where
  profile := hp
  group g := by unfold Part.group; rw [hr]
  fence := by rw [hr]
  silence := by rw [hr]; exact .inl
  egress := ⟨[], by rw [he, List.append_nil]⟩
  marks := by rw [he]
  forget := hf
  disowned := hd

/-- Acts that leave the takeover walks and the buffers too. -/
theorem of_eq (hp : q.profile = p.profile := by rfl) (hr : q.rcu = p.rcu := by rfl) (he : q.evp = p.evp := by rfl)
    (hf : q.smt.forget = p.smt.forget := by rfl) (ht : q.smt.takeover = p.smt.takeover := by rfl)
    (hk : q.tku = p.tku := by rfl) : p.RolesStand q :=
  of_walks hp hr he hf fun _ h => h.of_eq (by rw [ht]; exact h.takeover) (by rw [hk])

/-- Acts that leave all of the Session Mirror. -/
theorem of_smt (hp : q.profile = p.profile) (hr : q.rcu = p.rcu) (he : q.evp = p.evp) (hs : q.smt = p.smt)
    (hk : q.tku = p.tku) : p.RolesStand q := of_eq hp hr he (by rw [hs]) (by rw [hs]) hk

/-- Acts that place a record at the tail of the egress FIFO, and no ROLE mark. -/
theorem of_place (added : List EgressRecord) (he : q.evp.egress = p.evp.egress ++ added)
    (hm : q.evp.roleMarks = p.evp.roleMarks) (hp : q.profile = p.profile := by rfl) (hr : q.rcu = p.rcu := by rfl)
    (hs : q.smt = p.smt := by rfl) (hk : q.tku = p.tku := by rfl) : p.RolesStand q where
  profile := hp
  group g := by unfold Part.group; rw [hr]
  fence := by rw [hr]
  silence := by rw [hr]; exact .inl
  egress := ⟨added, he⟩
  marks := hm
  forget := by rw [hs]
  disowned _ h := h.of_eq (by rw [hs]; exact h.takeover) (by rw [hk])

/-- Acts that change the groups' records alone, each as `GroupRec.Stands` says. -/
theorem of_groups (hg : ∀ g, (p.group g).Stands (q.group g)) (hf : q.rcu.fence = p.rcu.fence)
    (hs : q.rcu.silence = p.rcu.silence) (hp : q.profile = p.profile) (he : q.evp = p.evp) (hsmt : q.smt = p.smt)
    (hk : q.tku = p.tku) : p.RolesStand q where
  profile := hp
  group := hg
  fence := by rw [hf]
  silence := by rw [hs]; exact .inl
  egress := ⟨[], by rw [he, List.append_nil]⟩
  marks := by rw [he]
  forget := by rw [hsmt]
  disowned _ h := h.of_eq (by rw [hsmt]; exact h.takeover) (by rw [hk])

theorem setGroup {g : Group} {x : GroupRec} (hx : (p.group g).Stands x) : p.RolesStand (p.setGroup g x) :=
  of_groups (fun h => by rw [Part.group_setGroup]; split <;> [(subst h; exact hx); rfl]) rfl rfl rfl rfl rfl rfl

/-- A left fold of such acts. -/
theorem foldl {α : Type} {f : Part → α → Part} (hf : ∀ (q : Part) a, q.RolesStand (f q a)) (xs : List α) (p : Part) :
    p.RolesStand (xs.foldl f p) := by
  induction xs generalizing p with
  | nil => exact refl p
  | cons x xs ih => exact (hf p x).trans (ih _)

/-- The same for a right fold. -/
theorem foldr {α : Type} {f : α → Part → Part} (hf : ∀ (q : Part) a, q.RolesStand (f a q)) (xs : List α) (p : Part) :
    p.RolesStand (xs.foldr f p) := by
  induction xs with
  | nil => exact refl p
  | cons x xs ih => exact ih.trans (hf _ x)

end Part.RolesStand

end Sys2Proof.Machine

namespace Sys2Proof.Machine

variable (p : Part)

/-! #### The takeover walks and the install buffers -/

theorem Part.stands_putEntry (slot : Slot) (e : Option Entry) : p.RolesStand (p.putEntry slot e) := .of_eq

theorem Part.stands_closeEntry (slot : Slot) (e : Entry) : p.RolesStand (p.closeEntry slot e) := by
  unfold Part.closeEntry
  (repeat' split) <;> exact .of_eq

theorem Part.stands_disposeExpired (slot : Slot) (e : Entry) : p.RolesStand (p.disposeExpired slot e) := by
  unfold Part.disposeExpired
  split
  · exact .of_eq
  · exact p.stands_closeEntry slot e

theorem Part.stands_adopt (slot : Slot) (e : Entry) : p.RolesStand (p.adopt slot e) := by
  unfold Part.adopt
  split <;> exact .of_eq

/-- A walk that is under way moves or ends. -/
theorem Part.stands_setWalk {g : Group} (hw : p.smt.takeover.get g ≠ none) (w : Option TakeoverWalk) :
    p.RolesStand (p.setWalk g w) := by
  refine .of_walks rfl rfl rfl rfl fun h hd => hd.of_eq ?_ rfl
  change (p.smt.takeover.set g w).get h = none
  rw [PerGroup.get_set]
  split
  · rename_i hg
    exact absurd (hg ▸ hd.takeover) hw
  · exact hd.takeover

/-- A buffer is written that no other group has given up. -/
theorem Part.stands_setBuffer {g : Group} (hw : p.smt.takeover.get g ≠ none) {i : Fin 8} {b : Buffer}
    (hb : ∀ h, h ≠ g → b.DisownedBy h) : p.RolesStand (p.setBuffer i b) :=
  .of_walks rfl rfl rfl rfl fun h hd => hd.setBuffer (hb h fun hg => hw (hg ▸ hd.takeover))

theorem Part.stands_post {g : Group} (hw : p.smt.takeover.get g ≠ none) (i : Fin 8) (recs : List BufferRec) (final : Bool) :
    p.RolesStand (p.post i g recs final) :=
  (p.stands_setBuffer hw (b := .posted g recs final false false) fun _ hne hg => absurd hg.symm hne).trans
    (.of_walks rfl rfl rfl rfl fun _ hd => hd.of_eq hd.takeover rfl)

theorem Part.stands_writeRecord {g : Group} (hw : p.smt.takeover.get g ≠ none) (i : Fin 8) (recs : List BufferRec)
    (x : InstallRecord) : p.RolesStand (p.writeRecord g i recs x) := by
  unfold Part.writeRecord
  dsimp only
  split
  · exact p.stands_post hw i _ _
  · exact p.stands_setBuffer hw fun _ hne hg => hne hg.symm

/-- A walk that is under way passes the slot, or waits at it. -/
theorem Part.stands_visitEntry {g : Group} (hw : p.smt.takeover.get g ≠ none) (c : Nat) (e : Entry) :
    p.RolesStand (p.visitEntry g c e) := by
  have kept {q : Part} (ht : q.smt.takeover = p.smt.takeover) : q.smt.takeover.get g ≠ none := ht ▸ hw
  unfold Part.visitEntry
  dsimp only
  split
  · exact p.stands_setWalk hw _
  · split
    · refine (p.stands_disposeExpired _ _).trans (Part.stands_setWalk _ (kept ?_) _)
      unfold Part.disposeExpired Part.closeEntry
      (repeat' split) <;> rfl
    · split
      · exact p.stands_setWalk hw _
      · have ha : (p.adopt (slotAt c) e).smt.takeover.get g ≠ none := by
          refine kept ?_
          unfold Part.adopt
          split <;> rfl
        exact ((p.stands_adopt _ _).trans (Part.stands_writeRecord _ ha _ _ _)).trans
          (Part.stands_setWalk _ (by rw [Part.writeRecord_smt]; exact ha) _)

theorem Part.stands_takeoverVisit (g : Group) : p.RolesStand (p.takeoverVisit g) := by
  unfold Part.takeoverVisit
  split
  · rfl
  · rename_i w hw
    have hn : p.smt.takeover.get g ≠ none := by simp [hw]
    split
    · rfl
    · split
      · exact p.stands_visitEntry hn _ _
      · split
        · rfl
        · exact p.stands_setWalk hn _

theorem Part.stands_takeoverEnd (g : Group) : p.RolesStand (p.takeoverEnd g) := by
  unfold Part.takeoverEnd
  split
  · rfl
  · rename_i w hw
    have hn : p.smt.takeover.get g ≠ none := by simp [hw]
    split
    · rfl
    · split
      · exact p.stands_setWalk hn _
      · exact (p.stands_post hn _ _ _).trans (Part.stands_setWalk _ (by rw [Part.post_smt]; exact hn) _)

theorem Part.stands_retryWalk (g : Group) : p.RolesStand (p.retryWalk g) := by
  unfold Part.retryWalk
  split
  · rename_i w hw
    have moved : p.RolesStand (p.walkTo g w.cursor) := p.stands_setWalk (by simp [hw]) _
    split
    · rfl
    · split
      · exact moved.trans (Part.stands_takeoverVisit _ g)
      · exact moved.trans (Part.stands_takeoverEnd _ g)
  · rfl

theorem Part.stands_serveWaiting : p.RolesStand p.serveWaiting := by
  have both (q : Part) (g h : Group) : q.RolesStand ((q.retryWalk g).retryWalk h) :=
    (q.stands_retryWalk g).trans (Part.stands_retryWalk _ h)
  have drawn : p.RolesStand p.drawn := .of_eq
  unfold Part.serveWaiting
  split
  · split
    · exact drawn.trans (both _ _ _)
    · exact drawn.trans (both _ _ _)
  · exact both _ _ _

theorem Part.stands_serveFreed (before : Part) : p.RolesStand (p.serveFreed before) := by
  unfold Part.serveFreed
  split
  · exact p.stands_serveWaiting
  · rfl

/-! #### Replication -/

theorem Part.stands_returnTail (attempts : Entry → Nat) (slot : Slot) : p.RolesStand (p.returnTail attempts slot) := by
  unfold Part.returnTail
  (repeat' split) <;> exact .of_eq

theorem Part.stands_returnHead (slot : Slot) : p.RolesStand (p.returnHead slot) := by
  unfold Part.returnHead
  (repeat' split) <;> exact .of_eq

theorem Part.stands_returnAll : p.RolesStand p.returnAll := by
  have marked (q : Part) : q.RolesStand q.markRecall := by
    unfold Part.markRecall
    (repeat' split) <;> exact .of_eq
  exact ((Part.RolesStand.foldl (fun q slot => q.stands_returnTail _ slot) _ p).trans (marked _)).trans .of_eq

theorem Part.stands_timeOut (slot : Slot) : p.RolesStand (p.timeOut slot) := by
  unfold Part.timeOut
  split
  · dsimp only
    split
    · exact p.stands_returnTail _ slot
    · exact ((p.stands_returnTail _ slot).trans (Part.stands_returnAll _)).trans .of_eq
  · rfl

theorem Part.stands_takePair (x : Slot × Version) : p.RolesStand (p.takePair x) := by
  unfold Part.takePair
  (repeat' split) <;> exact .of_eq

theorem Part.stands_applyWire (w : WireRecord) : p.RolesStand (p.applyWire w) := by
  have noted (q : Part) : q.RolesStand (q.noteTaken w.slot) :=
    .of_walks rfl rfl rfl rfl fun _ hd => hd.map fun _ hb => hb.noteTaken w.slot
  unfold Part.applyWire
  dsimp only
  refine .trans ?_ (Part.stands_putEntry _ _ _)
  split
  · exact noted p
  · rfl

theorem Part.stands_reassert (slot : Slot) (e : Entry) : p.RolesStand (p.reassert slot e) := by
  unfold Part.reassert
  split <;> exact .of_eq

theorem Part.stands_takeWire {w : WireRecord} {q : Part} (h : p.takeWire w = some q) : p.RolesStand q := by
  have applied (q : Part) : q.RolesStand ((q.applyWire w).makeReceipt w.slot w.version) :=
    (q.stands_applyWire w).trans .of_eq
  unfold Part.takeWire Part.meetCollision at h
  (repeat' split at h) <;> cases h
  · exact applied p
  · exact p.stands_reassert _ _
  · exact applied p
  · exact (p.stands_reassert _ _).trans .of_eq
  · exact .trans (q := p.revokeAppend w.slot) .of_eq (applied _)
  · exact applied p
  · exact applied p

theorem Part.stands_takeDrop (ps : List (Slot × Version)) : p.RolesStand (p.takeDrop ps) := by
  induction ps generalizing p with
  | nil => rfl
  | cons x ps ih =>
    have removed : p.RolesStand ((p.removeShadow x.1).makeReceipt x.1 x.2) := by
      unfold Part.removeShadow
      (repeat' split) <;> exact .of_eq
    unfold Part.takeDrop
    split
    · exact removed.trans (ih _)
    · rfl

theorem Part.stands_frameRun (slots : List Slot) : p.RolesStand (slots.foldl Part.frameSlot p) := by
  refine .foldl (fun q slot => ?_) slots p
  unfold Part.frameSlot
  split <;> exact .of_eq

theorem Part.stands_startRefresh : p.RolesStand p.startRefresh := .of_eq

theorem Part.stands_refreshEntry (slot : Slot) (e : Entry) : p.RolesStand (p.refreshEntry slot e) := by
  unfold Part.refreshEntry
  (repeat' split) <;> exact .of_eq

theorem Part.stands_replicationHears (wasLive reborn first : Bool) :
    p.RolesStand (p.replicationHears wasLive reborn first) := by
  unfold Part.replicationHears
  split
  · exact p.stands_startRefresh
  · split
    · have returned : p.RolesStand (if wasLive then p.returnAll else p) := by
        split
        · exact p.stands_returnAll
        · rfl
      exact (returned.trans (q := if wasLive then p.returnAll else p) .of_eq).trans (Part.stands_startRefresh _)
    · rfl

/-! #### The outcomes of a frame (R100) -/

theorem Part.stands_sessionCompleted (isDelta : Bool) : p.RolesStand (p.sessionCompleted isDelta) := by
  have held (q : Part) (slot : Slot) : q.RolesStand (q.heldByPeer slot) := by
    unfold Part.heldByPeer
    split <;> exact .of_eq
  have tails (q : Part) (slots : List Slot) :
      q.RolesStand (slots.foldl (fun q slot => q.returnTail (fun _ => 0) slot) q) :=
    .foldl (fun q slot => q.stands_returnTail _ slot) _ _
  have recalled (c : Prop) [Decidable c] (q : Part) (slots : List Slot) :
      q.RolesStand (if c then slots.foldl (fun q slot => q.returnTail (fun _ => 0) slot) q else q) := by
    split
    · exact tails q slots
    · rfl
  have stamped : p.RolesStand
      (if isDelta then p.frameSlots.foldl Part.heldByPeer p.stampCompletion else p.stampCompletion) := by
    split
    · exact .trans (q := p.stampCompletion) .of_eq (.foldl held _ _)
    · exact .of_eq
  exact (stamped.trans (recalled _ _ _)).trans .of_eq

theorem Part.stands_sessionAbandoned : p.RolesStand p.sessionAbandoned :=
  (Part.RolesStand.foldr (fun q slot => q.stands_returnHead slot) _ p).trans .of_eq

theorem Part.stands_pulseCompleted (merits : PerGroup (BitVec 8)) : p.RolesStand (p.pulseCompleted merits) := by
  unfold Part.pulseCompleted
  split
  · refine .of_groups (fun g => ?_) rfl rfl rfl rfl rfl rfl
    cases g <;> exact ⟨rfl, rfl, id⟩
  · rfl

/-- A CLAIM that succeeds gives the claim its deadline, and the group the dead-time timer that belongs to CLAIMING. -/
theorem Part.stands_claimSucceeded (f : ClaimFrame) : p.RolesStand (p.claimSucceeded f) := by
  unfold Part.claimSucceeded
  split
  · rename_i c hc
    split
    · refine .setGroup ⟨rfl, rfl, fun hok => ?_⟩
      rw [GroupRec.ok_iff] at hok ⊢
      obtain ⟨hclaim, hpending, hhandover, hlisten, -, hvacancy, -⟩ := hok
      have hr : (p.group f.group).role = .claiming := hclaim.1 (by simp [hc])
      exact ⟨by simp [hr], hpending, hhandover, hlisten, fun _ => hr, hvacancy, by simp⟩
    · rfl
  · rfl

theorem Part.stands_outcome (frame : TxFrame) (stale completed : Bool) : p.RolesStand (p.outcome frame stale completed) := by
  cases frame with
  | align l => rfl
  | pulse merits =>
    change p.RolesStand (if completed then p.pulseCompleted merits else p)
    split
    · exact p.stands_pulseCompleted merits
    · rfl
  | delta =>
    change p.RolesStand (if completed then p.sessionCompleted true else p.sessionAbandoned)
    split
    · exact p.stands_sessionCompleted true
    · exact p.stands_sessionAbandoned
  | drop =>
    change p.RolesStand (if completed then p.sessionCompleted false else p.sessionAbandoned)
    split
    · exact p.stands_sessionCompleted false
    · exact p.stands_sessionAbandoned
  | receipt => exact .of_eq
  | claim f =>
    change p.RolesStand (if completed then p.claimSucceeded f else p.claimAbandoned f)
    split
    · exact p.stands_claimSucceeded f
    · unfold Part.claimAbandoned
      (repeat' split) <;> exact .of_eq
  | answer a =>
    change p.RolesStand (if completed then p else p.answerAbandoned a stale)
    split
    · rfl
    · unfold Part.answerAbandoned Part.verdictAbandoned
      (repeat' split) <;> exact .of_eq
  | yield g =>
    change p.RolesStand (if completed || stale then p else p.queueYield g)
    split <;> exact .of_eq

theorem Part.stands_endCopy (h : InHand) (completed : Bool) : p.RolesStand (p.endCopy h completed) := by
  unfold Part.endCopy
  dsimp only
  split
  · exact .of_eq
  · exact .trans (q := p.handEmptied) .of_eq (Part.stands_outcome _ _ _ _)

/-! #### Lanes and the transmitter -/

theorem Part.stands_laneNotice (l : Lane) : p.RolesStand (p.laneNotice l) := by
  unfold Part.laneNotice
  split
  · exact .of_place [] (List.append_nil _).symm rfl
  · exact .of_place [_] rfl rfl

theorem Part.stands_peerNotice (y : Station) : p.RolesStand (p.peerNotice y) := by
  unfold Part.peerNotice
  split
  · exact .of_place [] (List.append_nil _).symm rfl
  · exact .of_place [_] rfl rfl

theorem Part.stands_laneTo (l : Lane) (new : LaneState) : p.RolesStand (p.laneTo l new) := by
  have abandoned (q : Part) : q.RolesStand q.abandonLost := by
    unfold Part.abandonLost
    split
    · split
      · exact q.stands_endCopy _ _
      · rfl
    · rfl
  exact ((Part.RolesStand.trans (q := p.setLane l ((p.lane l).enter new p.clock)) .of_eq
    (Part.stands_laneNotice _ l)).trans (abandoned _)).trans .of_eq

/-- A change of a lane's record, with the change of state that may follow. -/
theorem Part.stands_setLane_laneTo (l : Lane) (r : LaneRec) (c : Prop) [Decidable c] (m : Lane) (new : LaneState) :
    p.RolesStand (if c then (p.setLane l r).laneTo m new else p.setLane l r) := by
  have written : p.RolesStand (p.setLane l r) := .of_eq
  split
  · exact written.trans (Part.stands_laneTo _ _ _)
  · exact written

theorem Part.stands_countBad (l : Lane) : p.RolesStand (p.countBad l) := by
  unfold Part.countBad
  dsimp only
  split
  · exact p.stands_setLane_laneTo _ _ _ _ _
  · rfl

theorem Part.stands_laneHears (l : Lane) : p.RolesStand (p.laneHears l) := by
  have late (q : Part) (m : Lane) : q.RolesStand (q.lateEvidence m) := by
    unfold Part.lateEvidence
    split
    · exact q.stands_laneTo _ _
    · rfl
  exact (p.stands_setLane_laneTo _ _ _ _ _).trans (late _ _)

theorem Part.stands_takeFrame {q : Part} (h : p.takeFrame = some q) : p.RolesStand q := by
  have align (l : Lane) (h : p.takeAlignFrame l = some q) : p.RolesStand q := by
    unfold Part.takeAlignFrame at h
    dsimp only at h
    split at h <;> cases h
    exact .of_eq
  simp only [Part.takeFrame, Option.orElse_eq_orElse, Option.orElse_eq_or, Option.or_eq_some_iff] at h
  rcases h with h | ⟨-, h | ⟨-, h | ⟨-, h | ⟨-, h | ⟨-, h | ⟨-, h | ⟨-, h⟩⟩⟩⟩⟩⟩⟩
  · unfold Part.takeAnswerFrame at h
    (repeat' split at h) <;> cases h
    exact .of_eq
  · unfold Part.takeClaimFrame at h
    (repeat' split at h) <;> cases h
    exact .of_eq
  · unfold Part.takeYieldFrame at h
    (repeat' split at h) <;> cases h
    exact .of_eq
  · unfold Part.takeReceiptFrame at h
    split at h <;> cases h
    rename_i hb
    unfold Part.buildReceipt at hb
    split at hb <;> cases hb
    exact .of_eq
  · unfold Part.takePulseFrame at h
    split at h <;> cases h
    exact .of_eq
  · unfold Part.takeSessionFrame at h
    split at h <;> cases h
    rename_i hb
    unfold Part.buildSession at hb
    (repeat' split at hb) <;> cases hb <;> exact (p.stands_frameRun _).trans .of_eq
  · exact align _ h
  · exact align _ h

theorem Part.stands_transmitterTake : p.RolesStand p.transmitterTake := by
  unfold Part.transmitterTake
  split
  · cases h : p.takeFrame with
    | none => rfl
    | some q => exact p.stands_takeFrame h
  · rfl

theorem Part.stands_collision : p.RolesStand p.collision := by
  unfold Part.collision Part.collide
  split
  · split
    · split
      · exact p.stands_endCopy _ _
      · exact .of_eq
    · rfl
  · rfl

theorem Part.stands_frameDone : p.RolesStand p.frameDone := by
  unfold Part.frameDone
  split
  · split
    · exact p.stands_endCopy _ _
    · rfl
  · rfl

/-! #### Records -/

theorem Part.stands_takeOpen (ws : List Word32) : p.RolesStand (p.takeOpen ws).1 := by
  unfold Part.takeOpen
  (repeat' split) <;> exact .of_eq

theorem Part.stands_takeUpdate (ws : List Word32) : p.RolesStand (p.takeUpdate ws).1 := by
  unfold Part.takeUpdate
  (repeat' split) <;> exact .of_eq

theorem Part.stands_takeStatus (ws : List Word32) : p.RolesStand (p.takeStatus ws).1 := by
  unfold Part.takeStatus
  split <;> exact .of_eq

/-- A RELEASE frees a buffer, and a FREE buffer is no group's (R165). -/
theorem Part.stands_release (i : Fin 8) : p.RolesStand (p.release i) := by
  have record (g : Group) (q : Part) (r : BufferRec) : q.RolesStand (q.releaseRecord g r) := by
    unfold Part.releaseRecord Part.markInstalled
    (repeat' split) <;> exact .of_eq
  have served (q : Part) : q.RolesStand (q.setBuffer i .free).serveWaiting :=
    .trans (q := q.setBuffer i .free) (.of_walks rfl rfl rfl rfl fun _ hd => hd.setBuffer trivial)
      (Part.stands_serveWaiting _)
  unfold Part.release
  split
  · dsimp only
    split
    · exact served _
    · exact (Part.RolesStand.foldl (record _) _ _).trans (served _)
  · rfl

theorem Part.stands_takeRelease (ws : List Word32) : p.RolesStand (p.takeRelease ws).1 := by
  unfold Part.takeRelease
  (repeat' split) <;> first | exact .of_eq | exact p.stands_release _

theorem Part.stands_takeRevoked {x : EgressRecord × Part} (h : p.takeRevoked = some x) : p.RolesStand x.2 := by
  unfold Part.takeRevoked at h
  split at h <;> cases h
  exact .of_eq

/-- A BATCH leaves its buffer POSTED, and void where it was (R163). -/
theorem Part.stands_takeBatch {x : EgressRecord × Part} (h : p.takeBatch = some x) : p.RolesStand x.2 := by
  unfold Part.takeBatch at h
  split at h
  · cases h
  · rename_i i rest _
    split at h
    · rename_i g recs final emitted void hb
      cases h
      refine .of_walks rfl rfl rfl rfl fun h hd => ?_
      have hset := hd.setBuffer (i := i) (b := .posted g recs final true void) (by
        have hi := hd.buffers i
        rw [hb] at hi
        exact hi)
      exact hset.of_eq hset.takeover rfl
    · cases h

theorem Part.stands_enableLane (c : Profile) (l : Lane) : p.RolesStand (p.enableLane c l) := by
  unfold Part.enableLane
  split
  · exact p.stands_laneTo _ _
  · rfl

end Sys2Proof.Machine

namespace Sys2Proof.Machine

variable {p q : Part}

/-! #### Roles and fences that agree (R116, R137, R140, R141, R143) -/

/-- What `Part.groupsOk` and `Part.fencesOk` say together. -/
structure Part.RolesSound (p : Part) : Prop where
  ok : ∀ g, (p.group g).ok = true
  member : p.isMember = true → ∀ g, p.role g ≠ .dormant ∧ (p.role g = .fenced ↔ p.rcu.fence.any = true)
  other : p.isMember = false → (∀ g, p.role g = .dormant) ∧ p.rcu.fence.any = false ∧ p.rcu.silence = none

theorem Part.rolesSound_iff : p.RolesSound ↔ p.groupsOk = true ∧ p.fencesOk = true := by
  have groups (P : Group → Prop) : (∀ g, P g) ↔ P .g0 ∧ P .g1 := ⟨fun h => ⟨h _, h _⟩, fun h g => by cases g; exacts [h.1, h.2]⟩
  have reads (c : Prop) [Decidable c] (b : Bool) : decide (decide c = b) = true ↔ (c ↔ b = true) := by cases b <;> simp
  constructor
  · intro h
    refine ⟨by simpa [Part.groupsOk] using (groups _).1 h.ok, ?_⟩
    cases hm : p.isMember
    · obtain ⟨hr, hf, hs⟩ := h.other hm
      simp [Part.fencesOk, hm, hr, hf, hs]
    · obtain ⟨h0, h1⟩ := (groups _).1 (h.member hm)
      rw [← reads] at h0 h1
      simp [Part.fencesOk, hm, h0.1, h1.1, of_decide_eq_true h0.2, of_decide_eq_true h1.2]
  · rintro ⟨hg, hf⟩
    refine ⟨(groups _).2 (by simpa [Part.groupsOk] using hg), fun hm => (groups _).2 ?_, fun hm => ?_⟩
    · simp only [Part.fencesOk, hm, if_true, Bool.and_eq_true, reads] at hf
      obtain ⟨⟨⟨h0, h1⟩, h2⟩, h3⟩ := hf
      exact ⟨⟨of_decide_eq_true h0, h2⟩, of_decide_eq_true h1, h3⟩
    · simpa [Part.fencesOk, hm, groups, and_assoc] using hf

namespace Part.RolesSound

/-- A fence applies on a member alone, and then to every group. -/
theorem fenced (h : p.RolesSound) (hf : p.rcu.fence.any = true) : p.isMember = true ∧ ∀ g, p.role g = .fenced := by
  cases hm : p.isMember
  · simp [(h.other hm).2.1] at hf
  · exact ⟨rfl, fun g => ((h.member hm g).2).2 hf⟩

theorem claiming (h : p.RolesSound) {g : Group} {c : ClaimRecord} (hc : (p.group g).claim = some c) :
    p.role g = .claiming := (((GroupRec.ok_iff _).1 (h.ok g)).1).1 (by simp [hc])

/-- A change of the groups' records that leaves the fences keeps them in agreement, if it makes no role DORMANT or FENCED that was not,
and none otherwise that was. -/
theorem of_groups (h : p.RolesSound) (hp : q.profile = p.profile) (hf : q.rcu.fence.any = p.rcu.fence.any)
    (hs : q.rcu.silence.isSome = true → p.rcu.silence.isSome = true ∨ p.isMember = true)
    (hok : ∀ g, (q.group g).ok = true)
    (hr : ∀ g, (q.role g = .dormant ↔ p.role g = .dormant) ∧ (q.role g = .fenced ↔ p.role g = .fenced)) :
    q.RolesSound := by
  have hm := Part.isMember_congr hp
  refine ⟨hok, fun hq g => ?_, fun hq => ?_⟩
  · obtain ⟨hd, hfe⟩ := h.member (hm ▸ hq) g
    exact ⟨fun hx => hd ((hr g).1.1 hx), by rw [(hr g).2, hf]; exact hfe⟩
  · obtain ⟨hd, hfe, hsi⟩ := h.other (hm ▸ hq)
    refine ⟨fun g => (hr g).1.2 (hd g), hf ▸ hfe, ?_⟩
    by_contra hn
    rcases hs (Option.isSome_iff_ne_none.2 hn) with hx | hx
    · simp [hsi] at hx
    · rw [hm, hx] at hq; cases hq

/-- The same, where one group's role alone changes. -/
theorem of_group (h : p.RolesSound) {g : Group} {r : GroupRec} (hg : ∀ x, q.group x = if x = g then r else p.group x)
    (hp : q.profile = p.profile) (hf : q.rcu.fence = p.rcu.fence) (hs : q.rcu.silence = p.rcu.silence)
    (hok : r.ok = true) (hd : p.role g ≠ .dormant) (hfe : p.role g ≠ .fenced) (hd' : r.role ≠ .dormant)
    (hfe' : r.role ≠ .fenced) : q.RolesSound := by
  refine h.of_groups hp (by rw [hf]) (by rw [hs]; exact .inl) (fun x => ?_) fun x => ?_
  · rw [hg]
    split
    · exact hok
    · exact h.ok x
  · unfold Part.role at *
    rw [hg]
    split
    · subst x; simp [hd, hfe, hd', hfe']
    · simp

end Part.RolesSound

/-- A role that holds nothing beside it (R116). -/
theorem GroupRec.ok_enter (r : GroupRec) {new : Role} (hc : new ≠ .claiming) (hy : new ≠ .yielding) : (r.enter new).ok = true := by
  simp [GroupRec.ok_iff, GroupRec.enter, hc, hy]

theorem GroupRec.ok_claimed (r : GroupRec) (kind : ClaimKind) : (r.claimed kind).ok = true := by
  simp [GroupRec.ok_iff, GroupRec.claimed, GroupRec.enter]

/-- A group's record as it becomes YIELDING (R134). -/
def GroupRec.yielded (r : GroupRec) (deadline : Tick) (pending : PendingFrame) : GroupRec :=
  { r.enter .yielding with handover := some deadline, pendingFrame := some pending }

theorem GroupRec.ok_yielded (r : GroupRec) (deadline : Tick) (pending : PendingFrame) : (r.yielded deadline pending).ok = true := by
  simp [GroupRec.ok_iff, GroupRec.yielded, GroupRec.enter]

theorem Part.ok_listening (p : Part) (g : Group) : (p.listening g).ok = true := by
  simp [GroupRec.ok_iff, Part.listening, GroupRec.enter]

/-! #### The moves of an act -/

/-- The part with group `g` YIELDING, before the tests that follow (R134). -/
def Part.yielded (p : Part) (g : Group) (cause : RoleCause) (pending : PendingFrame) : Part :=
  let q := p.exitActive g .yielding cause
  q.setGroup g { q.group g with handover := some (q.after q.handoverTimeout), pendingFrame := some pending }

/-- Every group left for FENCED (R140). -/
def Part.fencedAll (p : Part) (f : FenceCauses) : Part := ((p.setFence f).fenceGroup .g0).fenceGroup .g1

/-- Every FENCED group left for LISTEN (R141). -/
def Part.unfencedAll (p : Part) (f : FenceCauses) : Part := ((p.setFence f).unfenceGroup .g0).unfenceGroup .g1

/-- Group `g` was not ACTIVE as the act began. -/
def Part.Inactive (s : Part) (g : Group) : Prop := s.RolesSound → s.role g ≠ .active

/-- Group `g` may go to STANDBY with this cause in an act begun on `s`: from LISTEN, by the flush of its yielding, or where it was not
ACTIVE as the act began. -/
def Part.MayStandBy (s p : Part) (g : Group) (cause : RoleCause) : Prop :=
  p.role g = .listen ∨ (p.role g = .yielding ∧ cause = .flushed)
    ∨ ((p.role g = .claiming ∨ p.role g = .yielding) ∧ s.Inactive g)

/-- What an act begun on `s` can have made of the roles so far, one move after another; a group may enter ACTIVE where `A` says so.
The conditions are those under which the act makes the move; some of them are the model's only while the roles and fences agree. -/
inductive Part.Reach (A : Group → Prop) (s : Part) : Part → Prop
  /-- Nothing yet. -/
  | start : Reach A s s
  /-- A move in which every role stands. -/
  | stands {p q : Part} (h : Reach A s p) (hq : p.RolesStand q) : Reach A s q
  /-- The forget walk of a group moves that has not left ACTIVE in the act. -/
  | forgets {p : Part} (h : Reach A s p) (g : Group) (c : Option Nat)
      (hg : s.RolesSound → s.role g = .active → p.role g = .active) : Reach A s (p.setForget g c)
  /-- The freed egress place is filled, ahead of what the act has placed (R179). -/
  | places {p : Part} (h : Reach A s p) (r : EgressRecord) : Reach A s (p.placeAt s.evp.egress.length r)
  /-- A group enters STANDBY. -/
  | standsBy {p : Part} (h : Reach A s p) (g : Group) (cause : RoleCause) (hg : p.RolesSound → s.MayStandBy p g cause) :
      Reach A s (p.setRole g .standby cause)
  /-- A group makes a claim. -/
  | claims {p : Part} (h : Reach A s p) (g : Group) (kind : ClaimKind) (hr : p.role g = .standby ∨ p.role g = .listen)
      (hk : kind = .handed → s.Inactive g) : Reach A s (p.makeClaim g kind)
  /-- A group leaves ACTIVE for STANDBY. -/
  | leaves {p : Part} (h : Reach A s p) (g : Group) (cause : RoleCause) (hr : p.role g = .active)
      (hc : cause = .splitBrain ∨ cause = .handedAway) : Reach A s (p.exitActive g .standby cause)
  /-- A group leaves ACTIVE for YIELDING. -/
  | yields {p : Part} (h : Reach A s p) (g : Group) (cause : RoleCause) (pending : PendingFrame) (hr : p.role g = .active)
      (hc : cause = .preempted ∨ cause = .handover) : Reach A s (p.yielded g cause pending)
  /-- The first fence cause applies. -/
  | fences {p : Part} (h : Reach A s p) (f : FenceCauses) (hp : p.rcu.fence.any = false) (hf : f.any = true)
      (hm : s.RolesSound → p.isMember = true) : Reach A s (p.fencedAll f)
  /-- The last fence cause clears. -/
  | unfences {p : Part} (h : Reach A s p) (f : FenceCauses) (hp : p.rcu.fence.any = true) (hf : f.any = false)
      (hg : p.RolesSound → ∀ g, s.Inactive g) : Reach A s (p.unfencedAll f)
  /-- A group enters ACTIVE. -/
  | activates {p : Part} (h : Reach A s p) (g : Group) (cause : RoleCause) (hA : A g)
      (hg : p.RolesSound → p.role g = .claiming ∧ s.Inactive g) : Reach A s (p.activated g cause)
  /-- The PROFILE is accepted; a member enters LISTEN for every group (R116, R174). -/
  | configures {p q : Part} (h : Reach A s p) (c : Profile) (hp : p.profile = none)
      (hq : Part.RolesStand { p with profile := some c } q) :
      Reach A s (if c.station = .s2 then q else (q.startListen .g0 .profile).startListen .g1 .profile)

/-! #### The groups after a move -/

theorem Part.group_yielded (p : Part) (g h : Group) (cause : RoleCause) (pending : PendingFrame) :
    (p.yielded g cause pending).group h
      = if h = g then (p.group g).yielded (p.after p.handoverTimeout) pending else p.group h := by
  have ht : (p.exitActive g .yielding cause).after (p.exitActive g .yielding cause).handoverTimeout
      = p.after p.handoverTimeout := by simp [Part.after, Part.handoverTimeout]
  unfold Part.yielded
  rw [Part.group_setGroup, Part.group_exitActive, Part.group_exitActive, ht]
  split <;> simp_all [GroupRec.yielded]

theorem Part.group_fencedAll (p : Part) (f : FenceCauses) (g : Group) :
    (p.fencedAll f).group g
      = if p.role g ≠ .dormant ∧ p.role g ≠ .fenced then (p.group g).enter .fenced else p.group g := by
  have h := (p.setFence f).group_fenceAll g
  rw [Part.fenceAll, Part.group_serveFreed] at h
  exact h

theorem Part.group_unfencedAll (p : Part) (f : FenceCauses) (g : Group) :
    (p.unfencedAll f).group g = if p.role g = .fenced then p.listening g else p.group g := by
  split
  · rename_i hr
    exact (p.setFence f).group_unfenceGroups hr
  · rename_i hr
    unfold Part.unfencedAll
    rw [Part.group_unfenceGroup, Part.group_unfenceGroup]
    cases g <;> simp_all [Part.role, Part.group_unfenceGroup]

theorem Part.group_startListen (p : Part) (g h : Group) (cause : RoleCause) :
    (p.startListen g cause).group h = if h = g then p.listening g else p.group h := by
  have ht : (p.setRole g .listen cause).after (p.setRole g .listen cause).holdDown = p.after p.holdDown := by
    simp [Part.after, Part.holdDown]
  unfold Part.startListen
  dsimp only
  rw [Part.group_setGroup, Part.group_setRole, Part.group_setRole, ht]
  split <;> simp_all [Part.listening]

end Sys2Proof.Machine

namespace Sys2Proof.Machine

variable {A : Group → Prop} {s p q : Part}

/-! #### FPg in an act (R117) -/

/-- The record's FPg line is as `r` has it with the same role, or follows a role that is ACTIVE only where `a` holds. -/
def GroupRec.FpFrom (a : Prop) (r r' : GroupRec) : Prop :=
  (r'.role = r.role ∧ r'.fp = r.fp) ∨ (r'.fp = decide (r'.role = .active) ∧ (r'.role = .active → a))

theorem GroupRec.FpFrom.stands {a : Prop} {r r' r'' : GroupRec} (h : r.FpFrom a r') (hr : r''.role = r'.role)
    (hf : r''.fp = r'.fp) : r.FpFrom a r'' := by
  unfold GroupRec.FpFrom
  rw [hr, hf]
  exact h

/-- A role that is entered sets FPg by it. -/
theorem GroupRec.FpFrom.entered {a : Prop} (r : GroupRec) {r' : GroupRec} {new : Role} (hr : r'.role = new)
    (hf : r'.fp = decide (new = .active)) (ha : new = .active → a) : r.FpFrom a r' :=
  .inr ⟨by rw [hf, hr], fun h => ha (hr.symm.trans h)⟩

/-- Whatever an act has made so far, each FPg line stands with its role, or follows the role entered. -/
theorem Part.Reach.fpFrom (h : Part.Reach A s p) (g : Group) : (s.group g).FpFrom (A g) (p.group g) := by
  -- one group's record is written by the entry to a role that is not ACTIVE
  have one {p q : Part} {h : Group} {r : GroupRec} {new : Role} (ih : (s.group g).FpFrom (A g) (p.group g))
      (hq : q.group g = if g = h then r else p.group g) (hr : r.role = new) (hf : r.fp = decide (new = .active))
      (hn : new ≠ .active) : (s.group g).FpFrom (A g) (q.group g) := by
    rw [hq]
    split
    · exact .entered _ hr hf fun hx => absurd hx hn
    · exact ih
  induction h with
  | start => exact .inl ⟨rfl, rfl⟩
  | stands _ hq ih => exact ih.stands (hq.group g).role (hq.group g).fp
  | forgets _ _ _ _ ih => exact ih
  | places _ _ ih => exact ih
  | @standsBy p _ g' cause _ ih => exact one ih (Part.group_setRole p g' g .standby cause) rfl rfl nofun
  | @claims p _ g' kind _ _ ih => exact one ih (p.group_makeClaim g' g kind) rfl rfl nofun
  | @leaves p _ g' cause _ _ ih => exact one ih (Part.group_exitActive p g' g .standby cause) rfl rfl nofun
  | @yields p _ g' cause pending _ _ ih => exact one ih (p.group_yielded g' g cause pending) rfl rfl nofun
  | @fences p _ f _ _ _ ih =>
    rw [Part.group_fencedAll]
    split
    · exact .entered _ rfl rfl nofun
    · exact ih
  | @unfences p _ f _ _ _ ih =>
    rw [Part.group_unfencedAll]
    split
    · exact .entered _ rfl rfl nofun
    · exact ih
  | @activates p _ g' cause hA _ ih =>
    rw [Part.group_activated]
    split
    · rename_i hg
      exact .entered _ rfl rfl fun _ => hg ▸ hA
    · exact ih
  | @configures p q _ c _ hq ih =>
    have ih' : (s.group g).FpFrom (A g) (q.group g) := ih.stands (hq.group g).role (hq.group g).fp
    split
    · exact ih'
    · exact one (one ih' (q.group_startListen .g0 g .profile) rfl rfl nofun)
        (Part.group_startListen _ .g1 g .profile) rfl rfl nofun

/-! #### Roles and fences in an act (R116, R137, R140, R141) -/

/-- A move that enters one role, neither DORMANT nor FENCED, from such a role. -/
theorem Part.RolesSound.setRole (h : p.RolesSound) {g : Group} (hd : p.role g ≠ .dormant) (hf : p.role g ≠ .fenced)
    (cause : RoleCause) : (p.setRole g .standby cause).RolesSound :=
  h.of_group (Part.group_setRole p g · .standby cause) (by simp) (by simp) (by simp)
    (GroupRec.ok_enter _ (by decide) (by decide)) hd hf (by simp [GroupRec.enter]) (by simp [GroupRec.enter])

/-- The first fence cause fences every group, and a group is DORMANT on no member (R140). -/
theorem Part.RolesSound.fencedAll (h : p.RolesSound) (hm : p.isMember = true) {f : FenceCauses} (hf : f.any = true) :
    (p.fencedAll f).RolesSound := by
  have hmem : (p.fencedAll f).isMember = true := by
    rw [Part.isMember_congr (p := p) (by simp [Part.fencedAll])]; exact hm
  have hrole (g : Group) : (p.fencedAll f).role g = .fenced := by
    have hd := (h.member hm g).1
    unfold Part.role at *
    rw [Part.group_fencedAll]
    split
    · rfl
    · rename_i hn
      exact not_not.1 fun hx => hn ⟨hd, hx⟩
  have hfence : (p.fencedAll f).rcu.fence = f := by
    have hx := (p.setFence f).fence_fenceAll
    rw [Part.fenceAll, Part.serveFreed_rcu] at hx
    exact hx
  refine ⟨fun g => ?_, fun _ g => ?_, fun hn => by rw [hmem] at hn; cases hn⟩
  · rw [Part.group_fencedAll]
    split
    · exact GroupRec.ok_enter _ (by decide) (by decide)
    · exact h.ok g
  · rw [hrole g, hfence]
    simp [hf]

/-- The last fence cause that clears takes every group to LISTEN (R141). -/
theorem Part.RolesSound.unfencedAll (h : p.RolesSound) (ha : p.rcu.fence.any = true) {f : FenceCauses} (hf : f.any = false) :
    (p.unfencedAll f).RolesSound := by
  obtain ⟨hm, hr⟩ := h.fenced ha
  have hgroup (g : Group) : (p.unfencedAll f).group g = p.listening g := by rw [Part.group_unfencedAll, if_pos (hr g)]
  have hmem : (p.unfencedAll f).isMember = true := by
    rw [Part.isMember_congr (p := p) (by simp [Part.unfencedAll])]; exact hm
  have hfence : (p.unfencedAll f).rcu.fence = f :=
    ((Part.GroupsAlone.unfenceGroup _ .g0).trans (Part.GroupsAlone.unfenceGroup _ .g1)).fence
  refine ⟨fun g => by rw [hgroup]; exact p.ok_listening g, fun _ g => ?_, fun hn => by rw [hmem] at hn; cases hn⟩
  have hrole : (p.unfencedAll f).role g = .listen := congrArg GroupRec.role (hgroup g)
  rw [hrole, hfence]
  simp [hf]

theorem Part.GroupsAlone.startListen (p : Part) (g : Group) (cause : RoleCause) : p.GroupsAlone (p.startListen g cause) :=
  .trans (.setRole p g .listen cause) rfl

/-- The PROFILE takes a member's groups from DORMANT to LISTEN, and leaves a witness's (R116). -/
theorem Part.RolesSound.configured (h : p.RolesSound) (hp : p.profile = none) {c : Profile}
    (hq : Part.RolesStand { p with profile := some c } q) :
    (if c.station = .s2 then q else (q.startListen .g0 .profile).startListen .g1 .profile).RolesSound := by
  have hn : p.isMember = false := by simp [Part.isMember, hp]
  obtain ⟨hr, hf, hs⟩ := h.other hn
  have hself : q.self = c.station := Part.self_of_profile hq.profile
  split
  · rename_i hc
    have hm : q.isMember = false := by simp [Part.isMember, hself, hc]
    refine ⟨fun g => (hq.group g).ok (h.ok g), fun hx => (by rw [hm] at hx; cases hx), fun _ => ⟨fun g => ?_, ?_, ?_⟩⟩
    · exact (hq.role g).trans (hr g)
    · exact hq.fence.trans hf
    · by_contra hx
      rcases hq.silence (Option.isSome_iff_ne_none.2 hx) with hy | hy
      · exact absurd hs (Option.isSome_iff_ne_none.1 hy)
      · have := Part.isMember_congr hq.profile
        rw [hm, hy] at this; cases this
  · rename_i hc
    have hgroup (g : Group) : ((q.startListen .g0 .profile).startListen .g1 .profile).group g = q.listening g := by
      have hl : (q.startListen .g0 .profile).listening .g1 = q.listening .g1 := by
        simp [Part.listening, Part.group_startListen, Part.after, Part.holdDown]
      rw [Part.group_startListen, hl, Part.group_startListen]
      cases g <;> simp
    have hm : ((q.startListen .g0 .profile).startListen .g1 .profile).isMember = true := by
      rw [Part.isMember_congr (p := q) (by simp)]
      simp [Part.isMember, hself, hc, hq.profile]
    have hfence : ((q.startListen .g0 .profile).startListen .g1 .profile).rcu.fence = q.rcu.fence :=
      ((Part.GroupsAlone.startListen q .g0 .profile).trans (Part.GroupsAlone.startListen _ .g1 .profile)).fence
    refine ⟨fun g => by rw [hgroup]; exact q.ok_listening g, fun _ g => ?_, fun hx => by rw [hm] at hx; cases hx⟩
    have hrole : ((q.startListen .g0 .profile).startListen .g1 .profile).role g = .listen := congrArg GroupRec.role (hgroup g)
    have hany : p.rcu.fence.any = false := hf
    rw [hrole, hfence, hq.fence]
    simp [hany]

/-- The condition of an entry to STANDBY names the roles it may come from. -/
theorem Part.MayStandBy.roles {g : Group} {cause : RoleCause} (h : s.MayStandBy p g cause) :
    p.role g ≠ .dormant ∧ p.role g ≠ .fenced ∧ p.role g ≠ .active := by
  rcases h with h | ⟨h, -⟩ | ⟨h | h, -⟩ <;> simp [h]

/-- An act that begins with the roles and the fences in agreement keeps them so after each of its moves. -/
theorem Part.Reach.sound (h : Part.Reach A s p) (hs : s.RolesSound) : p.RolesSound := by
  induction h with
  | start => exact hs
  | @stands p q _ hq ih =>
    exact ih.of_groups hq.profile hq.fence hq.silence (fun g => (hq.group g).ok (ih.ok g)) fun g => by simp [hq.role g]
  | forgets _ _ _ _ ih => exact ⟨ih.ok, ih.member, ih.other⟩
  | places _ _ ih => exact ⟨ih.ok, ih.member, ih.other⟩
  | standsBy _ g cause hg ih =>
    obtain ⟨hd, hf, -⟩ := (hg ih).roles
    exact ih.setRole hd hf cause
  | @claims p _ g kind hr _ ih =>
    refine ih.of_group (p.group_makeClaim g · kind) (by simp) (Part.GroupsAlone.makeClaim p g kind).fence
      (Part.GroupsAlone.makeClaim p g kind).silence (GroupRec.ok_claimed _ kind) ?_ ?_ nofun nofun
    all_goals rcases hr with hr | hr <;> simp [hr]
  | @leaves p _ g cause hr _ ih =>
    exact ih.of_group (Part.group_exitActive p g · .standby cause) (by simp) (by simp [Part.exitActive])
      (by simp [Part.exitActive]) (GroupRec.ok_enter _ (by decide) (by decide)) (by simp [hr]) (by simp [hr]) nofun nofun
  | @yields p _ g cause pending hr _ ih =>
    exact ih.of_group (p.group_yielded g · cause pending) (by simp [Part.yielded])
      (by simp [Part.yielded, Part.exitActive, Part.setGroup]) (by simp [Part.yielded, Part.exitActive, Part.setGroup])
      (GroupRec.ok_yielded _ _ _) (by simp [hr]) (by simp [hr]) nofun nofun
  | fences _ f _ hf hm ih => exact ih.fencedAll (hm hs) hf
  | unfences _ f hp hf _ ih => exact ih.unfencedAll hp hf
  | @activates p _ g cause _ hg ih =>
    have hr := (hg ih).1
    exact ih.of_group (p.group_activated g · cause) (p.sameWorld_activated g cause).profile (Part.setRole_fence _ _ _ _)
      (Part.setRole_silence _ _ _ _) (GroupRec.ok_enter _ (by decide) (by decide)) (by simp [hr]) (by simp [hr]) nofun nofun
  | configures _ c hp hq ih => exact ih.configured hp hq

end Sys2Proof.Machine

namespace Sys2Proof.Machine

variable {A : Group → Prop} {s p q : Part}

/-! #### The Role Controller's operations, as moves -/

/-- A vacancy timer belongs to STANDBY (R120). -/
theorem Part.stands_updateVacancy {g : Group} (hr : p.role g = .standby) : p.RolesStand (p.updateVacancy g) := by
  refine .of_groups (fun h => ?_) ?_ ?_ (by simp) (by simp) (by simp) (by simp)
  · by_cases hg : h = g
    · subst hg
      rw [Part.group_updateVacancy]
      refine ⟨rfl, rfl, fun hok => ?_⟩
      have hr' : (p.group h).role = .standby := hr
      rw [GroupRec.ok_iff] at hok ⊢
      obtain ⟨hclaim, hpending, hhandover, hlisten, hdead, -, hheld⟩ := hok
      exact ⟨hclaim, hpending, hhandover, hlisten, hdead, fun _ => hr', hheld⟩
    · rw [Part.group_updateVacancy_ne _ hg]
  · exact (Part.GroupsAlone.updateVacancy p g).fence
  · exact (Part.GroupsAlone.updateVacancy p g).silence

/-- A part whose groups' records are rewritten beside role, FPg and what the role holds. -/
theorem Part.stands_setGroup {g : Group} {x : GroupRec} (hr : x.role = (p.group g).role) (hf : x.fp = (p.group g).fp)
    (hok : (p.group g).ok = true → x.ok = true) : p.RolesStand (p.setGroup g x) := .setGroup ⟨hr, hf, hok⟩

/-- A fence applies as it did. -/
theorem Part.stands_setFence (p : Part) {f : FenceCauses} (hf : f.any = p.rcu.fence.any) : p.RolesStand (p.setFence f) :=
  ⟨rfl, fun _ => .refl _, hf, .inl, ⟨[], (List.append_nil _).symm⟩, rfl, rfl, fun _ hd => hd.of_eq hd.takeover rfl⟩

/-- Group `g` is ACTIVE still, if it was as the act began. -/
def Part.Kept (s p : Part) (g : Group) : Prop := s.RolesSound → s.role g = .active → p.role g = .active

theorem Part.Kept.inactive {g : Group} (h : s.Kept p g) (hr : p.role g ≠ .active) : s.Inactive g :=
  fun hs ha => hr (h hs ha)

theorem Part.Kept.of_role {g : Group} (h : s.Kept p g) (hr : q.role g = p.role g) : s.Kept q g :=
  fun hs ha => hr.trans (h hs ha)

namespace Part.Reach

theorem evalStandby (h : Reach A s p) (g : Group) : Reach A s (p.evalStandby g) := by
  unfold Part.evalStandby
  split
  · exact h
  · rename_i hr
    have hr := not_not.1 hr
    have timed : Reach A s (p.updateVacancy g) := h.stands (p.stands_updateVacancy hr)
    have standby : (p.updateVacancy g).role g = .standby := ((p.stands_updateVacancy hr).role g).trans hr
    dsimp only
    split
    · exact timed.claims g .vacant (.inl standby) nofun
    · split
      · exact timed.claims g .preempt (.inl standby) nofun
      · exact timed

theorem enterStandby (h : Reach A s p) (g : Group) (cause : RoleCause) (hg : p.RolesSound → s.MayStandBy p g cause) :
    Reach A s (p.enterStandby g cause) := (h.standsBy g cause hg).evalStandby g

theorem evaluate (h : Reach A s p) (g : Group) : Reach A s (p.evaluate g) := by
  unfold Part.evaluate
  split
  · rename_i hr
    split
    · exact h.enterStandby g _ fun _ => .inl hr
    · exact h
  · exact h.evalStandby g
  · exact h

theorem evaluateAll (h : Reach A s p) : Reach A s p.evaluateAll := (h.evaluate .g0).evaluate .g1

/-- A claim fails (R128): a group that holds one is CLAIMING. -/
theorem failClaim (h : Reach A s p) {g : Group} {c : ClaimRecord} (hc : (p.group g).claim = some c)
    (hi : p.role g = .claiming → s.Inactive g) (holdOff : Bool) : Reach A s (p.failClaim g holdOff) := by
  have fails {q : Part} (hq : Reach A s q) (hc : (q.group g).claim = some c) (hr : q.role g = p.role g) :
      Reach A s (q.enterStandby g .claimFailed) := by
    refine hq.enterStandby g _ fun sound => ?_
    have hclaiming := sound.claiming hc
    exact .inr (.inr ⟨.inl hclaiming, hi (hr.symm.trans hclaiming)⟩)
  unfold Part.failClaim
  dsimp only
  split
  · exact fails (h.stands (p.stands_setGroup rfl rfl id)) (by simp [hc]) (by simp [Part.role])
  · exact fails h hc rfl

theorem applyFence (h : Reach A s p) {f : FenceCauses} (hf : f.any = true) (hm : s.RolesSound → p.isMember = true) :
    Reach A s (p.applyFence f) := by
  unfold Part.applyFence
  split
  · rename_i ha
    exact h.stands (p.stands_setFence (hf.trans ha.symm))
  · rename_i ha
    exact (h.fences f (by simpa using ha) hf hm).stands (Part.stands_serveFreed _ _)

theorem testQuorum (h : Reach A s p) : Reach A s p.testQuorum := by
  unfold Part.testQuorum
  split
  · rename_i hl
    refine h.applyFence (by simp [FenceCauses.any]) fun _ => ?_
    simp only [Part.quorumLost, Bool.and_eq_true] at hl
    obtain ⟨⟨⟨⟨hm, -⟩, -⟩, -⟩, -⟩ := hl
    exact hm
  · exact h

/-- The yielding of a group ends by its flush, or in an act that found it YIELDING (R134). -/
theorem completeYield (h : Reach A s p) {g : Group} (hr : p.role g = .yielding) {timedOut : Bool}
    (hi : timedOut = true → s.Inactive g) : Reach A s (p.completeYield g timedOut) := by
  have entered : Reach A s (p.setRole g .standby (if timedOut then .handoverTimeout else .flushed)) := by
    refine h.standsBy g _ fun _ => ?_
    cases timedOut
    · exact .inr (.inl ⟨hr, rfl⟩)
    · exact .inr (.inr ⟨.inr hr, hi rfl⟩)
  have queued (q : Part) (f : PendingFrame) : q.RolesStand (q.queuePending g timedOut f) := by
    cases f <;> exact .of_eq
  unfold Part.completeYield
  dsimp only
  refine .evalStandby ?_ g
  split
  · exact entered.stands (queued _ _)
  · exact entered

theorem flushTest (h : Reach A s p) (g : Group) : Reach A s (p.flushTest g) := by
  unfold Part.flushTest
  split
  · rename_i hy
    exact h.completeYield hy.1 nofun
  · exact h

theorem flushTests (h : Reach A s p) : Reach A s p.flushTests := (h.flushTest .g0).flushTest .g1

/-- An exit from ACTIVE to STANDBY, with the walks it serves. -/
theorem exitToStandby (h : Reach A s p) {g : Group} (hr : p.role g = .active) {cause : RoleCause}
    (hc : cause = .splitBrain ∨ cause = .handedAway) :
    Reach A s (((p.exitActive g .standby cause).evalStandby g).serveFreed p) :=
  ((h.leaves g cause hr hc).evalStandby g).stands (Part.stands_serveFreed _ _)

theorem enterYielding (h : Reach A s p) {g : Group} (hr : p.role g = .active) {cause : RoleCause}
    (hc : cause = .preempted ∨ cause = .handover) (pending : PendingFrame) :
    Reach A s (p.enterYielding g cause pending) :=
  (((h.yields g cause pending hr hc).testQuorum).flushTest g).stands (Part.stands_serveFreed _ _)

theorem enterActive (h : Reach A s p) {g : Group} (hA : A g) (hg : p.RolesSound → p.role g = .claiming ∧ s.Inactive g)
    (cause : RoleCause) : Reach A s (p.enterActive g cause) := (h.activates g cause hA hg).testQuorum

/-! #### Frames of the other stations -/

theorem claimMeetsActive (h : Reach A s p) (c : ClaimFrame) (hr : p.role c.group = .active) :
    Reach A s (p.claimMeetsActive c) := by
  have contested : Reach A s (p.contest c) :=
    (h.stands (p.stands_setGroup (x := { p.group c.group with contested := some c.number }) rfl rfl id)).stands .of_eq
  unfold Part.claimMeetsActive
  split
  · exact contested
  · split
    · exact h.enterYielding hr (.inl rfl) _
    · exact contested
  · exact h.exitToStandby hr (.inr rfl)

theorem claimByRole (h : Reach A s p) (c : ClaimFrame) (hk : s.Kept p c.group) : Reach A s (p.claimByRole c) := by
  unfold Part.claimByRole
  split
  · rename_i hr
    exact h.claimMeetsActive c hr
  · rename_i hr
    split
    · exact h.enterStandby _ _ fun _ => .inr (.inr ⟨.inr hr, hk.inactive (by simp [hr])⟩)
    · exact h
  · split
    · rename_i own hc
      split
      · exact h.failClaim hc (fun hr => hk.inactive (by simp [hr])) false
      · exact h
    · exact h
  · exact h

theorem takeClaim (h : Reach A s p) (c : ClaimFrame) (hk : s.Kept p c.group) : Reach A s (p.takeClaim c) := by
  have standing : p.RolesStand (p.setGroup c.group { p.group c.group with peerClaiming := true }) :=
    p.stands_setGroup rfl rfl id
  exact evaluateAll ((h.stands standing).claimByRole c (hk.of_role (standing.role _)))

theorem takeAnswer (h : Reach A s p) (sender : Station) (a : AnswerFrame) (hk : s.Kept p a.group) :
    Reach A s (p.takeAnswer sender a) := by
  unfold Part.takeAnswer
  split
  · exact h
  rename_i c hc
  have recorded {c' : ClaimRecord} (hh : c'.held = c.held) (ht : c'.txTick = c.txTick) :
      Reach A s (p.setGroup a.group { p.group a.group with claim := some c' }) := by
    refine h.stands (p.stands_setGroup rfl rfl fun hok => ?_)
    rw [GroupRec.ok_iff] at hok ⊢
    obtain ⟨hclaim, hpending, hhandover, hlisten, hdead, hvacancy, hheld⟩ := hok
    refine ⟨by simpa [hc] using hclaim, hpending, hhandover, hlisten, hdead, hvacancy, fun x hx => ?_⟩
    cases hx
    rw [hh, ht]
    exact hheld c hc
  have fails (holdOff : Bool) : Reach A s (p.failClaim a.group holdOff) :=
    h.failClaim hc (fun hr => hk.inactive (by simp [hr])) holdOff
  split
  · exact h
  · split
    · split
      · exact recorded rfl rfl
      · exact h
    · split
      · exact fails true
      · exact h
    · split
      · split
        · exact recorded rfl rfl
        · exact fails true
      · exact h
    · split
      · refine h.stands (p.stands_setGroup rfl rfl fun hok => ?_)
        rw [GroupRec.ok_iff] at hok ⊢
        obtain ⟨hclaim, hpending, hhandover, hlisten, -, hvacancy, -⟩ := hok
        have hr : (p.group a.group).role = .claiming := hclaim.1 (by simp [hc])
        exact ⟨by simp [hr], hpending, hhandover, hlisten, fun _ => hr, hvacancy, by simp⟩
      · exact h

theorem takeYield (h : Reach A s p) (g : Group) (hk : s.Kept p g) : Reach A s (p.takeYield g) := by
  have claimed (hr : p.role g = .standby ∨ p.role g = .listen) :
      Reach A s (if 0 < p.merit g then p.makeClaim g .handed else p) := by
    split
    · exact h.claims g .handed hr fun _ => hk.inactive (by rcases hr with hr | hr <;> simp [hr])
    · exact h
  unfold Part.takeYield
  split
  · rename_i hr
    exact claimed (.inl hr)
  · rename_i hr
    exact claimed (.inr hr)
  · exact h

theorem pulseMeetsGroup (h : Reach A s p) (g : Group) (r : Role) (announced : Nat) (hk : s.Kept p g) :
    Reach A s (p.pulseMeetsGroup g r announced) := by
  unfold Part.pulseMeetsGroup
  split
  · split
    · rename_i c hc
      have fails : Reach A s (p.failClaim g false) := h.failClaim hc (fun hr => hk.inactive (by simp [hr])) false
      split
      · split
        · exact fails
        · exact h
      · split
        · exact fails
        · exact h
      · exact h
    · exact h
  · rename_i hr
    split
    · exact h.exitToStandby hr (.inl rfl)
    · exact h
  · exact h

theorem pulseOfOther (h : Reach A s p) (roles : PerGroup (Option Role)) (merits : PerGroup (Option (BitVec 8)))
    (hk : ∀ g, s.Kept p g) : Reach A s (p.pulseOfOther roles merits) := by
  have meets {q : Part} (hq : Reach A s q) (g : Group) (hk : s.Kept q g) : Reach A s (q.meetsPulse roles merits g) := by
    unfold Part.meetsPulse
    split
    · exact hq.pulseMeetsGroup g _ _ hk
    · exact hq
  have announced : p.RolesStand (p.standingsAnnounced roles) := by
    have one (q : Part) (g : Group) (r : Option Role) : q.RolesStand (q.pulseStanding g r) :=
      q.stands_setGroup rfl rfl id
    exact (one p .g0 _).trans (one _ .g1 _)
  have kept (g : Group) : s.Kept (p.standingsAnnounced roles) g := (hk g).of_role (announced.role g)
  rw [Part.pulseOfOther_eq]
  refine evaluateAll (meets (meets (h.stands announced) .g0 (kept .g0)) .g1 ((kept .g1).of_role ?_))
  exact congrArg GroupRec.role (Part.group_meetsPulse_ne roles merits _ (by decide))

theorem lossMeetsGroup (h : Reach A s p) (g : Group) (hi : p.role g = .claiming ∨ p.role g = .yielding → s.Inactive g) :
    Reach A s (p.lossMeetsGroup g) := by
  unfold Part.lossMeetsGroup
  split
  · split
    · rename_i c hc
      split
      · exact h.failClaim hc (fun hr => hi (.inl hr)) false
      · exact h
    · exact h
  · rename_i hr
    exact h.enterStandby g _ fun _ => .inr (.inr ⟨.inr hr, hi (.inr hr)⟩)
  · exact h

/-- The loss of the other member: the test for NO_QUORUM leaves a group's role or fences it, whichever comes first. -/
theorem otherLost (h : Reach A s p) (hk : ∀ g, s.Kept p g) : Reach A s p.otherLost := by
  have inactive {q : Part} {g : Group} (hk : s.Kept q g) (hr : q.role g = .claiming ∨ q.role g = .yielding) :
      s.Inactive g := hk.inactive (by rcases hr with hr | hr <;> simp [hr])
  have groups {q : Part} (hq : Reach A s q) (hi : ∀ g, q.role g = .claiming ∨ q.role g = .yielding → s.Inactive g) :
      Reach A s q.lossMeetsGroups := by
    refine (hq.lossMeetsGroup .g0 (hi .g0)).lossMeetsGroup .g1 ?_
    rw [show (q.lossMeetsGroup .g0).role .g1 = q.role .g1 from
      congrArg GroupRec.role (q.group_lossMeetsGroup_ne (by decide))]
    exact hi .g1
  have drawn : Reach A s p.drawn := h.stands .of_eq
  rcases p.otherLost_cases with ho | ho <;> rw [ho]
  · refine evaluateAll (groups drawn.testQuorum fun g hr => ?_)
    rcases p.drawn.testQuorum_cases g with hv | hf
    · rw [hv.role] at hr
      exact inactive (q := p) (hk g) hr
    · have hfenced : p.drawn.testQuorum.role g = .fenced := congrArg GroupRec.role hf
      simp [hfenced] at hr
  · exact evaluateAll (groups drawn fun g => inactive (hk g)).testQuorum

theorem setLatch (h : Reach A s p) : Reach A s p.setLatch := by
  have latched : Reach A s { p with rcu := { p.rcu with latch := true } } :=
    h.stands (.of_groups (fun _ => .refl _) rfl rfl rfl rfl rfl rfl)
  unfold Part.setLatch
  dsimp only
  split
  · rename_i hm
    exact latched.applyFence (by simp [FenceCauses.any]) fun _ => hm
  · exact latched.stands .of_eq

end Part.Reach

/-! #### Moves before any exit from ACTIVE -/

/-- An act begun on `s` has made `p` so far, and no group has left ACTIVE in it. -/
structure Part.Calm (A : Group → Prop) (s p : Part) : Prop where
  reach : Part.Reach A s p
  kept : ∀ g, s.Kept p g

namespace Part.Calm

theorem start (A : Group → Prop) (p : Part) : Part.Calm A p p := ⟨.start, fun _ _ => id⟩

theorem stands (h : Part.Calm A s p) (hq : p.RolesStand q) : Part.Calm A s q :=
  ⟨h.reach.stands hq, fun g => (h.kept g).of_role (hq.role g)⟩

theorem evaluateAll (h : Part.Calm A s p) : Part.Calm A s p.evaluateAll := by
  refine ⟨h.reach.evaluateAll, fun g hs ha => ?_⟩
  have hr := h.kept g hs ha
  rw [Part.role, Part.group_evaluateAll_rest (by simp [hr]) (by simp [hr])]
  exact hr

theorem failVacantClaim (h : Part.Calm A s p) (g : Group) : Part.Calm A s (p.failVacantClaim g) := by
  unfold Part.failVacantClaim
  split
  · rename_i c hc
    split
    · refine ⟨h.reach.failClaim hc (fun hr => (h.kept g).inactive (by simp [hr])) false, fun g' hs ha => ?_⟩
      have hr := h.kept g' hs ha
      have hne : g' ≠ g := by
        rintro rfl
        rw [(h.reach.sound hs).claiming hc] at hr
        cases hr
      exact (congrArg GroupRec.role (p.group_enterStandby_ne hne _)).trans hr
    · exact h
  · exact h

/-- The fences clear that apply to every group of a member, none of them ACTIVE (R141). -/
theorem clearFence (h : Part.Calm A s p) {f : FenceCauses} (hf : f.any = true → p.rcu.fence.any = true) :
    Part.Calm A s (p.clearFence f) := by
  unfold Part.clearFence
  split
  · rename_i hc
    simp only [Bool.and_eq_true, Bool.not_eq_true'] at hc
    obtain ⟨ha, hn⟩ := hc
    have fenced (sound : p.RolesSound) (g : Group) : p.role g = .fenced := (sound.fenced ha).2 g
    have cleared : Part.Calm A s (p.unfencedAll f) :=
      ⟨h.reach.unfences f ha hn fun sound g => (h.kept g).inactive (by simp [fenced sound g]),
        fun g hs hr => absurd (h.kept g hs hr) (by simp [fenced (h.reach.sound hs) g])⟩
    exact cleared.evaluateAll
  · rename_i hc
    refine h.stands (p.stands_setFence ?_)
    cases hp : p.rcu.fence.any <;> cases hx : f.any <;> simp_all

theorem clearNoQuorum (h : Part.Calm A s p) : Part.Calm A s p.clearNoQuorum :=
  h.clearFence (by simp only [FenceCauses.any, Bool.or_eq_true]; tauto)

theorem rolesHearOther (h : Part.Calm A s p) (wasLive : Bool) : Part.Calm A s (p.rolesHearOther wasLive) := by
  have failed := (h.failVacantClaim .g0).failVacantClaim .g1
  unfold Part.rolesHearOther
  dsimp only
  refine evaluateAll ?_
  split
  · exact failed
  · exact failed.clearNoQuorum

theorem rolesHearWitness (h : Part.Calm A s p) (wasLive : Bool) : Part.Calm A s (p.rolesHearWitness wasLive) := by
  unfold Part.rolesHearWitness
  refine evaluateAll ?_
  split
  · exact h
  · exact h.clearNoQuorum

theorem blocksHear (h : Part.Calm A s p) (y : Station) (wasLive reborn first : Bool) :
    Part.Calm A s (p.blocksHear y wasLive reborn first) := by
  have marked : p.RolesStand (if reborn then p.markRebirth else p) := by
    have mark (q : Part) (g : Group) : q.RolesStand
        (q.setGroup g { q.group g with peerClaiming := false, rebirthMark := true, contested := none }) :=
      q.stands_setGroup rfl rfl id
    split
    · exact (mark p .g0).trans (mark _ .g1)
    · rfl
  unfold Part.blocksHear
  split
  · split
    · exact ((h.stands marked).stands (Part.stands_replicationHears _ _ _ _)).rolesHearOther wasLive
    · exact h.rolesHearWitness wasLive
  · split
    · exact h.stands .of_eq
    · exact h

theorem heard (h : Part.Calm A s p) (y : Station) (l : Lane) (incarnation : BitVec 16) :
    Part.Calm A s (p.heard y l incarnation) := by
  have noticed (q : Part) (wasLive reborn : Bool) : q.RolesStand (q.recordNoticed y wasLive reborn) := by
    have expected : q.RolesStand (if reborn then (q.peerNotice y).setExpect y none else q.peerNotice y) := by
      split
      · exact (q.stands_peerNotice y).trans .of_eq
      · exact q.stands_peerNotice y
    unfold Part.recordNoticed
    dsimp only
    split
    · exact expected
    · exact expected.trans .of_eq
  have written : Part.Calm A s (p.setPeer y ((p.peer y).heard l incarnation p.clock)) := h.stands .of_eq
  unfold Part.heard
  dsimp only
  split
  · exact written
  · rw [Part.recordChanged_eq]
    exact (written.stands (noticed _ _ _)).blocksHear _ _ _ _

theorem judgeHealth (h : Part.Calm A s p) (hm : p.isMember = true) : Part.Reach A s p.judgeHealth := by
  unfold Part.judgeHealth
  split
  · exact h.reach.applyFence (by simp [FenceCauses.any]) fun _ => hm
  · exact (h.clearFence (by simp only [FenceCauses.any, Bool.or_eq_true]; tauto)).reach

theorem takePulse (h : Part.Calm A s p) (y : Station) (c : PulseContent) : Part.Reach A s (p.takePulse y c) := by
  have written : Part.Calm A s (p.writePulse y c) := h.stands .of_eq
  unfold Part.takePulse
  dsimp only
  split
  · split
    · have chosen : Part.Calm A s (p.writePulse y c).chooseLane := written.stands .of_eq
      exact chosen.reach.pulseOfOther _ _ chosen.kept
    · exact written.reach.evaluateAll
  · exact written.reach

end Part.Calm

namespace Part.Reach

theorem takeDelta (h : Reach A s p) (ws : List WireRecord) : Reach A s (p.takeDelta ws) := by
  induction ws generalizing p with
  | nil => exact h
  | cons w ws ih =>
    unfold Part.takeDelta
    split
    · rename_i hq
      exact ih (h.stands (p.stands_takeWire hq)).flushTests
    · exact h

theorem takePairs (h : Reach A s p) (pairs : List (Slot × Version)) : Reach A s (p.takePairs pairs) := by
  induction pairs generalizing p with
  | nil => exact h
  | cons x pairs ih => exact ih (h.stands (p.stands_takePair x)).flushTests

end Part.Reach

namespace Part.Calm

theorem handUp (h : Part.Calm A s p) (x : Station) (c : Content) : Part.Reach A s (p.handUp x c) := by
  unfold Part.handUp
  split
  · cases c with
    | pulse pc => exact h.takePulse x pc
    | claim f =>
      change Part.Reach A s (p.witnessClaim x f)
      unfold Part.witnessClaim Part.decideClaim Part.queueVerdict
      refine h.reach.stands ?_
      (repeat' (first | split | dsimp only)) <;> exact .of_eq
    | align | delta | drop | receipt | answer | yield => exact h.reach
  · cases c with
    | align => exact h.reach
    | pulse pc => exact h.takePulse x pc
    | delta ws => exact h.reach.takeDelta ws
    | drop ps => exact h.reach.stands (p.stands_takeDrop ps)
    | receipt ps => exact h.reach.takePairs ps
    | claim f => exact h.reach.takeClaim f (h.kept _)
    | answer a => exact h.reach.takeAnswer x a (h.kept _)
    | yield g => exact h.reach.takeYield g (h.kept g)

theorem receive (h : Part.Calm A s p) (kind : FrameKind) (l : Lane) (rx : Reception) :
    Part.Reach A s (p.receive kind l rx) := by
  have lane := h.stands (p.stands_laneHears l)
  have other {q : Part} (h : Part.Calm A s q) (f : Frame) : Part.Reach A s (q.takeFromOther l rx.bytes f) := by
    have header : Part.Calm A s ((q.setExpect f.sender none).heard f.sender l f.incarnation) :=
      (h.stands .of_eq).heard _ _ _
    unfold Part.takeFromOther
    dsimp only
    split
    · exact header.reach
    · split
      · exact (header.stands .of_eq).handUp _ _
      · exact header.handUp _ _
  unfold Part.receive
  split
  · split
    · split
      · unfold Part.takeValid
        dsimp only
        split
        · exact lane.reach.setLatch
        · exact other lane _
      · exact h.reach
    · exact h.reach
    · exact h.reach
  · exact h.reach

theorem lose (h : Part.Calm A s p) (y : Station) : Part.Reach A s (p.lose y) := by
  have lost : p.RolesStand (p.lostPeer y) :=
    (Part.RolesStand.trans (q := p.setPeer y { p.peer y with state := .lost }) .of_eq (Part.stands_peerNotice _ y)).trans
      .of_eq
  have told := h.stands lost
  cases hm : p.isMember
  · rw [Part.lose_witness hm]
    exact told.reach
  · by_cases hy : y = p.otherMember
    · rw [Part.lose_other hm hy]
      have returned := told.stands (Part.stands_returnAll _)
      exact returned.reach.otherLost returned.kept
    · rw [Part.lose_third hm hy]
      exact told.reach.testQuorum.evaluateAll

end Part.Calm

end Sys2Proof.Machine

namespace Sys2Proof.Machine

variable {A : Group → Prop} {s p q : Part}

/-! #### Records of the ingress stream -/

namespace Part.Calm

theorem configure (h : Part.Calm A s p) (hp : p.profile = none) (c : Profile) : Part.Reach A s (p.configure c) := by
  set q0 : Part := { p with profile := some c
                            ppu := { p.ppu with epoch := some (p.after c.pulseInterval) }
                            mbi := { p.mbi with lfsr := lfsrSeed c.incarnation c.station } } with hq0
  have enabled : Part.RolesStand { p with profile := some c } ((q0.enableLane c .a).enableLane c .b) :=
    .trans (q := q0) .of_eq ((q0.stands_enableLane c .a).trans (Part.stands_enableLane _ c .b))
  have made : p.configure c = if c.station = .s2 then (q0.enableLane c .a).enableLane c .b
      else ((q0.enableLane c .a).enableLane c .b).startMember c := rfl
  rw [made]
  split
  · rename_i hc
    have witness := h.reach.configures c hp enabled
    rwa [if_pos hc] at witness
  · rename_i hc
    -- the engine silence timer, which starts on a member alone
    have silenced : Part.RolesStand { p with profile := some c }
        { (q0.enableLane c .a).enableLane c .b with
          rcu := { ((q0.enableLane c .a).enableLane c .b).rcu with
            silence := some (((q0.enableLane c .a).enableLane c .b).after c.silenceLimit) } } := by
      refine ⟨enabled.profile, enabled.group, enabled.fence, fun _ => .inr ?_, enabled.egress, enabled.marks, enabled.forget,
        fun g hd => (enabled.disowned g hd).of_eq (enabled.disowned g hd).takeover rfl⟩
      simp [Part.isMember, Part.self, hc]
    have member := h.reach.configures c hp silenced
    rw [if_neg hc] at member
    exact member.evaluateAll

theorem takeAlive (h : Part.Calm A s p) (ws : List Word32) : Part.Reach A s (p.takeAlive ws).1 := by
  unfold Part.takeAlive
  split
  · exact h.reach
  · split
    · exact h.reach
    · rename_i c hc
      split
      · exact h.reach
      · rename_i hw
        have hm : p.isMember = true := by simpa [Part.isMember, Part.isWitness, hc] using hw
        have heard (health : BitVec 8) (silence : Tick) : p.RolesStand
            { p with ppu := { p.ppu with pendingHealth := health }, rcu := { p.rcu with silence := some silence } } :=
          ⟨rfl, fun _ => .refl _, rfl, fun _ => .inr hm, ⟨[], (List.append_nil _).symm⟩, rfl, rfl,
            fun _ hd => hd.of_eq hd.takeover rfl⟩
        exact ((h.stands (heard _ _)).clearFence (by simp only [FenceCauses.any, Bool.or_eq_true]; tauto)).reach

theorem handle (h : Part.Calm A s p) (ws : List Word32) : Part.Reach A s (p.handle ws).1 := by
  unfold Part.handle
  split
  · unfold Part.takeProfile
    split
    · exact h.reach
    · split
      · exact h.reach
      · rename_i hn
        exact h.configure (by simpa using hn) _
  · exact h.reach.stands (p.stands_takeOpen ws)
  · exact h.reach.stands (p.stands_takeUpdate ws)
  · unfold Part.takeClose
    split
    · exact h.reach
    · split
      · exact h.reach
      · exact (h.reach.stands (p.stands_closeEntry _ _)).flushTests
  · exact h.takeAlive ws
  · exact h.reach.stands (p.stands_takeRelease ws)
  · unfold Part.takeHandover
    (repeat' split) <;> try exact h.reach
    rename_i hr _
    exact h.reach.enterYielding (not_not.1 hr) (.inr rfl) _
  · exact h.reach.stands (p.stands_takeStatus ws)
  · exact h.reach

theorem popIngress (h : Part.Calm A s p) : Part.Calm A s p.popIngress :=
  h.stands (.of_place [] (List.append_nil _).symm rfl)

/-- The record in hand is taken, and its answer placed at the tail. -/
theorem takeRecord (h : Part.Calm A s p) {kind : Option IngressKind}
    {f : Part → List Word32 → Part × Option EgressRecord}
    (hf : ∀ ws, recordKind ws = kind → Part.Reach A s (f p.popIngress ws).1) : Part.Reach A s (p.takeRecord kind f) := by
  have answered (x : Part × Option EgressRecord) : x.1.RolesStand (Part.answerWith x) := by
    unfold Part.answerWith
    split
    · exact .of_place [_] rfl rfl
    · rfl
  unfold Part.takeRecord
  split
  · rename_i ws hw
    split
    · refine (hf ws ?_).stands (answered _)
      unfold Part.takeable at hw
      split at hw
      · split at hw
        · cases hw
          rename_i hk
          exact hk.1
        · cases hw
      · cases hw
    · exact h.reach
  · exact h.reach

end Part.Calm

/-! #### The egress FIFO -/

/-- A freed place is filled by a REVOKED or a BATCH (R179). -/
theorem Part.Reach.fillPlace (h : Part.Reach A s p) : Part.Reach A s (p.fillPlace s.evp.egress.length) := by
  unfold Part.fillPlace
  split
  · split
    · rename_i r q hq
      simp only [Part.takeRevokedOrBatch, Option.orElse_eq_orElse, Option.orElse_eq_or, Option.or_eq_some_iff] at hq
      rcases hq with hq | ⟨-, hq⟩
      · exact (h.stands (p.stands_takeRevoked hq)).places r
      · exact (h.stands (p.stands_takeBatch hq)).places r
    · exact h
  · exact h

theorem Part.reach_giveGeneral (A : Group → Prop) (p : Part) : Part.Reach A p p.giveGeneral := by
  unfold Part.giveGeneral
  dsimp only
  split
  · split
    · have handled := (Part.Calm.start A p).popIngress.handle
      split
      · exact (handled _).places _
      · exact (handled _).fillPlace
    · exact Part.Reach.start.fillPlace
  · exact Part.Reach.start.fillPlace

theorem Part.emitMark_roles {q : Part} (h : p.emitMark = some q) : q.rcu = p.rcu ∧ q.profile = p.profile := by
  have role (g : Group) (h : p.emitRoleMark g = some q) : q.rcu = p.rcu ∧ q.profile = p.profile := by
    obtain ⟨m, -, rfl⟩ := Option.map_eq_some_iff.1 h
    exact ⟨rfl, rfl⟩
  have peer (y : Station) (h : p.emitPeerMark y = some q) : q.rcu = p.rcu ∧ q.profile = p.profile := by
    unfold Part.emitPeerMark at h
    split at h <;> cases h
    exact ⟨rfl, rfl⟩
  have lane (l : Lane) (h : p.emitLaneMark l = some q) : q.rcu = p.rcu ∧ q.profile = p.profile := by
    unfold Part.emitLaneMark at h
    split at h <;> cases h
    exact ⟨rfl, rfl⟩
  simp only [Part.emitMark, Option.orElse_eq_orElse, Option.orElse_eq_or, Option.or_eq_some_iff] at h
  rcases h with h | ⟨-, h | ⟨-, h | ⟨-, h | ⟨-, h | ⟨-, h | ⟨-, h⟩⟩⟩⟩⟩⟩
  · exact role _ h
  · exact role _ h
  · exact peer _ h
  · exact peer _ h
  · exact peer _ h
  · exact lane _ h
  · exact lane _ h

/-! #### Every command -/

/-- The part as the moves of a command begin: the engine has taken the head of the egress FIFO, where the command is that. -/
def Part.headTaken (p : Part) (i : Instr) : Part :=
  { p with evp := { p.evp with egress := p.evp.egress.drop (if i = .egressRecordTaken then 1 else 0) } }

/-- A command that may bring group `g` to ACTIVE: its claim meets its deadline, or the forget walk that held it ends (R129). -/
def Part.MayEnter (p : Part) (i : Instr) (g : Group) : Prop :=
  ∃ r, (p.group g).claim = some r
    ∧ ((i = .deadTimeExpiry g ∧ r.txTick.isSome = true ∧ p.ranOut r.deadline = true ∧ p.smt.forget.get g = none)
      ∨ (i = .forgetWalkEnd g ∧ r.held = true ∧ p.smt.forget.get g ≠ none))

theorem Part.headTaken_eq_self {i : Instr} (hi : i ≠ .egressRecordTaken) : p.headTaken i = p := by
  simp [Part.headTaken, hi]

theorem Part.Reach.onlyIf (c : Bool) {f : Part → Part} (hf : c = true → Part.Reach A p (f p)) :
    Part.Reach A p (p.onlyIf c f) := by
  unfold Part.onlyIf
  split
  · rename_i hc
    exact hf hc
  · exact .start

/-- A claim meets its deadline: it enters ACTIVE, waits for the forget walk, or fails (R124 to R126, R129). -/
theorem Part.Calm.resolveDeadline (h : Part.Calm A s p) {g : Group} {c : ClaimRecord} (hc : (p.group g).claim = some c)
    (htx : c.txTick.isSome = true) (hA : p.smt.forget.get g = none → A g) : Part.Reach A s (p.resolveDeadline g c) := by
  have waits : p.RolesStand (p.setGroup g { p.group g with claim := some { c with held := true } }) := by
    refine p.stands_setGroup rfl rfl fun hok => ?_
    rw [GroupRec.ok_iff] at hok ⊢
    obtain ⟨hclaim, hpending, hhandover, hlisten, hdead, hvacancy, -⟩ := hok
    refine ⟨by simpa [hc] using hclaim, hpending, hhandover, hlisten, hdead, hvacancy, fun x hx _ => ?_⟩
    cases hx
    exact htx
  unfold Part.resolveDeadline
  split
  · split
    · exact h.reach.stands waits
    · rename_i hf
      refine h.reach.enterActive (hA (Option.not_isSome_iff_eq_none.1 hf)) (fun sound => ?_) _
      have hr := sound.claiming hc
      exact ⟨hr, (h.kept g).inactive (by simp [hr])⟩
  · exact h.reach.failClaim hc (fun hr => (h.kept g).inactive (by simp [hr])) true

/-- The end of the dead time stops its timer, and a claim whose deadline is reached meets it (R122, R124 to R126). -/
theorem Part.reach_deadTimeEnd (p : Part) (g : Group) : Part.Reach (p.MayEnter (.deadTimeExpiry g)) p (p.deadTimeEnd g) := by
  have timed : p.RolesStand (p.setGroup g { p.group g with
      deadTimer := if p.ranOut (p.group g).deadTimer then none else (p.group g).deadTimer }) := by
    refine p.stands_setGroup rfl rfl fun hok => ?_
    rw [GroupRec.ok_iff] at hok ⊢
    obtain ⟨hclaim, hpending, hhandover, hlisten, hdead, hrest⟩ := hok
    refine ⟨hclaim, hpending, hhandover, hlisten, fun hs => hdead ?_, hrest⟩
    dsimp only at hs
    split at hs
    · cases hs
    · exact hs
  have calm := (Part.Calm.start (p.MayEnter (.deadTimeExpiry g)) p).stands timed
  unfold Part.deadTimeEnd
  refine .evaluateAll ?_
  cases hc : p.claimAtDeadline g with
  | none => exact calm.reach
  | some c =>
    obtain ⟨hclaim, hdue⟩ := Option.filter_eq_some_iff.1 hc
    simp only [Bool.and_eq_true] at hdue
    obtain ⟨⟨-, htx⟩, hran⟩ := hdue
    exact calm.resolveDeadline (by rw [Part.group_setGroup_same]; exact hclaim) htx
      fun hf => ⟨c, hclaim, .inl ⟨rfl, htx, hran, hf⟩⟩

/-- The forget walk of group `g` ends, and the claim it held enters ACTIVE (R129, R168). -/
theorem Part.reach_forgetEnd (p : Part) (g : Group) : Part.Reach (p.MayEnter (.forgetWalkEnd g)) p (p.forgetEnd g) := by
  unfold Part.forgetEnd
  split
  · rename_i c hw
    refine .onlyIf _ fun _ => ?_
    have ended : Part.Reach (p.MayEnter (.forgetWalkEnd g)) p (p.setForget g none) := Part.Reach.start.forgets g none fun _ => id
    unfold Part.enterHeld
    split
    · rename_i x hx
      split
      · rename_i hh
        refine ended.enterActive ⟨x, hx, .inr ⟨rfl, hh, by simp [hw]⟩⟩ (fun hs => ?_) _
        have hr : p.role g = .claiming := hs.claiming hx
        exact ⟨hr, fun _ ha => by rw [hr] at ha; cases ha⟩
      · exact ended
    · exact ended
  · exact .start

/-- What every command but RESET and RESET_END makes of the roles: its moves one after another, or nothing. -/
theorem Part.act_moves (p : Part) (i : Instr) :
    Part.Reach (p.MayEnter i) (p.headTaken i) (p.act i) ∨ ((p.act i).rcu = p.rcu ∧ (p.act i).profile = p.profile) := by
  have calm := Part.Calm.start (p.MayEnter i) p
  have stands (h : p.RolesStand (p.act i)) : Part.Reach (p.MayEnter i) p (p.act i) := calm.reach.stands h
  by_cases hi : i = .egressRecordTaken
  · subst hi
    change Part.Reach _ _ p.egressTaken ∨ p.egressTaken.rcu = p.rcu ∧ p.egressTaken.profile = p.profile
    unfold Part.egressTaken
    split
    · exact .inr ⟨rfl, rfl⟩
    · rename_i r rest he
      dsimp only
      have hbase : p.headTaken .egressRecordTaken = { p with evp := { p.evp with egress := rest } } := by
        simp [Part.headTaken, he]
      rw [hbase]
      cases hm : Part.emitMark { p with evp := { p.evp with egress := rest } } with
      | some q => exact .inr (Part.emitMark_roles (p := { p with evp := { p.evp with egress := rest } }) hm)
      | none =>
        refine .inl ?_
        rw [Option.getD_none]
        unfold Part.giveFreed
        split
        · exact Part.reach_giveGeneral _ _
        · exact .start
  rw [Part.headTaken_eq_self hi]
  refine .inl ?_
  have popped := calm.popIngress
  unfold Part.act
  cases i with
  | reset | fragment | resetEnd => exact .start
  | clearWalkVisit =>
    refine stands ?_
    change p.RolesStand p.clearVisit
    unfold Part.clearVisit Part.onlyIf
    (repeat' split) <;> exact .of_eq
  | clearWalkEnd =>
    refine stands ?_
    change p.RolesStand p.clearEnd
    unfold Part.clearEnd Part.onlyIf
    (repeat' split) <;> exact .of_eq
  | profileRecord => exact calm.takeRecord fun ws hk => by simpa [Part.handle, hk] using popped.handle ws
  | openRecord => exact calm.takeRecord fun ws hk => by simpa [Part.handle, hk] using popped.handle ws
  | updateRecord => exact calm.takeRecord fun ws hk => by simpa [Part.handle, hk] using popped.handle ws
  | closeRecord => exact calm.takeRecord fun ws hk => by simpa [Part.handle, hk] using popped.handle ws
  | aliveRecord => exact calm.takeRecord fun ws hk => by simpa [Part.handle, hk] using popped.handle ws
  | releaseRecord => exact calm.takeRecord fun ws hk => by simpa [Part.handle, hk] using popped.handle ws
  | handoverRecord => exact calm.takeRecord fun ws hk => by simpa [Part.handle, hk] using popped.handle ws
  | statusRecord => exact calm.takeRecord fun ws hk => by simpa [Part.handle, hk] using popped.handle ws
  | malformedRecord => exact calm.takeRecord (f := fun q ws => (q, refusal ws .malformed)) fun _ _ => popped.reach
  | egressRecordTaken => exact absurd rfl hi
  | revokedRecord =>
    refine stands ?_
    change p.RolesStand p.placeRevoked
    unfold Part.placeRevoked
    split
    · split
      · rename_i hr
        exact (p.stands_takeRevoked hr).trans (.of_place [_] rfl rfl)
      · rfl
    · rfl
  | batchRecord =>
    refine stands ?_
    change p.RolesStand p.placeBatch
    unfold Part.placeBatch
    split
    · split
      · rename_i hb
        exact (p.stands_takeBatch hb).trans (.of_place [_] rfl rfl)
      · rfl
    · rfl
  | alignFrame l rx | pulseFrame l rx | deltaFrame l rx | dropFrame l rx | receiptFrame l rx | claimFrame l rx
  | answerFrame l rx | yieldFrame l rx => exact calm.receive _ l rx
  | badFrame l rx =>
    refine stands ?_
    change p.RolesStand (p.receiveBad l rx)
    unfold Part.receiveBad
    split
    · exact p.stands_countBad l
    · rfl
  | transmitterTake => exact stands p.stands_transmitterTake
  | frameStart =>
    refine stands ?_
    change p.RolesStand p.startFrame
    unfold Part.startFrame
    (repeat' split) <;> exact .of_eq
  | collision => exact stands p.stands_collision
  | backoffEnd =>
    refine stands ?_
    change p.RolesStand p.backoffOver
    unfold Part.backoffOver
    (repeat' split) <;> exact .of_eq
  | frameComplete => exact stands p.stands_frameDone
  | receiptTimerExpiry =>
    refine stands ?_
    change p.RolesStand p.receiptTimer
    unfold Part.receiptTimer
    split
    · exact p.stands_timeOut _
    · rfl
  | pauseTimerExpiry => exact .onlyIf _ fun _ => calm.reach.stands .of_eq
  | receiptDelay =>
    exact .onlyIf _ fun _ => calm.reach.stands (.trans (q := p.noteWaited) .of_eq (Part.stands_transmitterTake _))
  | livenessTimerExpiry y => exact .onlyIf _ fun _ => calm.lose y
  | pulseEpoch =>
    change Part.Reach _ p p.epochNow
    unfold Part.epochNow
    split
    · refine .onlyIf _ fun _ => ?_
      unfold Part.epoch
      dsimp only
      split
      · rename_i hm
        refine .evaluateAll (Part.Calm.judgeHealth (calm.stands ?_) hm)
        exact .of_eq
      · exact calm.reach.stands .of_eq
    · exact .start
  | engineSilenceTimerExpiry =>
    refine .onlyIf _ fun hran => ?_
    have silenced : p.RolesStand { p with rcu := { p.rcu with silence := none } } :=
      ⟨rfl, fun _ => .refl _, rfl, nofun, ⟨[], (List.append_nil _).symm⟩, rfl, rfl, fun _ hd => hd.of_eq hd.takeover rfl⟩
    have fenced {q : Part} (hq : Part.Reach (p.MayEnter .engineSilenceTimerExpiry) p q)
        (hm : p.RolesSound → q.isMember = true) :
        Part.Reach (p.MayEnter .engineSilenceTimerExpiry) p (q.applyFence { q.rcu.fence with engineSilent := true }) :=
      hq.applyFence (by simp [FenceCauses.any]) hm
    refine fenced (calm.reach.stands silenced) fun sound => ?_
    -- only a member's engine silence timer runs
    by_contra hm
    have hm : p.isMember = false := Bool.eq_false_iff.2 hm
    simp [(sound.other hm).2.2, Part.ranOut] at hran
  | listenTimerExpiry g =>
    refine .onlyIf _ fun hdue => .evaluateAll ?_
    have hr : p.role g = .listen := by
      simp only [Part.listenDue, Bool.and_eq_true, decide_eq_true_eq] at hdue
      exact hdue.1
    split
    · exact calm.reach.claims g .vacant (.inr hr) nofun
    · exact calm.reach.enterStandby g _ fun _ => .inl hr
  | vacancyTimerExpiry g =>
    refine .onlyIf _ fun hdue => ?_
    have ranOut : p.RolesStand (p.setGroup g { p.group g with vacancy := .runOut }) := by
      refine p.stands_setGroup rfl rfl fun hok => ?_
      rw [GroupRec.ok_iff] at hok ⊢
      obtain ⟨hclaim, hpending, hhandover, hlisten, hdead, hvacancy, hheld⟩ := hok
      refine ⟨hclaim, hpending, hhandover, hlisten, hdead, fun _ => hvacancy fun hv => ?_, hheld⟩
      simp [Part.vacancyDue, hv] at hdue
    exact (calm.reach.stands ranOut).evaluateAll
  | deadTimeExpiry g => exact .onlyIf _ fun _ => p.reach_deadTimeEnd g
  | holdOffExpiry g =>
    have ended : p.RolesStand (p.setGroup g { p.group g with holdOff := none }) := p.stands_setGroup rfl rfl id
    exact .onlyIf _ fun _ => (calm.reach.stands ended).evaluateAll
  | handoverTimerExpiry g =>
    refine .onlyIf _ fun hdue => .evaluateAll ?_
    have hr : p.role g = .yielding := by
      simp only [Part.handoverDue, Bool.and_eq_true, decide_eq_true_eq] at hdue
      exact hdue.1
    exact calm.reach.completeYield hr fun _ => (calm.kept g).inactive (by simp [hr])
  | healthWindowEnd l =>
    change Part.Reach _ p (p.windowNow l)
    unfold Part.windowNow
    split
    · exact .onlyIf _ fun _ => calm.reach.stands (p.stands_setLane_laneTo _ _ _ _ _)
    · exact .start
  | quietExpiry l =>
    refine .onlyIf _ fun _ => calm.reach.stands ?_
    unfold Part.quietExpiry
    split
    · exact p.stands_laneTo _ _
    · exact .of_eq
  | retrainTimerExpiry l report => exact .onlyIf _ fun _ => calm.reach.stands (p.stands_setLane_laneTo _ _ _ _ _)
  | lineFault l report => exact .onlyIf _ fun _ => calm.reach.stands (p.stands_setLane_laneTo _ _ _ _ _)
  | lineFaultClear l => exact stands (p.stands_setLane_laneTo _ _ _ _ _)
  | alignDue l =>
    change Part.Reach _ p (p.alignNow l)
    unfold Part.alignNow
    split
    · exact .onlyIf _ fun _ => calm.reach.stands .of_eq
    · exact .start
  | grantLapse g =>
    refine .onlyIf _ fun _ => calm.reach.stands ?_
    unfold Part.lapseGrant
    split <;> exact .of_eq
  | refreshWalkVisit =>
    change Part.Reach _ p p.refreshVisit
    unfold Part.refreshVisit
    split
    · exact .start
    · split
      · exact .start
      · dsimp only
        refine .flushTests (calm.reach.stands ?_)
        split
        · exact (p.stands_refreshEntry _ _).trans .of_eq
        · exact .of_eq
  | refreshWalkEnd =>
    refine stands ?_
    change p.RolesStand p.refreshEnd
    unfold Part.refreshEnd Part.onlyIf
    (repeat' split) <;> exact .of_eq
  | takeoverWalkVisit g => exact stands (p.stands_takeoverVisit g)
  | takeoverWalkEnd g => exact stands (p.stands_takeoverEnd g)
  | forgetWalkVisit g =>
    change Part.Reach _ p (p.forgetVisit g)
    unfold Part.forgetVisit
    split
    · exact .start
    · split
      · exact .start
      · dsimp only
        have marked {q : Part} (hq : p.RolesStand q) (c : Nat) :
            Part.Reach (p.MayEnter (.forgetWalkVisit g)) p (q.setForget g (some c)) :=
          (calm.stands hq).reach.forgets g (some c) ((calm.stands hq).kept g)
        refine marked ?_ _
        (repeat' split) <;> exact .of_eq
  | forgetWalkEnd g => exact p.reach_forgetEnd g
  | ingressRecordArrival ws =>
    refine stands (.foldl (fun q w => ?_) ws p)
    unfold Part.pushWord
    split
    · exact .of_place [] (List.append_nil _).symm rfl
    · rfl

end Sys2Proof.Machine

namespace Sys2Proof.Machine

variable {s p q : Part}

/-! #### FPg follows the role (R117) -/

theorem Part.fpFollows_iff : p.fpFollows = true ↔ ∀ g, (p.group g).fp = decide (p.role g = .active) := by
  simp only [Part.fpFollows, GroupRec.fpFollows, Bool.and_eq_true, decide_eq_true_eq]
  exact ⟨fun h g => by cases g; exacts [h.1, h.2], fun h => ⟨h _, h _⟩⟩

/-- An act keeps FPg following the role. -/
theorem Part.fpFollows_act (h : p.fpFollows = true) (i : Instr) : (p.act i).fpFollows = true := by
  rw [Part.fpFollows_iff] at h ⊢
  intro g
  rcases p.act_moves i with hr | ⟨hr, -⟩
  · rcases hr.fpFrom g with ⟨hrole, hfp⟩ | ⟨hfp, -⟩
    · have hrole : (p.act i).role g = p.role g := hrole
      rw [hrole]
      exact hfp.trans (h g)
    · exact hfp
  · have hg : (p.act i).group g = p.group g := by unfold Part.group; rw [hr]
    rw [Part.role, hg]
    exact h g

/-- Settles O48: every act keeps FPg following the role (`Part.fpFollows_act`), and the other steps leave the groups or reset them. -/
theorem forwardingPermitFollowsTheRole : Obligations.ForwardingPermitFollowsTheRole := by
  intro s t hs hstep
  rcases step_part_cases hstep with ⟨held, clock, ht⟩ | ht | ⟨-, i, ht⟩ <;> rw [ht]
  · exact hs
  · rfl
  · exact Part.fpFollows_act hs i

/-! #### Roles and fences agree (R116, R137, R140, R141) -/

/-- An act keeps the roles and the fences in agreement. -/
theorem Part.RolesSound.act (h : p.RolesSound) (i : Instr) : (p.act i).RolesSound := by
  rcases p.act_moves i with hr | ⟨hr, hp⟩
  · exact hr.sound ⟨h.ok, h.member, h.other⟩
  · have hg (g : Group) : (p.act i).group g = p.group g := by unfold Part.group; rw [hr]
    refine h.of_groups hp (by rw [hr]) (by rw [hr]; exact .inl) (fun g => hg g ▸ h.ok g) fun g => ?_
    simp [Part.role, hg]

/-- Settles O52: every act keeps the agreement (`Part.RolesSound.act`), and the other steps leave the roles or reset them. -/
theorem rolesAndFencesAgree : Obligations.RolesAndFencesAgree := by
  intro s t hgroups hfences hstep
  have sound := Part.rolesSound_iff.2 ⟨hgroups, hfences⟩
  refine Part.rolesSound_iff.1 ?_
  rcases step_part_cases hstep with ⟨held, clock, ht⟩ | ht | ⟨-, i, ht⟩ <;> rw [ht]
  · exact ⟨sound.ok, sound.member, sound.other⟩
  · exact Part.rolesSound_iff.2 ⟨rfl, rfl⟩
  · exact sound.act i

/-! #### Only a claim raises FPg (R117, R129) -/

/-- A line that an act raises belongs to a group that the command may bring to ACTIVE. -/
theorem Part.mayEnter_of_raised {i : Instr} {g : Group} (hlow : (p.group g).fp = false) (hhigh : ((p.act i).group g).fp = true) :
    p.MayEnter i g := by
  rcases p.act_moves i with hr | ⟨hr, -⟩
  · rcases hr.fpFrom g with ⟨-, hfp⟩ | ⟨hfp, hentered⟩
    · have hfp : ((p.act i).group g).fp = (p.group g).fp := hfp
      rw [hfp, hlow] at hhigh
      cases hhigh
    · exact hentered (of_decide_eq_true (hfp.symm.trans hhigh))
  · have hg : (p.act i).group g = p.group g := by unfold Part.group; rw [hr]
    rw [hg, hlow] at hhigh
    cases hhigh

/-- What a command makes of the groups: a RESET resets them, its act moves them, or they stand. -/
theorem exec_group_cases {i : Instr} {s t : State} (h : exec i s = .next t) (g : Group) :
    (i = .reset ∧ t.group g = GroupRec.reset) ∨ t.group g = s.group g ∨ t.toPart = s.toPart.act i := by
  rcases exec_cases h with rfl | rfl | rfl | ⟨-, rfl⟩
  · cases h
    exact .inl ⟨rfl, by cases g <;> rfl⟩
  · change Host.Outcome.next _ = _ at h
    split at h <;> cases h <;> exact .inr (.inl rfl)
  · exact .inr (.inl rfl)
  · exact .inr (.inr rfl)

/-- Settles O57: a line that rises is that of a group which the command may bring to ACTIVE, and a claim that waits for the forget walk
has had its CLAIM sent where the groups hold what their roles say. -/
theorem onlyAClaimAtItsDeadlineRaisesFp : Obligations.OnlyAClaimAtItsDeadlineRaisesFp := by
  intro c s t g hexec hlow hhigh
  rcases exec_group_cases hexec g with ⟨-, ht⟩ | ht | ht
  · rw [ht] at hhigh
    cases hhigh
  · rw [ht, hlow] at hhigh
    cases hhigh
  · rw [ht] at hhigh
    obtain ⟨r, hclaim, hwhy⟩ := Part.mayEnter_of_raised hlow hhigh
    refine ⟨r, hclaim, hwhy.imp_right ?_⟩
    rintro ⟨hc, hheld, hforget⟩
    refine ⟨hc, hheld, hforget, fun hok => ?_⟩
    have ok : (s.group g).ok = true := by
      simp only [Part.groupsOk, Bool.and_eq_true] at hok
      cases g
      · exact hok.1
      · exact hok.2
    obtain ⟨-, -, -, -, -, -, hsent⟩ := (GroupRec.ok_iff _).1 ok
    exact hsent r hclaim hheld

end Sys2Proof.Machine

namespace Sys2Proof.Machine

variable {A : Group → Prop} {s p q : Part} {g : Group}

/-! #### What the engine is told of an exit from ACTIVE (R142, R180) -/

/-- A ROLE notice of an exit from ACTIVE. -/
def ExitTold (role : Role) (cause : RoleCause) : Prop :=
  (role = .yielding ∧ (cause = .preempted ∨ cause = .handover))
    ∨ (role = .standby ∧ (cause = .splitBrain ∨ cause = .handedAway)) ∨ (role = .fenced ∧ cause = .fence)

/-- A ROLE notice of such an exit, or of a change that may follow it in the same act. -/
def ToldSinceExit (role : Role) (cause : RoleCause) : Prop :=
  ExitTold role cause ∨ (role = .standby ∧ cause = .flushed) ∨ (role = .claiming ∧ (cause = .vacant ∨ cause = .preempt))

/-- The Event Port of `q` is that of `p` with one notice of group `g` more: placed, or coalesced into the group's mark, whose left-ACTIVE
flag is then set where it was or where the notice is of an exit from ACTIVE (R142, R180). -/
structure Part.Notified (p q : Part) (g : Group) (old new : Role) (cause : RoleCause) : Prop where
  others : ∀ h, h ≠ g → q.evp.roleMarks.get h = p.evp.roleMarks.get h
  told : (p.evp.roleMarks.get g = none ∧ q.evp.roleMarks.get g = none
      ∧ q.evp.egress = p.evp.egress ++ [.role g new cause false])
    ∨ (q.evp.egress = p.evp.egress ∧ (p.evp.roleMarks.get g ≠ none ∨ 64 ≤ p.evp.egress.length)
      ∧ ∃ m, q.evp.roleMarks.get g = some m ∧ m.cause = cause
        ∧ (old = .active ∨ (∃ m', p.evp.roleMarks.get g = some m' ∧ m'.leftActive = true) → m.leftActive = true))

theorem Part.notified_roleNotice (p : Part) (g : Group) (old new : Role) (cause : RoleCause) :
    p.Notified (p.roleNotice g old new cause) g old new cause := by
  cases hm : p.evp.roleMarks.get g with
  | some m =>
    rw [Part.roleNotice_marked hm]
    refine ⟨fun h hne => PerGroup.get_set_ne _ _ hne, .inr ⟨rfl, .inl (by simp [hm]), _, PerGroup.get_set_same _ _ _, rfl, ?_⟩⟩
    rintro (rfl | ⟨m', hm', hl⟩)
    · simp
    · rw [hm] at hm'
      cases hm'
      simp [hl]
  | none =>
    by_cases ho : p.evp.egress.length < 64
    · rw [Part.roleNotice_open hm ho]
      exact ⟨fun _ _ => rfl, .inl ⟨hm, hm, rfl⟩⟩
    · rw [Part.roleNotice_full hm (Nat.le_of_not_lt ho)]
      refine ⟨fun h hne => PerGroup.get_set_ne _ _ hne,
        .inr ⟨rfl, .inr (Nat.le_of_not_lt ho), _, PerGroup.get_set_same _ _ _, rfl, ?_⟩⟩
      rintro (rfl | ⟨m', hm', -⟩)
      · rfl
      · rw [hm] at hm'
        cases hm'

theorem Part.notified_setRole (p : Part) (g : Group) (new : Role) (cause : RoleCause) :
    p.Notified (p.setRole g new cause) g (p.role g) new cause := by
  have h := p.notified_roleNotice g (p.role g) new cause
  constructor <;> rw [Part.setRole_evp]
  exacts [h.others, h.told]

theorem Part.Notified.egress {old new : Role} {cause : RoleCause} (h : p.Notified q g old new cause) :
    ∃ added, q.evp.egress = p.evp.egress ++ added := by
  rcases h.told with ⟨-, -, he⟩ | ⟨he, -⟩
  · exact ⟨_, he⟩
  · exact ⟨[], by rw [he, List.append_nil]⟩

/-- The engine has been told of group `g`'s exit from ACTIVE since `s`: a notice of it stands in the egress FIFO, or it is coalesced into
the group's mark with what followed it (R180). -/
def Part.ToldExit (s p : Part) (g : Group) : Prop :=
  (s.evp.roleMarks.get g = none ∧ ∃ role cause added, ExitTold role cause ∧ EgressRecord.role g role cause false ∈ added
      ∧ p.evp.egress = s.evp.egress ++ added)
    ∨ ((s.evp.roleMarks.get g ≠ none ∨ 64 ≤ p.evp.egress.length) ∧ (∃ added, p.evp.egress = s.evp.egress ++ added)
      ∧ ∃ m, p.evp.roleMarks.get g = some m ∧ m.leftActive = true ∧ ToldSinceExit (p.role g) m.cause)

/-- More records at the tail of the egress FIFO, or one at its freed place, change none of this. -/
theorem Part.ToldExit.congr (h : s.ToldExit p g) (hr : q.role g = p.role g)
    (hm : q.evp.roleMarks.get g = p.evp.roleMarks.get g)
    (he : ∀ added, p.evp.egress = s.evp.egress ++ added →
      ∃ added', q.evp.egress = s.evp.egress ++ added' ∧ added ⊆ added' ∧ added.length ≤ added'.length) :
    s.ToldExit q g := by
  rcases h with ⟨hs, role, cause, added, hc, hin, hp⟩ | ⟨hs, ⟨added, hp⟩, m, hm', hl, hc⟩
  · obtain ⟨added', hq, hsub, -⟩ := he added hp
    exact .inl ⟨hs, role, cause, added', hc, hsub hin, hq⟩
  · obtain ⟨added', hq, -, hlen⟩ := he added hp
    refine .inr ⟨hs.imp_right fun h64 => ?_, ⟨added', hq⟩, m, hm.trans hm', hl, by rwa [hr]⟩
    rw [hp] at h64
    rw [hq]
    simp only [List.length_append] at *
    omega

theorem Part.ToldExit.append (h : s.ToldExit p g) (hr : q.role g = p.role g)
    (hm : q.evp.roleMarks.get g = p.evp.roleMarks.get g) (he : ∃ added, q.evp.egress = p.evp.egress ++ added) :
    s.ToldExit q g := by
  obtain ⟨more, he⟩ := he
  refine h.congr hr hm fun added hp => ⟨added ++ more, by rw [he, hp, List.append_assoc], ?_, by simp⟩
  exact List.subset_append_left _ _

/-- A further change of the group in the same act. -/
theorem Part.ToldExit.further (h : s.ToldExit p g) {old new : Role} {cause : RoleCause}
    (hn : p.Notified q g old new cause) (hr : q.role g = new) (hc : ToldSinceExit new cause) : s.ToldExit q g := by
  rcases h with ⟨hs, role, cause', added, hc', hin, hp⟩ | ⟨hs, ⟨added, hp⟩, m, hm, hl, -⟩
  · obtain ⟨more, he⟩ := hn.egress
    exact .inl ⟨hs, role, cause', added ++ more, hc', List.mem_append_left _ hin, by rw [he, hp, List.append_assoc]⟩
  · rcases hn.told with ⟨hnone, -⟩ | ⟨he, -, m', hm', hcause, hleft⟩
    · rw [hnone] at hm
      cases hm
    · exact .inr ⟨he ▸ hs, ⟨added, he.trans hp⟩, m', hm', hleft (.inr ⟨m, hm, hl⟩), by rw [hr, hcause]; exact hc⟩

/-! #### A group that an act finds ACTIVE -/

/-- Group `g` has not left ACTIVE since `s`, and its mark is as it was. -/
structure Part.StillActive (s p : Part) (g : Group) : Prop where
  role : p.role g = .active
  marks : p.evp.roleMarks.get g = s.evp.roleMarks.get g
  egress : ∃ added, p.evp.egress = s.evp.egress ++ added

/-- Group `g` has left ACTIVE since `s` (R117, R130, R166, R180). -/
structure Part.HasLeft (s p : Part) (g : Group) : Prop where
  role : p.role g = .yielding ∨ p.role g = .standby ∨ p.role g = .claiming ∨ p.role g = .fenced
  fp : (p.group g).fp = false
  forget : p.smt.forget.get g = some 0
  disowned : p.Disowned g
  told : s.ToldExit p g

theorem Part.HasLeft.not_active (h : s.HasLeft p g) : p.role g ≠ .active := by
  rcases h.role with h | h | h | h <;> simp [h]

/-- A move that leaves group `g` where it is. -/
structure Part.Beside (p q : Part) (g : Group) : Prop where
  role : q.role g = p.role g
  fp : (q.group g).fp = (p.group g).fp
  marks : q.evp.roleMarks.get g = p.evp.roleMarks.get g
  egress : ∃ added, q.evp.egress = p.evp.egress ++ added
  forget : q.smt.forget.get g = p.smt.forget.get g
  disowned : p.Disowned g → q.Disowned g

theorem Part.RolesStand.beside (h : p.RolesStand q) (g : Group) : p.Beside q g :=
  ⟨h.role g, (h.group g).fp, by rw [h.marks], h.egress, by rw [h.forget], h.disowned g⟩

theorem Part.StillActive.beside (h : s.StillActive p g) (hq : p.Beside q g) : s.StillActive q g := by
  obtain ⟨a, ha⟩ := h.egress
  obtain ⟨b, hb⟩ := hq.egress
  exact ⟨hq.role.trans h.role, hq.marks.trans h.marks, a ++ b, by rw [hb, ha, List.append_assoc]⟩

theorem Part.HasLeft.beside (h : s.HasLeft p g) (hq : p.Beside q g) : s.HasLeft q g :=
  ⟨hq.role.symm ▸ h.role, hq.fp.trans h.fp, hq.forget.trans h.forget, hq.disowned h.disowned,
    h.told.append hq.role hq.marks hq.egress⟩

/-- Group `g` stands where it stood as `s` began, or has left ACTIVE since. -/
def Part.Leaving (s p : Part) (g : Group) : Prop := s.StillActive p g ∨ s.HasLeft p g

theorem Part.Leaving.beside (h : s.Leaving p g) (hq : p.Beside q g) : s.Leaving q g :=
  h.imp (·.beside hq) (·.beside hq)

/-- The change of another group's role. -/
theorem Part.beside_setRole {h : Group} (hne : g ≠ h) (new : Role) (cause : RoleCause) : p.Beside (p.setRole h new cause) g := by
  have hg : (p.setRole h new cause).group g = p.group g := by rw [Part.group_setRole, if_neg hne]
  exact ⟨congrArg GroupRec.role hg, congrArg GroupRec.fp hg, (p.notified_setRole h new cause).others g hne,
    (p.notified_setRole h new cause).egress, by simp, fun hd => hd.of_eq (by simp [hd.takeover]) (by simp)⟩

theorem Part.Beside.trans {r : Part} (h : p.Beside q g) (h' : q.Beside r g) : p.Beside r g := by
  obtain ⟨a, ha⟩ := h.egress
  obtain ⟨b, hb⟩ := h'.egress
  exact ⟨h'.role.trans h.role, h'.fp.trans h.fp, h'.marks.trans h.marks, ⟨a ++ b, by rw [hb, ha, List.append_assoc]⟩,
    h'.forget.trans h.forget, h'.disowned ∘ h.disowned⟩

/-- The exit of another group. -/
theorem Part.beside_exitActive {h : Group} (hne : g ≠ h) (new : Role) (cause : RoleCause) :
    p.Beside (p.exitActive h new cause) g := by
  refine (p.beside_setRole hne new cause).trans ⟨rfl, rfl, rfl, ⟨[], (List.append_nil _).symm⟩, ?_, fun hd => ?_⟩
  · exact PerGroup.get_set_ne _ _ hne
  · exact Part.Disowned.stopTakeover (p := (p.setRole h new cause).setForget h (some 0)) (hd.of_eq hd.takeover rfl) h

/-- The record of another group rewritten. -/
theorem Part.beside_setGroup {h : Group} (hne : g ≠ h) (r : GroupRec) : p.Beside (p.setGroup h r) g := by
  have hg : (p.setGroup h r).group g = p.group g := by rw [Part.group_setGroup, if_neg hne]
  exact ⟨congrArg GroupRec.role hg, congrArg GroupRec.fp hg, rfl, ⟨[], (List.append_nil _).symm⟩, rfl,
    fun hd => hd.of_eq hd.takeover rfl⟩

/-- Group `g` leaves ACTIVE (R130, R142, R166). -/
theorem Part.StillActive.exits (h : s.StillActive p g) {new : Role} {cause : RoleCause} (hc : ExitTold new cause) :
    s.HasLeft (p.exitActive g new cause) g := by
  have hgroup : (p.exitActive g new cause).group g = (p.group g).enter new := by rw [Part.group_exitActive, if_pos rfl]
  have hrole : (p.exitActive g new cause).role g = new := congrArg GroupRec.role hgroup
  have hnotified := p.notified_setRole g new cause
  rw [h.role] at hnotified
  refine ⟨?_, ?_, PerGroup.get_set_same _ _ _, Part.disowned_stopTakeover _ _, ?_⟩
  · rw [hrole]
    rcases hc with ⟨h, -⟩ | ⟨h, -⟩ | ⟨h, -⟩ <;> simp [h]
  · rw [hgroup]
    rcases hc with ⟨h, -⟩ | ⟨h, -⟩ | ⟨h, -⟩ <;> rw [h] <;> rfl
  · obtain ⟨added, hp⟩ := h.egress
    rcases hnotified.told with ⟨hnone, -, he⟩ | ⟨he, hfull, m, hm, hcause, hleft⟩
    · exact .inl ⟨h.marks ▸ hnone, new, cause, added ++ [.role g new cause false], hc, by simp,
        he.trans (by rw [hp, List.append_assoc])⟩
    · refine .inr ⟨?_, ⟨added, he.trans hp⟩, m, hm, hleft (.inl rfl), ?_⟩
      · rw [← h.marks]
        exact hfull.imp_right fun h64 => le_of_le_of_eq h64 (congrArg List.length he).symm
      · rw [hrole, hcause]
        exact .inl hc

/-- A group that has left ACTIVE changes its role once more. -/
theorem Part.HasLeft.setRole (h : s.HasLeft p g) {new : Role} {cause : RoleCause} (hc : ToldSinceExit new cause) :
    s.HasLeft (p.setRole g new cause) g := by
  have hgroup := Part.group_setRole_same p g new cause
  have hrole : (p.setRole g new cause).role g = new := congrArg GroupRec.role hgroup
  have hroles : new = .yielding ∨ new = .standby ∨ new = .claiming ∨ new = .fenced := by
    rcases hc with (⟨h, -⟩ | ⟨h, -⟩ | ⟨h, -⟩) | ⟨h, -⟩ | ⟨h, -⟩ <;> simp [h]
  refine ⟨hrole.symm ▸ hroles, ?_, by simp [h.forget], h.disowned.of_eq (by simp [h.disowned.takeover]) (by simp),
    h.told.further (p.notified_setRole g new cause) hrole hc⟩
  rw [hgroup]
  rcases hroles with h | h | h | h <;> rw [h] <;> rfl

/-- The fencing of a group (R140). -/
theorem Part.Leaving.fenceGroup (h : s.Leaving p g) (h' : Group) : s.Leaving (p.fenceGroup h') g := by
  by_cases hg : g = h'
  · subst hg
    rcases h with h | h
    · have hf : p.fenceGroup g = p.exitActive g .fenced .fence := by simp only [Part.fenceGroup, h.role]
      rw [hf]
      exact .inr (h.exits (.inr (.inr ⟨rfl, rfl⟩)))
    · refine .inr ?_
      unfold Part.fenceGroup
      split
      · exact h
      · exact h
      · rename_i hr
        exact absurd hr h.not_active
      · exact h.setRole (.inl (.inr (.inr ⟨rfl, rfl⟩)))
  · refine h.beside ?_
    unfold Part.fenceGroup
    split
    · exact (Part.RolesStand.refl p).beside g
    · exact (Part.RolesStand.refl p).beside g
    · exact Part.beside_exitActive hg _ _
    · exact Part.beside_setRole hg _ _

/-- Whatever an act makes of a group that it finds ACTIVE, the group is ACTIVE still or has left as R130 says. -/
theorem Part.Reach.leaving (h : Part.Reach A s p) (hs : s.RolesSound) (ha : s.role g = .active) : s.Leaving p g := by
  have busy (h : s.Inactive g) : False := h hs ha
  have served {p : Part} (h : s.Leaving p g) : p.role g ≠ .dormant ∧ p.role g ≠ .listen := by
    rcases h with h | h
    · simp [h.role]
    · rcases h.role with h | h | h | h <;> simp [h]
  induction h with
  | start => exact .inl ⟨ha, rfl, [], (List.append_nil _).symm⟩
  | stands _ hq ih => exact ih.beside (hq.beside g)
  | @forgets p _ h c hk ih =>
    rcases ih with ih | ih
    · exact .inl ⟨ih.role, ih.marks, ih.egress⟩
    · have hne : g ≠ h := fun hg => ih.not_active (hg ▸ hk hs (hg ▸ ha))
      exact .inr ⟨ih.role, ih.fp, (PerGroup.get_set_ne _ _ hne).trans ih.forget, ih.disowned.of_eq ih.disowned.takeover rfl,
        ih.told.append rfl rfl ⟨[], (List.append_nil _).symm⟩⟩
  | @places p _ r ih =>
    have placed (added : List EgressRecord) (hp : p.evp.egress = s.evp.egress ++ added) :
        (p.placeAt s.evp.egress.length r).evp.egress = s.evp.egress ++ r :: added := by
      simp [Part.placeAt, hp]
    rcases ih with ih | ih
    · obtain ⟨added, hp⟩ := ih.egress
      exact .inl ⟨ih.role, ih.marks, r :: added, placed added hp⟩
    · refine .inr ⟨ih.role, ih.fp, ih.forget, ih.disowned.of_eq ih.disowned.takeover rfl, ih.told.congr rfl rfl fun added hp =>
        ⟨r :: added, placed added hp, List.subset_cons_self _ _, by simp⟩⟩
  | @standsBy p hp h cause hg ih =>
    by_cases hne : g = h
    · subst hne
      have may := hg (hp.sound hs)
      rcases ih with ih | ih
      · exact absurd ih.role may.roles.2.2
      · rcases may with hr | ⟨-, hc⟩ | ⟨-, hi⟩
        · exact absurd hr (served (.inr ih)).2
        · exact .inr (ih.setRole (.inr (.inl ⟨rfl, hc⟩)))
        · exact (busy hi).elim
    · exact ih.beside (Part.beside_setRole hne _ _)
  | @claims p _ h kind hr hk ih =>
    by_cases hne : g = h
    · subst hne
      have hstandby : p.role g = .standby := hr.resolve_right (served ih).2
      rcases ih with ih | ih
      · rw [ih.role] at hstandby
        cases hstandby
      · have hc : ToldSinceExit .claiming (causeOfClaim kind) := by
          cases kind
          · exact .inr (.inr ⟨rfl, .inl rfl⟩)
          · exact .inr (.inr ⟨rfl, .inr rfl⟩)
          · exact (busy (hk rfl)).elim
        have left := ih.setRole hc
        have hrole : (p.makeClaim g kind).role g = (p.setRole g .claiming (causeOfClaim kind)).role g := by
          simp [Part.role, Part.group_makeClaim, GroupRec.claimed]
        refine .inr ⟨hrole ▸ left.role, ?_, left.forget, left.disowned.of_eq left.disowned.takeover rfl,
          left.told.append hrole rfl ⟨[], (List.append_nil _).symm⟩⟩
        rw [Part.group_makeClaim, if_pos rfl]
        rfl
    · have hgroup : (p.makeClaim h kind).group g = p.group g := by rw [Part.group_makeClaim, if_neg hne]
      have hb := Part.beside_setRole (p := p) hne .claiming (causeOfClaim kind)
      exact ih.beside ⟨congrArg GroupRec.role hgroup, congrArg GroupRec.fp hgroup, hb.marks, hb.egress, hb.forget,
        fun hd => (hb.disowned hd).of_eq (hb.disowned hd).takeover rfl⟩
  | @leaves p _ h cause hr hc ih =>
    by_cases hne : g = h
    · subst hne
      rcases ih with ih | ih
      · exact .inr (ih.exits (.inr (.inl ⟨rfl, hc⟩)))
      · exact absurd hr ih.not_active
    · exact ih.beside (Part.beside_exitActive hne _ _)
  | @yields p _ h cause pending hr hc ih =>
    by_cases hne : g = h
    · subst hne
      rcases ih with ih | ih
      · have left := ih.exits (.inl ⟨rfl, hc⟩)
        have hrole : (p.yielded g cause pending).role g = (p.exitActive g .yielding cause).role g := by
          simp [Part.yielded, Part.role]
        exact .inr ⟨hrole ▸ left.role, by rw [Part.group_yielded, if_pos rfl]; rfl, left.forget,
          left.disowned.of_eq left.disowned.takeover rfl, left.told.append hrole rfl ⟨[], (List.append_nil _).symm⟩⟩
      · exact absurd hr ih.not_active
    · exact ih.beside ((Part.beside_exitActive hne _ _).trans (Part.beside_setGroup hne _))
  | @fences p _ f _ _ _ ih =>
    have fenced : s.Leaving (p.setFence f) g :=
      ih.beside ⟨rfl, rfl, rfl, ⟨[], (List.append_nil _).symm⟩, rfl, fun hd => hd.of_eq hd.takeover rfl⟩
    exact (fenced.fenceGroup .g0).fenceGroup .g1
  | unfences hp f _ _ hg _ => exact (busy (hg (hp.sound hs) g)).elim
  | @activates p hp h cause _ hg ih =>
    have hne : g ≠ h := fun hgh => busy (hgh ▸ (hg (hp.sound hs)).2)
    refine ih.beside ((Part.beside_setRole hne .active cause).trans
      ⟨rfl, rfl, rfl, ⟨[], (List.append_nil _).symm⟩, rfl, fun hd => hd.of_eq ?_ rfl⟩)
    exact (PerGroup.get_set_ne _ _ hne).trans hd.takeover
  | @configures p _ hp c hprofile _ ih =>
    have hm : p.isMember = false := by simp [Part.isMember, hprofile]
    exact absurd (((hp.sound hs).other hm).1 g) (served ih).1

/-- Settles O58: an act that takes a group from ACTIVE leaves it as `Part.HasLeft` says (`Part.Reach.leaving`). -/
theorem everyExitFromActiveDropsFp : Obligations.EveryExitFromActiveDropsFp := by
  intro c s t g hgroups hfences hexec hc ha hleft
  have sound := Part.rolesSound_iff.2 ⟨hgroups, hfences⟩
  rcases exec_group_cases hexec g with ⟨hreset, -⟩ | ht | ht
  · exact absurd hreset hc
  · exact absurd ((congrArg GroupRec.role ht).trans ha) hleft
  · have hleft : (s.toPart.act c).role g ≠ .active := by rw [← ht]; exact hleft
    rcases s.toPart.act_moves c with hr | ⟨hr, -⟩
    · rcases hr.leaving ⟨sound.ok, sound.member, sound.other⟩ ha with h | h
      · exact absurd h.role hleft
      · rw [ht]
        refine ⟨h.fp, h.forget, h.disowned.takeover, h.disowned.fillingBuffer, fun i _ _ _ _ hb => h.disowned.void hb, ?_⟩
        rcases h.told with ⟨hs, role, cause, added, htold, hin, he⟩ | ⟨hs, -, m, hm, hl, hfollows⟩
        · exact .inl ⟨hs, role, cause, added, htold, hin, he⟩
        · exact .inr ⟨hs, m, hm, hl, hfollows⟩
    · refine absurd (Eq.trans ?_ ha) hleft
      unfold Part.role Part.group
      rw [hr]

end Sys2Proof.Machine

namespace Sys2Proof.Machine

variable {p q : Part} {g : Group}

/-! ### Evaluations, claims and timers of the groups -/

/-! #### The frames of a claim (R97, R121, R132) -/

theorem queueReplace_fresh {α : Type} {same : α → Bool} {list : List α} (h : list.any same = false) (x : α) :
    queueReplace same list x = list ++ [x] := if_neg (by simp [h])

theorem Part.claims_setRole (p : Part) (g : Group) (new : Role) (cause : RoleCause) :
    (p.setRole g new cause).mbi.claims = p.mbi.claims.filter fun c => decide (c.group ≠ g) := by
  unfold Part.setRole
  rw [Part.roleNotice_mbi]
  rfl

/-- A claim's CLAIM frame joins the list in which no other of its group waits (R121, R122). -/
theorem Part.claims_makeClaim (p : Part) (g : Group) (kind : ClaimKind) :
    (p.makeClaim g kind).mbi.claims = (p.mbi.claims.filter fun c => decide (c.group ≠ g))
      ++ [{ group := g, kind := kind, number := (p.group g).claimNumber + 1, merit := p.ppu.merits.get g }] := by
  have h : (p.makeClaim g kind).mbi.claims = queueReplace (fun x => decide (x.group = g))
      (p.setRole g .claiming (causeOfClaim kind)).mbi.claims
      { group := g, kind := kind, number := (p.group g).claimNumber + 1, merit := p.ppu.merits.get g } := rfl
  rw [h, Part.claims_setRole, queueReplace_fresh (by simp)]

/-! #### What a STANDBY group makes of its evaluation (R120, R121) -/

/-- A STANDBY group that claims. -/
theorem Part.evalStandby_claims {kind : ClaimKind} (hr : p.role g = .standby) (h : p.standbyClaim g = some kind) :
    (p.evalStandby g).role g = .claiming
      ∧ (((p.evalStandby g).group g).claim.map fun c => (c.kind, c.number)) = some (kind, (p.group g).claimNumber + 1) := by
  rw [Part.role, p.group_evalStandby g hr, h]
  exact ⟨rfl, rfl⟩

/-- A STANDBY group that makes no claim. -/
theorem Part.group_evalStandby_idle (hr : p.role g = .standby) (h : p.standbyClaim g = none) :
    (p.evalStandby g).group g = (p.group g).withVacancy (p.vacancyHolds g) (p.after p.pulseInterval) := by
  rw [p.group_evalStandby g hr, h]
  rfl

/-- What the evaluation in STANDBY can do (R120). -/
theorem Part.evalStandby_cases (hr : p.role g = .standby) :
    p.evalStandby g = p.updateVacancy g ∨ ∃ kind, p.evalStandby g = (p.updateVacancy g).makeClaim g kind := by
  unfold Part.evalStandby
  rw [if_neg (not_not.2 hr)]
  dsimp only
  split
  · exact .inr ⟨_, rfl⟩
  · split
    · exact .inr ⟨_, rfl⟩
    · exact .inl rfl

/-- It is known by the claim that the group makes. -/
theorem Part.evalStandby_eq_makeClaim {kind : ClaimKind} (hr : p.role g = .standby) (h : p.standbyClaim g = some kind) :
    p.evalStandby g = (p.updateVacancy g).makeClaim g kind := by
  obtain ⟨hrole, hmade⟩ := Part.evalStandby_claims hr h
  rcases Part.evalStandby_cases hr with he | ⟨kind', he⟩
  · rw [he, (Part.stands_updateVacancy hr).role g, hr] at hrole
    cases hrole
  · rw [he, Part.group_makeClaim, if_pos rfl] at hmade
    simp only [GroupRec.claimed, Option.map_some, Option.some.injEq, Prod.mk.injEq] at hmade
    rw [he, hmade.1]

theorem Part.evalStandby_eq_updateVacancy (hr : p.role g = .standby) (h : p.standbyClaim g = none) :
    p.evalStandby g = p.updateVacancy g := by
  rcases Part.evalStandby_cases hr with he | ⟨kind, he⟩
  · exact he
  · have hrole : (p.evalStandby g).role g = .standby := by rw [Part.role, Part.group_evalStandby_idle hr h]; exact hr
    rw [he, Part.role, Part.group_makeClaim, if_pos rfl] at hrole
    cases hrole

theorem Part.evaluate_standby (hr : p.role g = .standby) : p.evaluate g = p.evalStandby g := by
  simp only [Part.evaluate, hr]

theorem Part.evaluate_listen (hr : p.role g = .listen) (h : p.listenMeets g = true) :
    p.evaluate g = p.enterStandby g .peerServing := by
  simp only [Part.evaluate, hr]
  exact if_pos h

theorem Part.evaluate_listen_stays (hr : p.role g = .listen) (h : p.listenMeets g = false) : p.evaluate g = p := by
  simp only [Part.evaluate, hr]
  exact if_neg (Bool.eq_false_iff.1 h)

theorem Part.evaluate_rest (hl : p.role g ≠ .listen) (hs : p.role g ≠ .standby) : p.evaluate g = p := by
  unfold Part.evaluate
  split
  · rename_i hr; exact absurd hr hl
  · rename_i hr; exact absurd hr hs
  · rfl

/-- The conditions of a PREEMPT claim, as they read for a member with its configuration and the other's merit (R120). -/
theorem Part.preemptConditions_iff {c : Profile} {m : BitVec 8} (hp : p.profile = some c)
    (hm : (p.peer p.otherMember).merits.get g = some m) :
    p.preemptConditions g = true ↔ p.otherLive = true ∧ p.standing g = some .active ∧ c.preempt.get g = true
      ∧ m.toNat + c.margin.toNat ≤ p.merit g ∧ p.heldOff g = false := by
  have hmargin : p.margin = c.margin.toNat := by simp [Part.margin, hp]
  simp [Part.preemptConditions, hp, hm, hmargin, and_assoc]

/-- A member that is not ACTIVE is not preempted (R120). -/
theorem Part.preemptConditions_of_standing (h : p.standing g ≠ some .active) : p.preemptConditions g = false := by
  simp [Part.preemptConditions, h]

/-- Where the other member is ACTIVE the vacancy timer's conditions do not hold (R120). -/
theorem Part.vacancyHolds_of_active (h : p.standing g = some .active) : p.vacancyHolds g = false := by
  simp [Part.vacancyHolds, Part.standingIdle, h, Role.idle]

/-- A STANDBY group whose other member is LIVE and not seen to be idle claims by preemption alone (R120). -/
theorem Part.standbyClaim_served (hl : p.otherLive = true) (hm : (p.group g).rebirthMark = false)
    (hv : p.vacancyHolds g = false) : p.standbyClaim g = if p.preemptConditions g then some .preempt else none := by
  simp [Part.standbyClaim, hl, hm, hv]

/-- A vacant STANDBY group claims where it has a merit, no hold-off, and the witness's word where one is configured (R120, R121). -/
theorem Part.standbyClaim_vacant (hvacant : p.otherLive = false ∨ (p.group g).rebirthMark = true)
    (hmerit : p.merit g ≠ 0) (hoff : p.heldOff g = false)
    (hw : p.witnessConfigured = false ∨ (p.peerLive .s2 = true ∧ p.witnessHearsNeither = true)) :
    p.standbyClaim g = some .vacant := by
  have hpos : 0 < p.merit g := Nat.pos_of_ne_zero hmerit
  unfold Part.standbyClaim
  refine if_pos ?_
  simp only [hoff, hpos, decide_true, Bool.not_false, Bool.and_true, Bool.true_and]
  rcases hvacant with hv | hv <;> rcases hw with hw | ⟨hl, hn⟩ <;> simp [*]

/-- With merit 0 a group makes no claim (R120, R121). -/
theorem Part.standbyClaim_unfit (hmerit : p.merit g = 0) (hmargin : p.margin ≠ 0) : p.standbyClaim g = none := by
  have hpre : p.preemptConditions g = false := by
    simp only [Part.preemptConditions, hmerit, Bool.and_eq_false_iff, decide_eq_false_iff_not]
    omega
  simp [Part.standbyClaim, hmerit, hpre]

/-- Settles O43: by the role, and in STANDBY by the claim that the group makes (`Part.standbyClaim`). -/
theorem evaluationOfAGroup : Obligations.EvaluationOfAGroup := by
  intro p g
  refine ⟨Part.evaluate_rest, fun hr h => ?alone, fun hr hl hst => ?served,
    fun c m hp hr hl hst hm => ⟨fun h => ?listenStays, fun h1 h2 h3 => ?listenClaims⟩,
    fun hr hvacant hmerit hoff hw => ?vacant, fun c m hp hr hl hmark hst hpre hm hmargin hoff => ?preempt,
    fun hr hmerit hmargin => ?unfit, p.group_evaluate_ne (by cases g <;> decide), by simp, by simp⟩
  case alone =>
    refine Part.evaluate_listen_stays hr (Bool.eq_false_iff.2 fun hmeets => ?_)
    obtain ⟨hl, hst⟩ := (p.listenMeets_iff g).1 hmeets
    rcases h with h | ⟨h1, h2, h3⟩
    · rw [h] at hl; cases hl
    · rcases hst with hst | hst | hst <;> contradiction
  case served =>
    have hmeets := (p.listenMeets_iff g).2 ⟨hl, hst.elim (.inr ∘ .inl) (.inr ∘ .inr)⟩
    rw [Part.evaluate_listen hr hmeets]
    refine (Part.enterStandby_stays ?_ _).1
    rw [Part.freshClaim_live hl, Part.preemptConditions_of_standing (by rcases hst with h | h <;> simp [h])]
    rfl
  case listenStays =>
    have hmeets := (p.listenMeets_iff g).2 ⟨hl, .inl hst⟩
    have hno : p.preemptConditions g = false := Bool.eq_false_iff.2 fun hpre => by
      obtain ⟨-, -, hc, hle, ho⟩ := (Part.preemptConditions_iff hp hm).1 hpre
      rcases h with h | h | h
      · rw [h] at hc; cases hc
      · omega
      · rw [h] at ho; cases ho
    rw [Part.evaluate_listen hr hmeets]
    exact (Part.enterStandby_stays (by rw [Part.freshClaim_live hl, hno]; rfl) _).1
  case listenClaims =>
    have hmeets := (p.listenMeets_iff g).2 ⟨hl, .inl hst⟩
    have hyes := (Part.preemptConditions_iff hp hm).2 ⟨hl, hst, h1, h2, h3⟩
    rw [Part.evaluate_listen hr hmeets]
    exact Part.enterStandby_claims (by rw [Part.freshClaim_live hl, hyes]; rfl) _
  case vacant =>
    have hclaim := Part.standbyClaim_vacant hvacant hmerit hoff hw
    rw [Part.evaluate_standby hr]
    obtain ⟨hrole, hmade⟩ := Part.evalStandby_claims hr hclaim
    refine ⟨hrole, hmade, ?_⟩
    have hnumber : ((p.updateVacancy g).group g).claimNumber = (p.group g).claimNumber := by
      rw [Part.group_updateVacancy]; rfl
    rw [Part.evalStandby_eq_makeClaim hr hclaim, Part.claims_makeClaim, hnumber, Part.updateVacancy_ppu]
    simp
  case preempt =>
    have hyes := (Part.preemptConditions_iff hp hm).2 ⟨hl, hst, hpre, hmargin, hoff⟩
    rw [Part.evaluate_standby hr]
    refine Part.evalStandby_claims hr ?_
    rw [Part.standbyClaim_served hl hmark (Part.vacancyHolds_of_active hst), hyes]
    rfl
  case unfit =>
    rw [Part.evaluate_standby hr, Part.role, Part.group_evalStandby_idle hr (Part.standbyClaim_unfit hmerit hmargin)]
    exact hr

end Sys2Proof.Machine

namespace Sys2Proof.Machine

variable {p q : Part} {g : Group}

/-! #### The listen, vacancy and hold-off timers (R119, R120, R128) -/

theorem Part.act_listenTimer {d : Tick} (hr : p.role g = .listen) (hd : (p.group g).listen = some d) :
    p.act (.listenTimerExpiry g) = if p.reached d then p.listenEnd g else p := by
  change p.onlyIf (p.listenDue g) (fun q => q.listenEnd g) = _
  simp only [Part.listenDue, hr, hd, decide_true, Bool.true_and]
  rfl

theorem Part.act_vacancyTimer {d : Tick} (hd : (p.group g).vacancy = .running d) :
    p.act (.vacancyTimerExpiry g) = if p.reached d then p.vacancyEnd g else p := by
  change p.onlyIf (p.vacancyDue g) (fun q => q.vacancyEnd g) = _
  simp only [Part.vacancyDue, hd]
  rfl

theorem Part.act_holdOff {d : Tick} (hd : (p.group g).holdOff = some d) :
    p.act (.holdOffExpiry g) = if p.reached d then p.holdOffEnd g else p := by
  change p.onlyIf (p.ranOut (p.group g).holdOff) (fun q => q.holdOffEnd g) = _
  rw [hd]
  rfl

/-- Without the VACANT conditions a group that enters STANDBY claims by preemption or not at all (R119, R121). -/
theorem Part.freshClaim_of_vacant (h : p.vacantConditions g = false) :
    p.freshClaim g = if p.preemptConditions g then some .preempt else none := by
  have hno : (!p.otherLive && (decide (0 < p.merit g) && !p.heldOff g
      && (!p.witnessConfigured || (p.peerLive .s2 && p.witnessHearsNeither)))) = false := by
    refine Bool.eq_false_iff.2 fun hx => ?_
    simp only [Bool.and_eq_true, Bool.or_eq_true] at hx
    obtain ⟨-, ⟨hmerit, hoff⟩, hw⟩ := hx
    have hyes : p.vacantConditions g = true := by
      unfold Part.vacantConditions
      rw [hmerit, hoff]
      rcases hw with hw | ⟨hl, hn⟩ <;> simp [*]
    rw [h] at hyes
    cases hyes
  simp [Part.freshClaim, hno]

/-- A claim just made is left as it is by the evaluation that follows. -/
theorem Part.group_evaluateAll_makeClaim (p : Part) (g : Group) (kind : ClaimKind) :
    (p.makeClaim g kind).evaluateAll.group g = (p.group g).claimed kind := by
  have hg : (p.makeClaim g kind).group g = (p.group g).claimed kind := by rw [Part.group_makeClaim, if_pos rfl]
  have hrole : (p.makeClaim g kind).role g = .claiming := congrArg GroupRec.role hg
  rw [Part.group_evaluateAll_rest (by simp [hrole]) (by simp [hrole]), hg]

theorem Part.listenEnd_claims (h : p.vacantConditions g = true) :
    (p.listenEnd g).role g = .claiming
      ∧ (((p.listenEnd g).group g).claim.map fun c => (c.kind, c.number)) = some (.vacant, (p.group g).claimNumber + 1) := by
  unfold Part.listenEnd
  rw [if_pos h, Part.role, Part.group_evaluateAll_makeClaim]
  exact ⟨rfl, rfl⟩

theorem Part.listenEnd_stands (h : p.vacantConditions g = false) :
    (p.listenEnd g).role g = if p.preemptConditions g then .claiming else .standby := by
  unfold Part.listenEnd
  rw [if_neg (Bool.eq_false_iff.1 h), Part.role_evaluateAll_enterStandby, Part.freshClaim_of_vacant h]
  cases p.preemptConditions g <;> rfl

/-- A STANDBY group that claims at its evaluation. -/
theorem Part.evaluateAll_claims {kind : ClaimKind} (hr : p.role g = .standby) (h : p.standbyClaim g = some kind) :
    p.evaluateAll.role g = .claiming
      ∧ ((p.evaluateAll.group g).claim.map fun c => (c.kind, c.number)) = some (kind, (p.group g).claimNumber + 1) := by
  rw [Part.role, Part.group_evaluateAll, Part.evaluate_standby hr]
  exact Part.evalStandby_claims hr h

theorem Part.group_evaluateAll_idle (hr : p.role g = .standby) (h : p.standbyClaim g = none) :
    p.evaluateAll.group g = (p.group g).withVacancy (p.vacancyHolds g) (p.after p.pulseInterval) := by
  rw [Part.group_evaluateAll, Part.evaluate_standby hr, Part.group_evalStandby_idle hr h]

/-- The claim that the vacancy timer, run out, lets STANDBY make (R120, R121). -/
theorem Part.standbyClaim_ranOut (hv : p.vacancyHolds g = true) (hrun : (p.group g).vacancy = .runOut)
    (hmerit : p.merit g ≠ 0) (hoff : p.heldOff g = false) (hw : p.witnessConfigured = false ∨ p.peerLive .s2 = true) :
    p.standbyClaim g = some .vacant := by
  have hpos : 0 < p.merit g := Nat.pos_of_ne_zero hmerit
  have hout : p.vacancyRunOut g = true := decide_eq_true hrun
  have holds := hv
  simp only [Part.vacancyHolds, Bool.and_eq_true] at holds
  obtain ⟨⟨-, hl⟩, hi⟩ := holds
  unfold Part.standbyClaim
  refine if_pos ?_
  simp only [hv, hout, hl, hi, hoff, hpos]
  rcases hw with hw | hw <;> simp [hw]

/-- While the vacancy timer's conditions hold no claim is made by preemption, and with merit 0 none at all (R120). -/
theorem Part.standbyClaim_idleUnfit (hv : p.vacancyHolds g = true) (hmerit : p.merit g = 0) : p.standbyClaim g = none := by
  have hst : p.standing g ≠ some .active := fun h => by rw [Part.vacancyHolds_of_active h] at hv; cases hv
  simp [Part.standbyClaim, hmerit, Part.preemptConditions_of_standing hst]

/-- An evaluation leaves every hold-off. -/
theorem Part.holdOff_evaluateAll (p : Part) (g : Group) : (p.evaluateAll.group g).holdOff = (p.group g).holdOff := by
  have next (r : GroupRec) (holds : Bool) (d : Tick) (kind : Option ClaimKind) :
      (r.standbyNext holds d kind).holdOff = r.holdOff := by cases kind <;> rfl
  rw [Part.group_evaluateAll_eq]
  split
  · split
    · exact next _ _ _ _
    · rfl
  · exact next _ _ _ _
  · rfl

/-- The record of a group written, with what else the evaluation of the group reads as it was. -/
theorem Part.vacancyHolds_setGroup {r : GroupRec} (hr : r.role = (p.group g).role)
    (hc : r.peerClaiming = (p.group g).peerClaiming) : (p.setGroup g r).vacancyHolds g = p.vacancyHolds g := by
  have w := p.sameWorld_setGroup g r
  have hst := w.standing (g := g) (by rw [Part.group_setGroup_same, hc])
  have hrole : (p.setGroup g r).role g = p.role g := by rw [Part.role, Part.group_setGroup_same, hr, Part.role]
  simp [Part.vacancyHolds, hrole, w.otherLive, Part.standingIdle, hst]

/-- Settles O40: each timer by its act, and the group's evaluation then by the claim it makes. -/
theorem groupTimersLeadToClaims : Obligations.GroupTimersLeadToClaims := by
  intro s g d hs
  have early {i : Instr} {f : Part} {b : Bool} (ha : s.toPart.act i = if b then f else s.toPart) (hb : b = false)
      (h1 : i ≠ .reset) (h2 : i ≠ .resetEnd) : exec i s = .next s :=
    exec_of_act hs (ha.trans (if_neg (by simp [hb]))) h1 h2
  refine ⟨fun hr hd => ⟨fun hdue => ?listen, fun hdue => early (Part.act_listenTimer hr hd) hdue nofun nofun⟩,
    fun hr hd => ⟨fun hdue => ?vacancy, fun hdue => early (Part.act_vacancyTimer hd) hdue nofun nofun⟩,
    fun hd => ⟨fun hdue => ?holdOff, fun hdue => early (Part.act_holdOff hd) hdue nofun nofun⟩⟩
  case listen =>
    refine ⟨_, exec_of_act hs ((Part.act_listenTimer hr hd).trans (if_pos hdue)), Part.listenEnd_claims,
      Part.listenEnd_stands, ?_⟩
    change (s.listenEnd g).smt = _ ∧ (s.listenEnd g).rpu = _ ∧ (s.listenEnd g).ppu = _
    unfold Part.listenEnd
    split <;> simp
  case vacancy =>
    have w := s.toPart.sameWorld_setGroup g { s.group g with vacancy := .runOut }
    have hrole : (s.setGroup g { s.group g with vacancy := .runOut }).role g = .standby := by
      rw [Part.role, Part.group_setGroup_same]; exact hr
    have hrun : ((s.setGroup g { s.group g with vacancy := .runOut }).group g).vacancy = .runOut := by
      rw [Part.group_setGroup_same]
    have holds : (s.setGroup g { s.group g with vacancy := .runOut }).vacancyHolds g = s.vacancyHolds g :=
      Part.vacancyHolds_setGroup rfl rfl
    have hoff : (s.setGroup g { s.group g with vacancy := .runOut }).heldOff g = s.heldOff g :=
      Part.SameWorld.heldOff (by rw [Part.group_setGroup_same])
    refine ⟨_, exec_of_act hs ((Part.act_vacancyTimer hd).trans (if_pos hdue)), fun hv hm ho hw => ?_, fun hv hm => ?_,
      by simp [Part.vacancyEnd], by simp [Part.vacancyEnd], by simp [Part.vacancyEnd]⟩
    · have hclaims := Part.evaluateAll_claims hrole (Part.standbyClaim_ranOut (holds.trans hv) hrun (by rwa [w.merit])
        (hoff.trans ho) (by rwa [w.witnessConfigured, w.peerLive]))
      rw [Part.group_setGroup_same] at hclaims
      exact hclaims
    · refine (Part.group_evaluateAll_idle hrole (Part.standbyClaim_idleUnfit (holds.trans hv) (by rwa [w.merit]))).trans ?_
      rw [holds, hv, Part.group_setGroup_same]
      rfl
  case holdOff =>
    have w := s.toPart.sameWorld_setGroup g { s.group g with holdOff := none }
    refine ⟨_, exec_of_act hs ((Part.act_holdOff hd).trans (if_pos hdue)), ?_, ?_, fun hr hl hm hw => ?_,
      by simp [Part.holdOffEnd], by simp [Part.holdOffEnd], by simp [Part.holdOffEnd]⟩
    · exact (Part.holdOff_evaluateAll _ g).trans (by rw [Part.group_setGroup_same])
    · exact (Part.holdOff_evaluateAll _ g.other).trans (by rw [Part.group_setGroup, if_neg (by cases g <;> decide)])
    · refine (Part.evaluateAll_claims ?_ (Part.standbyClaim_vacant (.inl (by rwa [w.otherLive])) (by rwa [w.merit]) ?_
        (.inl (by rwa [w.witnessConfigured])))).1
      · rw [Part.role, Part.group_setGroup_same]; exact hr
      · simp [Part.heldOff]

end Sys2Proof.Machine

namespace Sys2Proof.Machine

variable {p q : Part} {g : Group}

/-! #### Taking a YIELD and an ANSWER (R120, R123 to R126, R128) -/

/-- What the header of a frame leaves of what the Role Controller knows of the other member (R118). -/
theorem Part.standing_afterHeader (l : Lane) (y : Station) (x : Option (Lane × List Byte)) (g : Group) :
    (p.afterHeader l y x).standing g = p.standing g := by
  have hpeer : ((p.afterHeader l y x).peer p.otherMember).roles = (p.peer p.otherMember).roles := by
    change ((p.setPeer y { p.peer y with lastHeard := some p.clock
                                         heardOn := (p.peer y).heardOn.set l (some p.clock) }).peer p.otherMember).roles = _
    rw [Part.peer_setPeer]
    split
    · rename_i h; rw [h]
    · rfl
  change (if ((p.group g).peerClaiming) then _ else ((p.afterHeader l y x).peer p.otherMember).roles.get g) = _
  rw [hpeer]
  rfl

/-- What a member does with a frame that is no copy, known by what its content comes to (R93). -/
theorem exec_of_taken {s : State} {l : Lane} {rx : Reception} {y : Station} {c : Content} {t : Part} (hm : s.isMember = true)
    (h : s.hearsNew l rx y c) (ht : (s.afterHeader l y (c.kind.expectation l rx.bytes)).memberTakes y c = t) :
    exec (c.kind.command l rx) s = .next (s.withPart t) := ht ▸ exec_of_hearsNew hm h

/-- A YIELD taken in STANDBY or LISTEN, with a merit above 0 (R120). -/
theorem Part.takeYield_claims (hr : p.role g = .standby ∨ p.role g = .listen) (hm : p.ppu.merits.get g ≠ 0) :
    p.takeYield g = p.makeClaim g .handed := by
  have hpos : 0 < p.merit g := Nat.pos_of_ne_zero fun h => hm (BitVec.eq_of_toNat_eq h)
  rcases hr with hr | hr <;> simp only [Part.takeYield, hr, hpos, if_true]

/-- Any other YIELD (R120). -/
theorem Part.takeYield_ignored (h : (p.role g ≠ .standby ∧ p.role g ≠ .listen) ∨ p.ppu.merits.get g = 0) :
    p.takeYield g = p := by
  rcases h with ⟨hs, hl⟩ | hm
  · cases hr : p.role g <;> simp_all [Part.takeYield]
  · have hzero : ¬ 0 < p.merit g := by simp [Part.merit, hm]
    unfold Part.takeYield
    rw [if_neg hzero]
    cases p.role g <;> rfl

/-- Settles O30: a claim changes its own group (`Part.group_makeClaim`) and the waiting CLAIMs (`Part.claims_makeClaim`). -/
theorem yieldMakesAHandedClaim : Obligations.YieldMakesAHandedClaim := by
  intro s l rx y g hm h
  refine ⟨fun hr hmerit => ⟨_, exec_of_taken hm h (Part.takeYield_claims hr hmerit), ?_, Part.claims_makeClaim _ g .handed,
    ?_, by simp [State.withPart, Part.afterHeader]⟩, fun hno => exec_of_taken hm h (Part.takeYield_ignored hno)⟩
  · exact (Part.group_makeClaim _ g g .handed).trans (if_pos rfl)
  · exact (Part.group_makeClaim _ g g.other .handed).trans (if_neg (by cases g <;> decide))

/-! #### A claim that fails with the hold-off (R124, R125, R128) -/

/-- No claim is made under a hold-off (R121, R128). -/
theorem Part.freshClaim_of_heldOff (h : p.heldOff g = true) : p.freshClaim g = none := by
  simp [Part.freshClaim, Part.preemptConditions, h]

/-- The group's record as its claim fails with the hold-off. -/
theorem Part.group_failClaim (p : Part) (g : Group) :
    (p.failClaim g true).group g
      = (({ p.group g with holdOff := some (p.after (8 * p.pulseInterval)) } : GroupRec).enter .standby).withVacancy
          (p.idleMember g) (p.after p.pulseInterval) := by
  set q := p.setGroup g { p.group g with holdOff := some (p.after (8 * p.pulseInterval)) } with hq
  have w : p.SameWorld q := p.sameWorld_setGroup g _
  have hst : q.standing g = p.standing g := w.standing (by rw [hq, Part.group_setGroup_same])
  have hidle : q.idleMember g = p.idleMember g := by simp [Part.idleMember, Part.standingIdle, w.otherLive, hst]
  have hfresh : q.freshClaim g = none := Part.freshClaim_of_heldOff (by simp [hq, Part.heldOff])
  change (q.enterStandby g .claimFailed).group g = _
  rw [Part.group_enterStandby, hfresh, hidle, w.after, w.pulseInterval, hq, Part.group_setGroup_same]
  rfl

theorem Part.group_failClaim_ne {h : Group} (hne : h ≠ g) : (p.failClaim g true).group h = p.group h :=
  (Part.group_enterStandby_ne _ hne _).trans ((Part.group_setGroup _ _ _ _).trans (if_neg hne))

/-- The evaluation that follows finds nothing more to do. -/
theorem Part.group_evaluateAll_failClaim (p : Part) (g : Group) :
    (p.failClaim g true).evaluateAll.group g = (p.failClaim g true).group g :=
  Part.group_evaluateAll_of_enterStandby (Part.SameView.refl _ g)

/-! #### An ANSWER, by its verdict -/

/-- An ANSWER for another station or under another claim number (R123). -/
theorem Part.takeAnswer_unmatched {y : Station} {a : AnswerFrame}
    (h : ∀ c, (p.group a.group).claim = some c → a.claimer ≠ p.self ∨ a.number ≠ c.number) : p.takeAnswer y a = p := by
  unfold Part.takeAnswer
  split
  · rfl
  · rename_i c hc
    exact if_pos (h c hc)

/-- One that matches acts by its verdict. -/
theorem Part.takeAnswer_matched {y : Station} {a : AnswerFrame} {c : ClaimRecord} (hc : (p.group a.group).claim = some c)
    (hs : a.claimer = p.self) (hn : a.number = c.number) :
    p.takeAnswer y a = match a.verdict with
      | .vote => if y = .s2 ∧ c.kind = .vacant then
          p.setGroup a.group { p.group a.group with claim := some { c with witnessVerdict := some .vote } } else p
      | .deny => if y = .s2 ∧ c.kind = .vacant then p.failClaim a.group true else p
      | .contest => if y = p.otherMember then
          (if c.kind = .handed then
            p.setGroup a.group { p.group a.group with claim := some { c with
              activeVerdict := some { verdict := .contest, tick := p.clock, incomplete := false } } }
          else p.failClaim a.group true) else p
      | .concede => if y = p.otherMember ∧ c.kind = .preempt ∧ ((p.standing a.group).map Role.serving).getD false = true then
          p.setGroup a.group { p.group a.group with
            claim := some { c with
              activeVerdict := some { verdict := .concede, tick := p.clock, incomplete := a.incomplete }
              deadline := some (p.after p.deadTime), held := false }
            deadTimer := some (p.after p.deadTime) } else p := by
  have hmatch : ¬ (a.claimer ≠ p.self ∨ a.number ≠ c.number) := by simp [hs, hn]
  unfold Part.takeAnswer
  rw [hc]
  simp only [if_neg hmatch]
  cases a.verdict
  case contest => cases c.kind <;> rfl
  all_goals rfl

/-- The other member serves the group by its standing. -/
theorem Part.standingServes_iff :
    ((p.standing g).map Role.serving).getD false = true ↔ p.standing g = some .active ∨ p.standing g = some .yielding := by
  cases p.standing g with
  | none => simp
  | some r => cases r <;> simp [Role.serving]

/-- Settles O29: by the verdict (`Part.takeAnswer_matched`); a claim that it fails leaves STANDBY under the hold-off. -/
theorem answerReachesItsClaim : Obligations.AnswerReachesItsClaim := by
  intro s l rx y a hm h
  set u := s.afterHeader l y (some (l.other, rx.bytes))
  have done {t : Part} (ht : u.takeAnswer y a = t) : exec (.answerFrame l rx) s = .next (s.withPart t) :=
    exec_of_taken hm h ht
  have hserves := Part.standingServes_iff (p := u) (g := a.group)
  rw [show u.standing a.group = s.standing a.group from Part.standing_afterHeader _ _ _ _] at hserves
  have hstanding : u.standing a.group = s.standing a.group := Part.standing_afterHeader _ _ _ _
  refine ⟨fun hnone => done (Part.takeAnswer_unmatched fun c hc => ?_), fun c hc => ⟨fun hno => ?_, fun hs hn => ?_⟩⟩
  · rw [show (u.group a.group).claim = none from hnone] at hc
    cases hc
  · refine done (Part.takeAnswer_unmatched fun c' hc' => ?_)
    rw [show (u.group a.group).claim = some c from hc] at hc'
    cases hc'
    exact hno
  have hans := Part.takeAnswer_matched (p := u) (y := y) hc hs hn
  refine ⟨fun hy hv hk => ?vote, fun hfail => ?fails, fun hy hv hk hst => ?concede, fun hy hv hk => ?contestHanded,
    fun hv hno => ?noWitness, fun hv hy => ?noContest, fun hv hno => ?noConcede⟩
  case vote => exact done (hans.trans (by rw [hv]; exact if_pos ⟨hy, hk⟩))
  case fails =>
    have hfailed : u.takeAnswer y a = u.failClaim a.group true := by
      rw [hans]
      rcases hfail with ⟨hy, hv, hk⟩ | ⟨hy, hv, hk⟩
      · rw [hv]; exact if_pos ⟨hy, hk⟩
      · rw [hv]; exact (if_pos hy).trans (if_neg hk)
    have hgroup := Part.group_failClaim u a.group
    refine ⟨_, done hfailed, congrArg GroupRec.role hgroup, congrArg GroupRec.claim hgroup, congrArg GroupRec.fp hgroup,
      congrArg GroupRec.holdOff hgroup, Part.group_failClaim_ne (by cases a.group <;> decide), ?_, ?_⟩
    · exact Part.failClaim_smt _ _ _
    · exact Part.failClaim_rpu _ _ _
  case concede =>
    refine done (hans.trans ?_)
    rw [hv]
    exact if_pos ⟨hy, hk, by rw [hstanding]; exact hserves.2 hst⟩
  case contestHanded => exact done (hans.trans (by rw [hv]; exact (if_pos hy).trans (if_pos hk)))
  case noWitness =>
    have hno' : ¬ (y = .s2 ∧ c.kind = .vacant) := not_and_or.2 hno
    exact done (hans.trans (by rcases hv with hv | hv <;> rw [hv] <;> exact if_neg hno'))
  case noContest => exact done (hans.trans (by rw [hv]; exact if_neg hy))
  case noConcede =>
    refine done (hans.trans ?_)
    rw [hv]
    refine if_neg fun ⟨hy, hk, hst⟩ => ?_
    rcases hno with hy' | hk' | ⟨h1, h2⟩
    · exact hy' hy
    · exact hk' hk
    · rw [hstanding] at hst
      exact (hserves.1 hst).elim h1 h2

end Sys2Proof.Machine

namespace Sys2Proof.Machine

variable {p q : Part} {g : Group}

/-! #### A claim at its deadline (R124 to R126, R128, R129, R138) -/

theorem Part.act_deadTime (p : Part) (g : Group) :
    p.act (.deadTimeExpiry g) = if p.deadTimeDue g then p.deadTimeEnd g else p := rfl

/-- The part whose dead-time timer has been stopped where it has run out. -/
def Part.deadTimerEnded (p : Part) (g : Group) : Part :=
  p.setGroup g { p.group g with deadTimer := if p.ranOut (p.group g).deadTimer then none else (p.group g).deadTimer }

theorem Part.claimAtDeadline_some {c : ClaimRecord} {d t0 : Tick} (hc : (p.group g).claim = some c) (ht : c.txTick = some t0)
    (hd : c.deadline = some d) (hh : c.held = false) : p.claimAtDeadline g = if p.reached d then some c else none := by
  simp [Part.claimAtDeadline, hc, ht, hd, hh, Option.filter, Part.ranOut]

theorem Part.act_deadTime_of_claim {c : ClaimRecord} (hc : p.claimAtDeadline g = some c) :
    p.act (.deadTimeExpiry g) = ((p.deadTimerEnded g).resolveDeadline g c).evaluateAll := by
  have hdue : p.deadTimeDue g = true := by simp [Part.deadTimeDue, hc]
  rw [Part.act_deadTime, if_pos hdue, Part.deadTimeEnd, hc]
  rfl

theorem Part.act_deadTime_early (hc : p.claimAtDeadline g = none) (hd : p.ranOut (p.group g).deadTimer = false) :
    p.act (.deadTimeExpiry g) = p := if_neg (by simp [Part.deadTimeDue, hc, hd])

/-- The claims that win at their deadline, kind by kind (R124 to R126). -/
theorem Part.claimWins_iff {c : ClaimRecord} : p.claimWins c = true ↔ c.kind = .handed
    ∨ (c.kind = .vacant ∧ (p.witnessConfigured = false ∨ c.witnessVerdict = some .vote))
    ∨ (c.kind = .preempt ∧ ∃ v, c.activeVerdict = some v ∧ v.verdict = .concede) := by
  unfold Part.claimWins
  cases c.kind with
  | handed => simp
  | vacant => simp
  | preempt => cases c.activeVerdict <;> simp

theorem Part.resolveDeadline_enters {c : ClaimRecord} (hw : p.claimWins c = true) (hf : p.smt.forget.get g = none) :
    p.resolveDeadline g c = p.enterActive g (claimWonCause c) := by
  simp [Part.resolveDeadline, hw, hf]

theorem Part.resolveDeadline_waits {c : ClaimRecord} (hw : p.claimWins c = true) (hf : p.smt.forget.get g ≠ none) :
    p.resolveDeadline g c = p.setGroup g { p.group g with claim := some { c with held := true } } := by
  simp [Part.resolveDeadline, hw, Option.isSome_iff_ne_none, hf]

theorem Part.resolveDeadline_fails {c : ClaimRecord} (hw : p.claimWins c = false) :
    p.resolveDeadline g c = p.failClaim g true := by
  simp [Part.resolveDeadline, hw]

/-- An entry to ACTIVE that finds the quorum leaves the groups to their evaluation, which leaves this one ACTIVE (R129). -/
theorem Part.enterActive_quorate {cause : RoleCause}
    (h : p.witnessConfigured = false ∨ p.otherLive = true ∨ p.peerLive .s2 = true) :
    p.enterActive g cause = p.activated g cause := by
  refine Part.testQuorum_of_not _ ((Part.quorumLost_activated p g cause).trans ?_)
  rcases h with h | h | h <;> simp [h]

theorem Part.group_evaluateAll_activated (p : Part) (g : Group) (cause : RoleCause) :
    (p.activated g cause).evaluateAll.group g = (p.group g).enter .active := by
  have hrole := p.role_activated g cause
  rw [Part.group_evaluateAll_rest (by simp [hrole]) (by simp [hrole]), Part.group_activated, if_pos rfl]

/-- The part in which NO_QUORUM, the first cause, has fenced every group as one entered ACTIVE (R138, R140). -/
def Part.unquorate (p : Part) (g : Group) (cause : RoleCause) : Part :=
  (p.activated g cause).setFence { p.rcu.fence with noQuorum := true }

theorem Part.enterActive_unquorate {cause : RoleCause} (hm : p.isMember = true) (hw : p.witnessConfigured = true)
    (ho : p.otherLive = false) (h2 : p.peerLive .s2 = false) (hf : p.rcu.fence.any = false) :
    p.enterActive g cause = (p.unquorate g cause).fenceAll :=
  Part.enterActive_fenced ((Part.quorumLost_activated p g cause).trans (by simp [hm, hw, ho, h2])) hf

theorem Part.role_unquorate (p : Part) (g h : Group) (cause : RoleCause) :
    (p.unquorate g cause).role h = if h = g then .active else p.role h := by
  refine (congrArg GroupRec.role (Part.group_activated p g h cause)).trans ?_
  split <;> rfl

/-- Every group that takes part is FENCED then, and stays so at its evaluation (R140). -/
theorem Part.group_evaluateAll_unquorate {cause : RoleCause} {h : Group}
    (hh : h = g ∨ (p.role h ≠ .dormant ∧ p.role h ≠ .fenced)) :
    (p.unquorate g cause).fenceAll.evaluateAll.group h = ((p.unquorate g cause).group h).enter .fenced := by
  have hrole : (p.unquorate g cause).role h ≠ .dormant ∧ (p.unquorate g cause).role h ≠ .fenced := by
    rw [Part.role_unquorate]
    split
    · decide
    · rename_i hne; exact hh.resolve_left hne
  have hgroup := Part.group_fenceAll_of hrole
  have hfenced : (p.unquorate g cause).fenceAll.role h = .fenced := congrArg GroupRec.role hgroup
  rw [Part.group_evaluateAll_rest (by simp [hfenced]) (by simp [hfenced]), hgroup]

/-- Settles O41: what the claim wins decides the act (`Part.claimWins_iff`), and an entry to ACTIVE turns on the quorum. -/
theorem claimMeetsItsDeadline : Obligations.ClaimMeetsItsDeadline := by
  intro s g c d t0 hs hr hc ht hd hh wins
  set q := s.deadTimerEnded g with hq
  have w : s.SameWorld q := s.sameWorld_setGroup g _
  have hqgroup : q.group g = _ := s.group_setGroup_same g _
  have hmeets := Part.claimAtDeadline_some (p := s.toPart) hc ht hd hh
  have hwins : q.claimWins c = true ↔ wins := by rw [Part.claimWins_iff, w.witnessConfigured]
  refine ⟨fun hdue => ?_, fun hearly htimer => ?early⟩
  case early =>
    refine exec_of_act hs (Part.act_deadTime_early (hmeets.trans (if_neg (by simp [hearly]))) ?_)
    cases hx : (s.group g).deadTimer with
    | none => rfl
    | some x => exact htimer x hx
  have hact := Part.act_deadTime_of_claim (hmeets.trans (if_pos hdue))
  refine ⟨_, exec_of_act hs hact, fun hwin hf hquorum => ?enters, fun hwin hf hm hwc ho h2 hfence => ?fences,
    fun hwin hf => ?waits, fun hlost => ?fails⟩
  case enters =>
    rw [← w.witnessConfigured, ← w.otherLive, ← w.peerLive] at hquorum
    have hres := (Part.resolveDeadline_enters (g := g) (hwins.2 hwin) hf).trans (Part.enterActive_quorate hquorum)
    have hgroup := q.group_evaluateAll_activated g (claimWonCause c)
    change (q.resolveDeadline g c).evaluateAll.role g = _ ∧ ((q.resolveDeadline g c).evaluateAll.group g).fp = _
      ∧ ((q.resolveDeadline g c).evaluateAll.group g).claim = _ ∧ (q.resolveDeadline g c).evaluateAll.rpu = _
      ∧ (q.resolveDeadline g c).evaluateAll.ppu = _ ∧ (q.resolveDeadline g c).evaluateAll.smt = _
    rw [hres]
    exact ⟨congrArg GroupRec.role hgroup, congrArg GroupRec.fp hgroup, congrArg GroupRec.claim hgroup,
      by simp [Part.activated, hq, Part.deadTimerEnded], by simp [Part.activated, hq, Part.deadTimerEnded],
      by simp [Part.activated, hq, Part.deadTimerEnded, Part.setWalk]⟩
  case fences =>
    have hres := (Part.resolveDeadline_enters (g := g) (hwins.2 hwin) hf).trans (Part.enterActive_unquorate
      (cause := claimWonCause c) (w.isMember.trans hm) (w.witnessConfigured.trans hwc) (w.otherLive.trans ho)
      ((w.peerLive _).trans h2) hfence)
    have hgroup {h : Group} (hh : h = g ∨ (s.role h ≠ .dormant ∧ s.role h ≠ .fenced)) :=
      Part.group_evaluateAll_unquorate (p := q) (g := g) (cause := claimWonCause c) (h := h) <| hh.imp_right fun hx => by
        have hrole : q.role h = s.role h := by
          refine (congrArg GroupRec.role (s.group_setGroup g h _)).trans ?_
          split
          · rename_i heq; rw [heq]; rfl
          · rfl
        rw [hrole]; exact hx
    obtain ⟨hforget, htakeover⟩ := (q.unquorate g (claimWonCause c)).walks_fenceAll (g := g)
      (by rw [Part.role_unquorate, if_pos rfl])
    change (q.resolveDeadline g c).evaluateAll.rcu.fence = _ ∧ ((q.resolveDeadline g c).evaluateAll.group g).claim = _
      ∧ (q.resolveDeadline g c).evaluateAll.smt.forget.get g = _ ∧ (q.resolveDeadline g c).evaluateAll.smt.takeover.get g = _
      ∧ ∀ h, _ → (q.resolveDeadline g c).evaluateAll.role h = _ ∧ ((q.resolveDeadline g c).evaluateAll.group h).fp = _
    rw [hres]
    exact ⟨(Part.GroupsAlone.evaluateAll _).fence.trans (Part.fence_fenceAll _), congrArg GroupRec.claim (hgroup (.inl rfl)),
      by simpa using hforget, by simpa using htakeover,
      fun h hh => ⟨congrArg GroupRec.role (hgroup hh), congrArg GroupRec.fp (hgroup hh)⟩⟩
  case waits =>
    have hres := Part.resolveDeadline_waits (p := q) (g := g) (hwins.2 hwin) hf
    have hgroup : (q.resolveDeadline g c).evaluateAll.group g = { q.group g with claim := some { c with held := true } } := by
      have hx : (q.resolveDeadline g c).group g = { q.group g with claim := some { c with held := true } } := by
        rw [hres, Part.group_setGroup_same]
      have hrole : (q.resolveDeadline g c).role g = .claiming := by
        rw [Part.role, hx, hqgroup]; exact hr
      rw [Part.group_evaluateAll_rest (by simp [hrole]) (by simp [hrole]), hx]
    rw [hqgroup] at hgroup
    refine ⟨(congrArg GroupRec.role hgroup).trans hr, congrArg GroupRec.claim hgroup, ?_⟩
    change (q.resolveDeadline g c).evaluateAll.smt = _ ∧ (q.resolveDeadline g c).evaluateAll.rpu = _
    rw [hres]
    exact ⟨by simp [hq, Part.deadTimerEnded], by simp [hq, Part.deadTimerEnded]⟩
  case fails =>
    have hres := Part.resolveDeadline_fails (p := q) (g := g) (Bool.eq_false_iff.2 fun h => hlost (hwins.1 h))
    have hgroup := (q.group_evaluateAll_failClaim g).trans (q.group_failClaim g)
    rw [w.after, w.pulseInterval] at hgroup
    change (q.resolveDeadline g c).evaluateAll.role g = _ ∧ ((q.resolveDeadline g c).evaluateAll.group g).claim = _
      ∧ (q.resolveDeadline g c).evaluateAll.smt = _ ∧ (q.resolveDeadline g c).evaluateAll.rpu = _
      ∧ ((q.resolveDeadline g c).evaluateAll.group g).holdOff = _
    rw [hres]
    exact ⟨congrArg GroupRec.role hgroup, congrArg GroupRec.claim hgroup, by simp [hq, Part.deadTimerEnded],
      by simp [hq, Part.deadTimerEnded], congrArg GroupRec.holdOff hgroup⟩

end Sys2Proof.Machine

namespace Sys2Proof.Machine

variable {p q r : Part} {g : Group}

/-! #### The ANSWER and YIELD frames of a group that wait (R97, R132) -/

/-- The same ANSWER and YIELD frames of group `g` wait in `q` as in `p`. -/
structure Part.FramesStand (p q : Part) (g : Group) : Prop where
  answers : (q.mbi.answers.filter fun a => decide (a.group = g)) = p.mbi.answers.filter fun a => decide (a.group = g)
  yields : g ∈ q.mbi.yields ↔ g ∈ p.mbi.yields

namespace Part.FramesStand

theorem of_mbi (h : q.mbi = p.mbi) : p.FramesStand q g := ⟨by rw [h], by rw [h]⟩

theorem trans (h : p.FramesStand q g) (h' : q.FramesStand r g) : p.FramesStand r g :=
  ⟨h'.answers.trans h.answers, h'.yields.trans h.yields⟩

theorem mem_answers (h : p.FramesStand q g) {a : AnswerFrame} (ha : a.group = g) :
    a ∈ q.mbi.answers ↔ a ∈ p.mbi.answers := by
  have hmem : a ∈ (q.mbi.answers.filter fun a => decide (a.group = g))
      ↔ a ∈ (p.mbi.answers.filter fun a => decide (a.group = g)) := by rw [h.answers]
  simpa [ha] using hmem

/-- A change of role withdraws the frames of its own group alone (R132). -/
theorem setRole {h : Group} (hne : g ≠ h) (new : Role) (cause : RoleCause) : p.FramesStand (p.setRole h new cause) g := by
  have hmbi : (p.setRole h new cause).mbi = (p.withdrawRoleFrames h).mbi := by
    unfold Part.setRole
    rw [Part.roleNotice_mbi]
    rfl
  constructor
  · rw [hmbi]
    simp only [Part.withdrawRoleFrames, List.filter_filter]
    exact List.filter_congr fun a _ => by by_cases ha : a.group = g <;> simp [ha, hne]
  · rw [hmbi]
    simp [Part.withdrawRoleFrames, hne]

theorem makeClaim {h : Group} (hne : g ≠ h) (kind : ClaimKind) : p.FramesStand (p.makeClaim h kind) g :=
  (setRole hne .claiming (causeOfClaim kind)).trans ⟨rfl, .rfl⟩

theorem updateVacancy (p : Part) (g h : Group) : p.FramesStand (p.updateVacancy h) g := of_mbi (by simp)

theorem evalStandby {h : Group} (hne : g ≠ h) : p.FramesStand (p.evalStandby h) g := by
  by_cases hr : p.role h = .standby
  · rcases Part.evalStandby_cases hr with he | ⟨kind, he⟩ <;> rw [he]
    · exact updateVacancy p g h
    · exact (updateVacancy p g h).trans (makeClaim hne kind)
  · rw [Part.evalStandby, if_pos hr]
    exact of_mbi rfl

theorem enterStandby {h : Group} (hne : g ≠ h) (cause : RoleCause) : p.FramesStand (p.enterStandby h cause) g :=
  (setRole hne .standby cause).trans (evalStandby hne)

theorem evaluate {h : Group} (hne : g ≠ h) : p.FramesStand (p.evaluate h) g := by
  unfold Part.evaluate
  split
  · split
    · exact enterStandby hne _
    · exact of_mbi rfl
  · exact evalStandby hne
  · exact of_mbi rfl

end Part.FramesStand

/-- Group `g` takes no new role at its evaluation. -/
structure Part.Settled (p : Part) (g : Group) : Prop where
  listen : p.role g ≠ .listen
  standby : p.role g = .standby → p.standbyClaim g = none

theorem Part.Settled.of_view (h : p.Settled g) (v : p.SameView q g) : q.Settled g :=
  ⟨by rw [v.role]; exact h.listen, fun hr => by rw [v.standbyClaim]; exact h.standby (v.role ▸ hr)⟩

/-- A group that takes no new role keeps its frames through every group's evaluation. -/
theorem Part.FramesStand.evaluate_settled (h : p.Settled g) : p.FramesStand (p.evaluate g) g := by
  by_cases hr : p.role g = .standby
  · rw [Part.evaluate_standby hr, Part.evalStandby_eq_updateVacancy hr (h.standby hr)]
    exact updateVacancy p g g
  · rw [Part.evaluate_rest h.listen hr]
    exact of_mbi rfl

theorem Part.FramesStand.evaluateAll (h : p.Settled g) : p.FramesStand p.evaluateAll g := by
  cases g with
  | g0 => exact (evaluate_settled h).trans (evaluate (by decide))
  | g1 => exact (evaluate (by decide)).trans (evaluate_settled
      (h.of_view ⟨Part.sameWorld_evaluate p .g0, Part.group_evaluate_ne _ (by decide)⟩))

/-- The frames that a change of role leaves of its own group: none (R132). -/
theorem Part.frames_setRole (p : Part) (g : Group) (new : Role) (cause : RoleCause) :
    (p.setRole g new cause).mbi.answers = (p.mbi.answers.filter fun a => decide (a.group ≠ g))
      ∧ (p.setRole g new cause).mbi.yields = p.mbi.yields.filter fun x => decide (x ≠ g) := by
  unfold Part.setRole
  rw [Part.roleNotice_mbi]
  exact ⟨rfl, rfl⟩

/-! #### A group that has just entered STANDBY (R120) -/

/-- `q` knows what `p` knows, and has group `g` just entered in STANDBY. -/
structure Part.EntersStandby (p q : Part) (g : Group) : Prop extends p.SameWorld q where
  group : q.group g = (p.group g).enter .standby

namespace Part.EntersStandby

variable (h : p.EntersStandby q g)
include h

theorem role : q.role g = .standby := congrArg GroupRec.role h.group

theorem standbyClaim : q.standbyClaim g = p.freshClaim g := by
  rw [Part.standbyClaim_fresh _ (by simp [h.group, GroupRec.enter]) (by simp [h.group, GroupRec.enter]),
    h.toSameWorld.freshClaim (by rw [h.group]; rfl) (by rw [h.group]; rfl)]

theorem vacancyHolds : q.vacancyHolds g = p.idleMember g := by
  simp [Part.vacancyHolds, h.role, h.otherLive, Part.idleMember, Part.standingIdle,
    h.toSameWorld.standing (g := g) (by rw [h.group]; rfl)]

theorem group_evalStandby : (q.evalStandby g).group g = ((p.group g).enter .standby).standbyNext (p.idleMember g)
    (p.after p.pulseInterval) (p.freshClaim g) := by
  rw [Part.group_evalStandby _ _ h.role, h.standbyClaim, h.vacancyHolds, h.group, h.after, h.pulseInterval]

/-- An entry with another cause, in a part that knows the same, leaves the same view of the group. -/
theorem sameView (cause : RoleCause) : (p.enterStandby g cause).SameView (q.evalStandby g) g := by
  refine ⟨⟨?_, ?_, ?_⟩, by rw [h.group_evalStandby, Part.group_enterStandby]⟩
  · simp [h.profile]
  · simp [h.clock]
  · simp [h.ppu]

/-- The evaluation that follows leaves the group. -/
theorem group_evaluateAll (hr : (q.evalStandby g).SameView r g) :
    r.evaluateAll.group g = ((p.group g).enter .standby).standbyNext (p.idleMember g)
      (p.after p.pulseInterval) (p.freshClaim g) := by
  rw [Part.group_evaluateAll_of_enterStandby ((h.sameView .flushed).trans hr), Part.group_enterStandby]

theorem evalStandby_stays (hf : p.freshClaim g = none) : q.evalStandby g = q.updateVacancy g :=
  Part.evalStandby_eq_updateVacancy h.role (h.standbyClaim.trans hf)

/-- A group that makes no claim at its entry makes none at its evaluation. -/
theorem settled (hf : p.freshClaim g = none) : (q.evalStandby g).Settled g := by
  have hg := h.group_evalStandby
  rw [hf] at hg
  have w : p.SameWorld (q.evalStandby g) := h.toSameWorld.trans ⟨by simp, by simp, by simp⟩
  have hrole : (q.evalStandby g).role g = .standby := congrArg GroupRec.role hg
  refine ⟨by simp [hrole], fun _ => ?_⟩
  rw [Part.standbyClaim_fresh, w.freshClaim (by rw [hg]; rfl) (by rw [hg]; rfl), hf]
  · simp [hg, GroupRec.standbyNext, GroupRec.withVacancy, GroupRec.enter]
  · simp only [hg, GroupRec.standbyNext, GroupRec.withVacancy, GroupRec.enter]
    split <;> simp

/-- It keeps through that evaluation the frames it had at its entry. -/
theorem frames (hf : p.freshClaim g = none) : q.FramesStand (q.evalStandby g) g := by
  rw [h.evalStandby_stays hf]
  exact .updateVacancy q g g

end Part.EntersStandby

/-- Where the other member is LIVE and is not seen to be ACTIVE the group stays in STANDBY. -/
theorem Part.freshClaim_of_standing (hl : p.otherLive = true) (hs : p.standing g ≠ some .active) : p.freshClaim g = none := by
  rw [Part.freshClaim_live hl, Part.preemptConditions_of_standing hs]
  rfl

/-! #### The end of yielding (R134, R142) -/

/-- The part whose YIELDING group has gone to STANDBY with its pending frame queued, before it is evaluated (R134). -/
def Part.yieldEnded (p : Part) (g : Group) (timedOut : Bool) : Part :=
  let q := p.setRole g .standby (if timedOut then .handoverTimeout else .flushed)
  match (p.group g).pendingFrame with
  | some f => q.queuePending g timedOut f
  | none => q

theorem Part.completeYield_eq_evalStandby (p : Part) (g : Group) (timedOut : Bool) :
    p.completeYield g timedOut = (p.yieldEnded g timedOut).evalStandby g := rfl

/-- Queueing the frame changes the waiting lists alone. -/
theorem Part.yieldEnded_eq (p : Part) (g : Group) (timedOut : Bool) :
    p.yieldEnded g timedOut = { p.setRole g .standby (if timedOut then .handoverTimeout else .flushed) with
      mbi := (p.yieldEnded g timedOut).mbi } := by
  unfold Part.yieldEnded
  dsimp only
  split
  · rename_i f hf; cases f <;> rfl
  · rfl

theorem Part.group_yieldEnded (p : Part) (g h : Group) (timedOut : Bool) :
    (p.yieldEnded g timedOut).group h = if h = g then (p.group g).enter .standby else p.group h := by
  rw [p.yieldEnded_eq]
  exact Part.group_setRole _ _ _ _ _

theorem Part.enters_yieldEnded (p : Part) (g : Group) (timedOut : Bool) : p.EntersStandby (p.yieldEnded g timedOut) g := by
  refine ⟨?_, by rw [p.group_yieldEnded, if_pos rfl]⟩
  rw [p.yieldEnded_eq]
  exact ⟨by simp, by simp, by simp⟩

/-- The group's record once it has yielded, and the other's. -/
theorem Part.group_completeYield (p : Part) (g : Group) (timedOut : Bool) :
    (p.completeYield g timedOut).group g = ((p.group g).enter .standby).standbyNext (p.idleMember g)
      (p.after p.pulseInterval) (p.freshClaim g) := (p.enters_yieldEnded g timedOut).group_evalStandby

theorem Part.group_completeYield_ne {h : Group} (hne : h ≠ g) (timedOut : Bool) :
    (p.completeYield g timedOut).group h = p.group h :=
  (Part.group_evalStandby_ne _ hne).trans ((p.group_yieldEnded g h timedOut).trans (if_neg hne))

/-- The pending frame is the one that waits (R134). -/
theorem Part.pending_queued (p : Part) (g : Group) (timedOut : Bool) :
    (∀ claimer number, (p.group g).pendingFrame = some (.concede claimer number) →
      { group := g, claimer := claimer, verdict := .concede, number := number, incomplete := timedOut }
        ∈ (p.yieldEnded g timedOut).mbi.answers)
    ∧ ((p.group g).pendingFrame = some .yield →
      (p.yieldEnded g timedOut).mbi.yields = (p.mbi.yields.filter fun x => decide (x ≠ g)) ++ [g]) := by
  obtain ⟨hanswers, hyields⟩ := p.frames_setRole g .standby (if timedOut then .handoverTimeout else .flushed)
  refine ⟨fun claimer number hf => ?_, fun hf => ?_⟩
  · simp only [Part.yieldEnded, hf, Part.queuePending, Part.queueAnswer]
    rw [hanswers, queueReplace_fresh (by simp +contextual)]
    simp
  · simp only [Part.yieldEnded, hf, Part.queuePending, Part.queueYield]
    rw [hyields, queueReplace_fresh (by simp)]

/-- Where the FIFO has room and the group no mark, its change of role is told at once (R142). -/
theorem Part.egress_setRole {new : Role} {cause : RoleCause} (hm : p.evp.roleMarks.get g = none)
    (ho : p.evp.egress.length < 64) : (p.setRole g new cause).evp.egress = p.evp.egress ++ [.role g new cause false] := by
  rw [Part.setRole_evp, Part.roleNotice_open hm ho]
  rfl

/-- A group that claims nothing as it ends its yielding changes nothing else. -/
theorem Part.completeYield_stays {timedOut : Bool} (h : p.freshClaim g = none) :
    (p.completeYield g timedOut).mbi = (p.yieldEnded g timedOut).mbi
      ∧ (p.completeYield g timedOut).evp
        = (p.setRole g .standby (if timedOut then .handoverTimeout else .flushed)).evp := by
  rw [p.completeYield_eq_evalStandby, (p.enters_yieldEnded g timedOut).evalStandby_stays h, Part.updateVacancy_mbi,
    Part.updateVacancy_evp, p.yieldEnded_eq]
  exact ⟨rfl, rfl⟩

theorem Part.ends_completeYield (p : Part) (g : Group) (timedOut : Bool) :
    (p.completeYield g timedOut).smt = p.smt ∧ (p.completeYield g timedOut).rpu = p.rpu
      ∧ (p.completeYield g timedOut).ppu = p.ppu := by
  rw [p.completeYield_eq_evalStandby, p.yieldEnded_eq]
  simp

theorem Part.act_handoverTimer {d : Tick} (hr : p.role g = .yielding) (hd : (p.group g).handover = some d) :
    p.act (.handoverTimerExpiry g) = if p.reached d then p.handoverEnd g else p := by
  change p.onlyIf (p.handoverDue g) (fun q => q.handoverEnd g) = _
  simp only [Part.handoverDue, hr, hd, decide_true, Bool.true_and]
  rfl

theorem Part.flushTest_waits (h : p.role g ≠ .yielding ∨ p.outstanding g ≠ 0) : p.flushTest g = p :=
  if_neg fun ⟨hr, ho⟩ => h.elim (· hr) (· ho)

theorem Part.flushTest_ends (hr : p.role g = .yielding) (ho : p.outstanding g = 0) :
    p.flushTest g = p.completeYield g false := if_pos ⟨hr, ho⟩

/-- Settles O42: the record by `Part.group_completeYield`, the frame by `Part.pending_queued`; the group claims nothing, so that its
frame stands through the evaluation. -/
theorem yieldingEndsWithItsFrame : Obligations.YieldingEndsWithItsFrame := by
  refine ⟨fun s g d hs hr hd => ⟨fun hdue hl hst => ?timer, fun hdue => ?early⟩,
    fun p g => ⟨Part.flushTest_waits, fun hr ho hl hst => ?flush⟩⟩
  case timer =>
    have hfresh : s.freshClaim g = none := Part.freshClaim_of_standing hl (by rcases hst with h | h <;> simp [h])
    have enters := s.enters_yieldEnded g true
    have hgroup := enters.group_evaluateAll (Part.SameView.refl _ g)
    rw [hfresh] at hgroup
    obtain ⟨hanswer, hyield⟩ := s.pending_queued g true
    have hframes : (s.yieldEnded g true).FramesStand (s.handoverEnd g) g :=
      (enters.frames hfresh).trans (.evaluateAll (enters.settled hfresh))
    obtain ⟨hsmt, hrpu, hppu⟩ := s.ends_completeYield g true
    refine ⟨_, exec_of_act hs ((Part.act_handoverTimer hr hd).trans (if_pos hdue)), congrArg GroupRec.role hgroup,
      congrArg GroupRec.handover hgroup, congrArg GroupRec.pendingFrame hgroup,
      fun claimer number hf => (hframes.mem_answers rfl).2 (hanswer claimer number hf),
      fun hf => hframes.yields.2 (by rw [hyield hf]; simp), fun hm ho => ?_, (Part.evaluateAll_smt _).trans hsmt,
      (Part.evaluateAll_rpu _).trans hrpu, (Part.evaluateAll_ppu _).trans hppu⟩
    obtain ⟨notices, he, -⟩ := Part.Notices.evaluateAll (s.completeYield g true)
    rw [(Part.completeYield_stays hfresh).2, Part.egress_setRole hm ho] at he
    exact ⟨notices, he.symm⟩
  case early => exact exec_of_act hs ((Part.act_handoverTimer hr hd).trans (if_neg (by simp [hdue])))
  case flush =>
    have hfresh : p.freshClaim g = none := Part.freshClaim_of_standing hl (by rcases hst with h | h <;> simp [h])
    have hgroup := p.group_completeYield g false
    rw [hfresh] at hgroup
    obtain ⟨hanswer, hyield⟩ := p.pending_queued g false
    rw [Part.flushTest_ends hr ho, (Part.completeYield_stays hfresh).1]
    exact ⟨congrArg GroupRec.role hgroup, congrArg GroupRec.pendingFrame hgroup, congrArg GroupRec.handover hgroup,
      Part.group_completeYield_ne (by cases g <;> decide) false, hanswer,
      fun hf => by rw [hyield hf]; simp, p.ends_completeYield g false⟩

end Sys2Proof.Machine

namespace Sys2Proof.Machine

variable {p q r : Part} {g : Group}

/-! #### Leaving ACTIVE for STANDBY, and for YIELDING (R130, R131, R134) -/

/-- The walks of group `g` are those that an exit from ACTIVE leaves (R130). -/
structure Part.WalksLeft (p : Part) (g : Group) : Prop where
  forget : p.smt.forget.get g = some 0
  takeover : p.smt.takeover.get g = none

theorem Part.WalksLeft.of_smt (h : p.WalksLeft g) (hs : q.smt = p.smt) : q.WalksLeft g :=
  ⟨by rw [hs]; exact h.forget, by rw [hs]; exact h.takeover⟩

theorem Part.WalksLeft.serveFreed (h : p.WalksLeft g) (before : Part) : (p.serveFreed before).WalksLeft g :=
  ⟨by rw [Part.forget_serveFreed]; exact h.forget, Part.takeover_serveFreed_none _ _ h.takeover⟩

theorem Part.walksLeft_exitActive (p : Part) (g : Group) (new : Role) (cause : RoleCause) :
    (p.exitActive g new cause).WalksLeft g := by
  constructor <;> rw [Part.smt_exitActive] <;> exact PerGroup.get_set_same _ _ _

theorem Part.sameView_serveFreed (p before : Part) (g : Group) : p.SameView (p.serveFreed before) g :=
  ⟨⟨by simp, by simp, by simp⟩, by simp⟩

/-- A group's evaluation depends on its view alone. -/
theorem Part.SameView.group_evaluateAll (h : p.SameView q g) : q.evaluateAll.group g = p.evaluateAll.group g := by
  rw [Part.group_evaluateAll, h.group_evaluate, ← Part.group_evaluateAll]

/-- Group `g` leaves ACTIVE for STANDBY, as by a split brain or a HANDED claim (R131, R136). -/
def Part.standsDown (p : Part) (g : Group) (cause : RoleCause) : Part :=
  ((p.exitActive g .standby cause).evalStandby g).serveFreed p

theorem Part.enters_exitActive (p : Part) (g : Group) (cause : RoleCause) :
    p.EntersStandby (p.exitActive g .standby cause) g :=
  ⟨⟨by simp [Part.exitActive], by simp [Part.exitActive], by simp [Part.exitActive]⟩, by
    rw [Part.group_exitActive, if_pos rfl]⟩

theorem Part.walksLeft_standsDown (p : Part) (g : Group) (cause : RoleCause) : (p.standsDown g cause).WalksLeft g :=
  ((p.walksLeft_exitActive g .standby cause).of_smt (Part.evalStandby_smt _ g)).serveFreed p

/-- An exit for YIELDING moves the group's walks as any exit does (R130). -/
theorem Part.smt_yielded (p : Part) (g : Group) (cause : RoleCause) (pending : PendingFrame) :
    (p.yielded g cause pending).smt
      = { p.smt with forget := p.smt.forget.set g (some 0), takeover := p.smt.takeover.set g none } :=
  p.smt_exitActive g .yielding cause

theorem Part.sameWorld_yielded (p : Part) (g : Group) (cause : RoleCause) (pending : PendingFrame) :
    p.SameWorld (p.yielded g cause pending) :=
  ⟨by simp [Part.yielded, Part.exitActive], by simp [Part.yielded, Part.exitActive], by simp [Part.yielded, Part.exitActive]⟩

/-- An exit from ACTIVE leaves every entry, and with it the outstanding count. -/
theorem Part.outstanding_yielded (p : Part) (g : Group) (cause : RoleCause) (pending : PendingFrame) :
    (p.yielded g cause pending).outstanding g = p.outstanding g := by
  simp only [Part.outstanding, Part.countEntries, p.smt_yielded]

theorem Part.group_yielded_same (p : Part) (g : Group) (cause : RoleCause) (pending : PendingFrame) :
    (p.yielded g cause pending).group g = (p.group g).yielded (p.after p.handoverTimeout) pending := by
  rw [Part.group_yielded, if_pos rfl]

theorem Part.role_yielded (p : Part) (g : Group) (cause : RoleCause) (pending : PendingFrame) :
    (p.yielded g cause pending).role g = .yielding := congrArg GroupRec.role (p.group_yielded_same g cause pending)

/-- With the other member LIVE an exit for YIELDING loses no quorum, so that the flush test alone follows (R134, R138). -/
theorem Part.enterYielding_eq {cause : RoleCause} {pending : PendingFrame} (hl : p.otherLive = true) :
    p.enterYielding g cause pending = ((p.yielded g cause pending).flushTest g).serveFreed p := by
  have hquorum : (p.yielded g cause pending).quorumLost = false := by
    simp [Part.quorumLost, (p.sameWorld_yielded g cause pending).otherLive, hl]
  change (((p.yielded g cause pending).testQuorum).flushTest g).serveFreed p = _
  rw [Part.testQuorum_of_not _ hquorum]

/-- With entries outstanding the group is YIELDING. -/
theorem Part.enterYielding_waits {cause : RoleCause} {pending : PendingFrame} (hl : p.otherLive = true)
    (ho : p.outstanding g ≠ 0) : p.enterYielding g cause pending = (p.yielded g cause pending).serveFreed p := by
  rw [Part.enterYielding_eq hl, Part.flushTest_waits (.inr (by rwa [p.outstanding_yielded]))]

/-- With none the flush is complete at once. -/
theorem Part.enterYielding_ends {cause : RoleCause} {pending : PendingFrame} (hl : p.otherLive = true)
    (ho : p.outstanding g = 0) :
    p.enterYielding g cause pending = ((p.yielded g cause pending).completeYield g false).serveFreed p := by
  rw [Part.enterYielding_eq hl, Part.flushTest_ends (p.role_yielded g cause pending) (by rwa [p.outstanding_yielded])]

theorem Part.walksLeft_enterYielding {cause : RoleCause} {pending : PendingFrame} (hl : p.otherLive = true) :
    (p.enterYielding g cause pending).WalksLeft g := by
  have hleft : (p.yielded g cause pending).WalksLeft g :=
    (p.walksLeft_exitActive g .yielding cause).of_smt rfl
  by_cases ho : p.outstanding g = 0
  · rw [Part.enterYielding_ends hl ho]
    exact (hleft.of_smt (Part.ends_completeYield _ g false).1).serveFreed p
  · rw [Part.enterYielding_waits hl ho]
    exact hleft.serveFreed p

/-! #### A CLAIM of the other member, by the role of its group (R118, R127, R131, R135) -/

/-- The part that has heard the claim: its group's standing is CLAIMING (R118). -/
def Part.claimHeard (p : Part) (g : Group) : Part := p.setGroup g { p.group g with peerClaiming := true }

theorem Part.group_claimHeard (p : Part) (g : Group) : (p.claimHeard g).group g = { p.group g with peerClaiming := true } :=
  p.group_setGroup_same g _

theorem Part.role_claimHeard (p : Part) (g : Group) : (p.claimHeard g).role g = p.role g :=
  (congrArg GroupRec.role (p.group_claimHeard g) : _)

theorem Part.standing_claimHeard (p : Part) (g : Group) : (p.claimHeard g).standing g = some .claiming := by
  simp [Part.standing, p.group_claimHeard]

/-- A group whose other member claims it makes no claim of its own as it enters STANDBY (R120). -/
theorem Part.freshClaim_claimHeard (hl : p.otherLive = true) : (p.claimHeard g).freshClaim g = none :=
  Part.freshClaim_of_standing hl (by simp [p.standing_claimHeard])

theorem Part.vacancyHolds_claimHeard (p : Part) (g : Group) : (p.claimHeard g).vacancyHolds g = false := by
  simp [Part.vacancyHolds, Part.standingIdle, p.standing_claimHeard, Role.idle]

/-- Nor at its evaluation in STANDBY, unless a rebirth has left the group vacant (R116, R120). -/
theorem Part.standbyClaim_claimHeard (hl : p.otherLive = true) (hm : (p.group g).rebirthMark = false) :
    (p.claimHeard g).standbyClaim g = none := by
  rw [Part.standbyClaim_served (p := p.claimHeard g) hl (by rw [p.group_claimHeard]; exact hm) (p.vacancyHolds_claimHeard g),
    Part.preemptConditions_of_standing (by simp [p.standing_claimHeard])]
  rfl

theorem Part.listenMeets_claimHeard (hl : p.otherLive = true) : (p.claimHeard g).listenMeets g = true :=
  (Part.listenMeets_iff _ g).2 ⟨hl, .inr (.inr (p.standing_claimHeard g))⟩

theorem Part.claimByRole_active {c : ClaimFrame} (hr : p.role c.group = .active) : p.claimByRole c = p.claimMeetsActive c := by
  simp only [Part.claimByRole, hr]

theorem Part.claimByRole_yielding {c : ClaimFrame} (hr : p.role c.group = .yielding) :
    p.claimByRole c = if c.kind = .handed then p.enterStandby c.group .handedAway else p := by
  simp only [Part.claimByRole, hr]

theorem Part.claimByRole_claiming {c : ClaimFrame} {own : ClaimRecord} (hr : p.role c.group = .claiming)
    (hc : (p.group c.group).claim = some own) : p.claimByRole c
      = if own.kind = .vacant ∧ p.claimBetter c.group c.merit = true then p.enterStandby c.group .claimFailed else p := by
  simp only [Part.claimByRole, hr, hc, Bool.and_eq_true, decide_eq_true_eq]
  rfl

theorem Part.claimByRole_rest {c : ClaimFrame}
    (hr : p.role c.group = .standby ∨ p.role c.group = .fenced ∨ p.role c.group = .listen) : p.claimByRole c = p := by
  rcases hr with hr | hr | hr <;> simp only [Part.claimByRole, hr]

/-- An ACTIVE group contests a VACANT claim, and a PREEMPT one that it has contested or that does not reach the margin (R131). -/
theorem Part.claimMeetsActive_contests {c : ClaimFrame} (h : c.kind = .vacant ∨ (c.kind = .preempt
    ∧ ((p.group c.group).contested = some c.number ∨ c.merit.toNat < p.merit c.group + p.margin))) :
    p.claimMeetsActive c = p.contest c := by
  unfold Part.claimMeetsActive
  rcases h with hk | ⟨hk, hno⟩
  · rw [hk]
  · rw [hk]
    refine if_neg fun h => ?_
    simp only [Bool.and_eq_true, decide_eq_true_eq] at h
    obtain ⟨hnew, hreach⟩ := h
    exact hno.elim hnew (Nat.not_lt.2 hreach)

theorem Part.claimMeetsActive_concedes {c : ClaimFrame} (hk : c.kind = .preempt)
    (hnew : (p.group c.group).contested ≠ some c.number) (hreach : p.merit c.group + p.margin ≤ c.merit.toNat) :
    p.claimMeetsActive c = p.enterYielding c.group .preempted (.concede p.otherMember c.number) := by
  unfold Part.claimMeetsActive
  rw [hk]
  exact if_pos (by simp [hnew, hreach])

theorem Part.claimMeetsActive_handed {c : ClaimFrame} (hk : c.kind = .handed) :
    p.claimMeetsActive c = p.standsDown c.group .handedAway := by
  unfold Part.claimMeetsActive
  rw [hk]
  rfl

theorem Part.claimBetter_iff {merit : BitVec 8} : p.claimBetter g merit = true ↔ p.merit g < merit.toNat
    ∨ (p.merit g = merit.toNat ∧ p.otherMember.toNat < p.self.toNat) := by
  simp [Part.claimBetter]

/-- What a HANDED claim leaves of a group that was ACTIVE (R131). -/
theorem Part.standsDown_claimHeard (hl : p.otherLive = true) (cause : RoleCause) :
    ((p.claimHeard g).standsDown g cause).evaluateAll.role g = .standby
      ∧ ((((p.claimHeard g).standsDown g cause).evaluateAll).group g).fp = false
      ∧ ∀ a ∈ ((p.claimHeard g).standsDown g cause).evaluateAll.mbi.answers, a.group ≠ g := by
  have hfresh := Part.freshClaim_claimHeard (g := g) hl
  have enters := (p.claimHeard g).enters_exitActive g cause
  have hview := Part.sameView_serveFreed (((p.claimHeard g).exitActive g .standby cause).evalStandby g) (p.claimHeard g) g
  have hgroup := enters.group_evaluateAll hview
  rw [hfresh] at hgroup
  refine ⟨congrArg GroupRec.role hgroup, congrArg GroupRec.fp hgroup, fun a ha hag => ?_⟩
  have hframes : ((p.claimHeard g).exitActive g .standby cause).FramesStand
      ((p.claimHeard g).standsDown g cause).evaluateAll g :=
    ((enters.frames hfresh).trans (.of_mbi (Part.serveFreed_mbi _ _))).trans
      (.evaluateAll ((enters.settled hfresh).of_view hview))
  have hin := (hframes.mem_answers hag).1 ha
  change a ∈ ((p.claimHeard g).setRole g .standby cause).mbi.answers at hin
  rw [((p.claimHeard g).frames_setRole g .standby cause).1] at hin
  simp [hag] at hin

/-- What a conceded claim leaves of a group with entries outstanding (R131, R134). -/
theorem Part.concede_waits {cause : RoleCause} {pending : PendingFrame} (hl : p.otherLive = true)
    (ho : p.outstanding g ≠ 0) : (p.enterYielding g cause pending).evaluateAll.group g
      = (p.group g).yielded (p.after p.handoverTimeout) pending := by
  have hgroup : (p.enterYielding g cause pending).group g = (p.group g).yielded (p.after p.handoverTimeout) pending := by
    rw [Part.enterYielding_waits hl ho, Part.group_serveFreed, p.group_yielded_same]
  have hrole : (p.enterYielding g cause pending).role g = .yielding := congrArg GroupRec.role hgroup
  rw [Part.group_evaluateAll_rest (by simp [hrole]) (by simp [hrole]), hgroup]

/-- The fresh claim of a group that has yielded. -/
theorem Part.freshClaim_yielded (p : Part) (g : Group) (cause : RoleCause) (pending : PendingFrame) :
    (p.yielded g cause pending).freshClaim g = p.freshClaim g :=
  (p.sameWorld_yielded g cause pending).freshClaim (by rw [p.group_yielded_same]; rfl) (by rw [p.group_yielded_same]; rfl)

/-- What a conceded claim leaves of a group with none. -/
theorem Part.concede_ends {cause : RoleCause} {claimer : Station} {number : BitVec 8} (hl : p.otherLive = true)
    (ho : p.outstanding g = 0) (hf : p.freshClaim g = none) :
    (p.enterYielding g cause (.concede claimer number)).evaluateAll.role g = .standby
      ∧ ((p.enterYielding g cause (.concede claimer number)).evaluateAll.group g).fp = false
      ∧ { group := g, claimer := claimer, verdict := .concede, number := number, incomplete := false }
        ∈ (p.enterYielding g cause (.concede claimer number)).evaluateAll.mbi.answers := by
  set y := p.yielded g cause (.concede claimer number) with hy
  have hfresh : y.freshClaim g = none := (p.freshClaim_yielded g _ _).trans hf
  have enters := y.enters_yieldEnded g false
  have hview := Part.sameView_serveFreed (y.completeYield g false) p g
  have hgroup := enters.group_evaluateAll hview
  rw [hfresh] at hgroup
  rw [Part.enterYielding_ends hl ho]
  refine ⟨congrArg GroupRec.role hgroup, congrArg GroupRec.fp hgroup, ?_⟩
  have hframes : (y.yieldEnded g false).FramesStand ((y.completeYield g false).serveFreed p).evaluateAll g :=
    ((enters.frames hfresh).trans (.of_mbi (Part.serveFreed_mbi _ _))).trans
      (.evaluateAll ((enters.settled hfresh).of_view hview))
  exact (hframes.mem_answers rfl).2 ((y.pending_queued g false).1 claimer number (by rw [hy, p.group_yielded_same]; rfl))

/-- However it concedes, the group has left ACTIVE. -/
theorem Part.concede_leaves {cause : RoleCause} {claimer : Station} {number : BitVec 8} (hl : p.otherLive = true)
    (hf : p.freshClaim g = none) : (p.enterYielding g cause (.concede claimer number)).evaluateAll.role g ≠ .active
      ∧ ((p.enterYielding g cause (.concede claimer number)).evaluateAll.group g).fp = false := by
  by_cases ho : p.outstanding g = 0
  · obtain ⟨hstandby, hfp, -⟩ := Part.concede_ends (cause := cause) (claimer := claimer) (number := number) hl ho hf
    exact ⟨by simp [hstandby], hfp⟩
  · rw [Part.role, Part.concede_waits hl ho]
    exact ⟨by simp [GroupRec.yielded, GroupRec.enter], rfl⟩

/-- The sender of a frame is LIVE as a member hears it (R110). -/
theorem Part.otherLive_afterHeader (h : (p.peer p.otherMember).state = .live) (l : Lane) (x : Option (Lane × List Byte)) :
    (p.afterHeader l p.otherMember x).otherLive = true := by
  have hset := Part.peer_setPeer p p.otherMember p.otherMember { p.peer p.otherMember with
    lastHeard := some p.clock, heardOn := (p.peer p.otherMember).heardOn.set l (some p.clock) }
  rw [if_pos rfl] at hset
  exact decide_eq_true ((congrArg PeerRec.state hset).trans h)

/-- Settles O27: the group acts by its role (`Part.claimByRole`) on the part that has heard the claim, whose other member is LIVE and
claims, so that the evaluation makes no claim. -/
theorem claimsMeetTheGroupsRole : Obligations.ClaimsMeetTheGroupsRole := by
  have live {s : State} {l : Lane} {rx : Reception} {c : ClaimFrame} (h : s.hearsNew l rx s.otherMember (.claim c)) :
      (s.afterHeader l s.otherMember (some (l.other, rx.bytes))).otherLive = true := by
    obtain ⟨⟨-, -, -, -, -, hlive, -⟩, -⟩ := h
    exact Part.otherLive_afterHeader hlive l _
  refine ⟨fun s l rx c hm h => ?_, fun s l rx c own hm h => ?_⟩
  · have hl := live h
    set u := s.afterHeader l s.otherMember (some (l.other, rx.bytes))
    have hrole : (u.claimHeard c.group).role c.group = s.role c.group := u.role_claimHeard c.group
    have hgroup : (u.claimHeard c.group).group c.group = { s.group c.group with peerClaiming := true } :=
      u.group_claimHeard c.group
    have done {t : Part} (ht : (u.claimHeard c.group).claimByRole c = t) :
        exec (.claimFrame l rx) s = .next (s.withPart t.evaluateAll) :=
      exec_of_taken hm h (congrArg Part.evaluateAll ht)
    refine ⟨fun hr => ⟨fun hk => ?contests, fun hk hnew hreach => ?concedes, fun hk => ?handed⟩,
      fun hr => ⟨fun hk => ?ignored, fun hk => ?yieldingHanded⟩, fun hr => ?rests⟩
    case contests =>
      have hact := (Part.claimByRole_active (hrole.trans hr)).trans (Part.claimMeetsActive_contests (by rwa [hgroup]))
      rw [Part.contest, hgroup] at hact
      exact done hact
    case concedes =>
      have hact := (Part.claimByRole_active (hrole.trans hr)).trans
        (Part.claimMeetsActive_concedes hk (by rwa [hgroup]) hreach)
      set heard := u.claimHeard c.group
      have hfresh : heard.freshClaim c.group = none := Part.freshClaim_claimHeard hl
      obtain ⟨hrole', hfp⟩ := Part.concede_leaves (p := heard) (cause := .preempted) (claimer := s.otherMember)
        (number := c.number) hl hfresh
      have hleft := (Part.walksLeft_enterYielding (p := heard) (g := c.group) (cause := .preempted)
        (pending := .concede s.otherMember c.number) hl).of_smt (Part.evaluateAll_smt _)
      refine ⟨_, done hact, hrole', hfp, hleft.forget, hleft.takeover, fun ho _ => ?_, fun ho => ?_⟩
      · have hwaits := Part.concede_waits (p := heard) (g := c.group) (cause := .preempted)
          (pending := .concede s.otherMember c.number) hl ho
        exact ⟨congrArg GroupRec.role hwaits, congrArg GroupRec.pendingFrame hwaits, congrArg GroupRec.handover hwaits⟩
      · obtain ⟨hstandby, -, hanswer⟩ := Part.concede_ends (p := heard) (g := c.group) (cause := .preempted) hl ho hfresh
        exact ⟨hstandby, hanswer⟩
    case handed =>
      have hact := (Part.claimByRole_active (hrole.trans hr)).trans (Part.claimMeetsActive_handed hk)
      have hleft := ((u.claimHeard c.group).walksLeft_standsDown c.group .handedAway).of_smt (Part.evaluateAll_smt _)
      obtain ⟨hstandby, hfp, hanswers⟩ := Part.standsDown_claimHeard (p := u) (g := c.group) hl .handedAway
      exact ⟨_, done hact, hstandby, hfp, hleft.forget, hleft.takeover, hanswers⟩
    case ignored => exact done ((Part.claimByRole_yielding (hrole.trans hr)).trans (if_neg hk))
    case yieldingHanded =>
      have hact := (Part.claimByRole_yielding (hrole.trans hr)).trans (if_pos hk)
      have hgroup' := Part.group_evaluateAll_of_enterStandby
        (Part.SameView.refl ((u.claimHeard c.group).enterStandby c.group .handedAway) c.group)
      rw [Part.group_enterStandby, Part.freshClaim_claimHeard hl] at hgroup'
      exact ⟨_, done hact, congrArg GroupRec.role hgroup', congrArg GroupRec.pendingFrame hgroup',
        congrArg GroupRec.handover hgroup'⟩
    case rests =>
      have hact := done (Part.claimByRole_rest (hr.imp hrole.trans (.inl ∘ hrole.trans)))
      have claimless (hmark : (s.group c.group).rebirthMark = false) : (u.claimHeard c.group).standbyClaim c.group = none :=
        Part.standbyClaim_claimHeard hl hmark
      have settled (hquiet : s.role c.group = .fenced ∨ (s.group c.group).rebirthMark = false) :
          (u.claimHeard c.group).Settled c.group := by
        refine ⟨by rw [hrole]; rcases hr with hr | hr <;> simp [hr], fun hst => ?_⟩
        rcases hquiet with hf | hmark
        · rw [hrole, hf] at hst
          cases hst
        · exact claimless hmark
      refine ⟨hact, _, hact, fun hst hmark => ?_, fun hf => ?_,
        fun hquiet => (Part.FramesStand.evaluateAll (settled hquiet)).answers⟩
      · refine (Part.group_evaluateAll_idle (hrole.trans hst) (claimless hmark)).trans ?_
        rw [u.vacancyHolds_claimHeard, hgroup]
        rfl
      · exact (Part.group_evaluateAll_rest (by rw [hrole, hf]; decide) (by rw [hrole, hf]; decide)).trans hgroup
  · have hl := live h
    set u := s.afterHeader l s.otherMember (some (l.other, rx.bytes))
    have hrole : (u.claimHeard c.group).role c.group = s.role c.group := u.role_claimHeard c.group
    have hgroup : (u.claimHeard c.group).group c.group = { s.group c.group with peerClaiming := true } :=
      u.group_claimHeard c.group
    have done {t : Part} (ht : (u.claimHeard c.group).claimByRole c = t) :
        exec (.claimFrame l rx) s = .next (s.withPart t.evaluateAll) :=
      exec_of_taken hm h (congrArg Part.evaluateAll ht)
    have better := Part.claimBetter_iff (p := u.claimHeard c.group) (g := c.group) (merit := c.merit)
    refine ⟨fun hr hc hk hwins => ?loses, fun hr hc hstays => ?goesOn, fun hr => ?listens⟩
    case loses =>
      have hact := (Part.claimByRole_claiming (hrole.trans hr) (by rw [hgroup]; exact hc)).trans
        (if_pos ⟨hk, better.2 hwins⟩)
      have hgroup' := Part.group_evaluateAll_of_enterStandby
        (Part.SameView.refl ((u.claimHeard c.group).enterStandby c.group .claimFailed) c.group)
      rw [Part.group_enterStandby, Part.freshClaim_claimHeard hl, hgroup] at hgroup'
      exact ⟨_, done hact, congrArg GroupRec.role hgroup', congrArg GroupRec.claim hgroup',
        (congrArg GroupRec.holdOff hgroup' : _), congrArg GroupRec.peerClaiming hgroup'⟩
    case goesOn =>
      have hact := (Part.claimByRole_claiming (hrole.trans hr) (by rw [hgroup]; exact hc)).trans
        (if_neg fun ⟨hk, hb⟩ => hstays.elim (· hk) (· (better.1 hb)))
      refine ⟨_, done hact, ?_, Part.evaluateAll_smt _, Part.evaluateAll_rpu _⟩
      exact (Part.group_evaluateAll_rest (by rw [hrole, hr]; decide) (by rw [hrole, hr]; decide)).trans hgroup
    case listens =>
      have hact := done (Part.claimByRole_rest (.inr (.inr (hrole.trans hr))))
      refine ⟨_, hact, (congrArg GroupRec.role (Part.group_evaluateAll _ _)).trans ?_⟩
      rw [Part.evaluate_listen (hrole.trans hr) (Part.listenMeets_claimHeard hl)]
      exact (Part.enterStandby_stays (Part.freshClaim_claimHeard hl) _).1

end Sys2Proof.Machine

namespace Sys2Proof.Machine

variable {p q r : Part} {g : Group}

/-! #### A split brain (R136) -/

theorem Part.losesSplit_iff {n : Nat} : p.losesSplit g n = true
    ↔ p.splitMerit g < n ∨ (p.splitMerit g = n ∧ p.otherMember.toNat < p.self.toNat) := by
  simp [Part.losesSplit]

/-- `q` shows group `g` as `p` does: what moves there is another group. -/
structure Part.Untouched (p q : Part) (g : Group) : Prop extends p.SameView q g where
  pulseSent : q.rcu.pulseSent = p.rcu.pulseSent
  forget : q.smt.forget.get g = p.smt.forget.get g
  takeover : p.smt.takeover.get g = none → q.smt.takeover.get g = none

namespace Part.Untouched

theorem refl (p : Part) (g : Group) : p.Untouched p g := ⟨.refl p g, rfl, rfl, id⟩

/-- Who loses a split brain over the group. -/
theorem losesSplit (h : p.Untouched q g) (announced : Nat) : q.losesSplit g announced = p.losesSplit g announced := by
  have hmerit : q.splitMerit g = p.splitMerit g := by simp only [Part.splitMerit, h.pulseSent, h.group, h.merit]
  rw [Bool.eq_iff_iff, Part.losesSplit_iff, Part.losesSplit_iff, hmerit, h.otherMember, h.self]

theorem walksLeft (h : p.Untouched q g) (hp : p.WalksLeft g) : q.WalksLeft g :=
  ⟨h.forget.trans hp.forget, h.takeover hp.takeover⟩

theorem enterStandby {h : Group} (hne : g ≠ h) (cause : RoleCause) : p.Untouched (p.enterStandby h cause) g := by
  have hrcu : p.GroupsAlone (p.enterStandby h cause) :=
    (Part.GroupsAlone.setRole p h .standby cause).trans (.evalStandby _ h)
  refine ⟨⟨⟨by simp, by simp, by simp⟩, p.group_enterStandby_ne hne cause⟩, by rw [hrcu], by simp, by simp⟩

theorem standsDown {h : Group} (hne : g ≠ h) (cause : RoleCause) : p.Untouched (p.standsDown h cause) g := by
  have hrcu : p.GroupsAlone ((p.exitActive h .standby cause).evalStandby h) :=
    ((Part.GroupsAlone.setRole p h .standby cause).trans (r := p.exitActive h .standby cause) rfl).trans (.evalStandby _ h)
  have w := (p.enters_exitActive h cause).toSameWorld
  have hsmt : ((p.exitActive h .standby cause).evalStandby h).smt
      = { p.smt with forget := p.smt.forget.set h (some 0), takeover := p.smt.takeover.set h none } :=
    (Part.evalStandby_smt _ h).trans (p.smt_exitActive h .standby cause)
  refine ⟨⟨w.trans ⟨by simp [Part.standsDown], by simp [Part.standsDown], by simp [Part.standsDown]⟩, ?_⟩, ?_, ?_, fun hn => ?_⟩
  · rw [Part.standsDown, Part.group_serveFreed, Part.group_evalStandby_ne _ hne, Part.group_exitActive, if_neg hne]
  · rw [Part.standsDown, Part.serveFreed_rcu, hrcu]
  · rw [Part.standsDown, Part.forget_serveFreed, hsmt]
    exact PerGroup.get_set_ne _ _ hne
  · refine Part.takeover_serveFreed_none _ _ ?_
    rw [hsmt]
    exact (PerGroup.get_set_ne _ _ hne).trans hn

theorem meetsPulse {h : Group} (hne : g ≠ h) (roles : PerGroup (Option Role)) (merits : PerGroup (Option (BitVec 8))) :
    p.Untouched (p.meetsPulse roles merits h) g := by
  rcases Part.meetsPulse_cases roles merits h p with hm | hm | hm <;> rw [hm]
  · exact refl p g
  · exact enterStandby hne _
  · exact standsDown hne _

end Part.Untouched

/-- A PULSE comes for either group to its act on that group. -/
theorem Part.meetsPulse_each (roles : PerGroup (Option Role)) (merits : PerGroup (Option (BitVec 8))) (p : Part) (g : Group) :
    ∃ x, p.Untouched x g
      ∧ (x.meetsPulse roles merits g).Untouched ((p.meetsPulse roles merits .g0).meetsPulse roles merits .g1) g := by
  cases g with
  | g0 => exact ⟨p, .refl p _, .meetsPulse (by decide) roles merits⟩
  | g1 => exact ⟨p.meetsPulse roles merits .g0, .meetsPulse (by decide) roles merits, .refl _ _⟩

section

variable {roles : PerGroup (Option Role)} {merits : PerGroup (Option (BitVec 8))} {m : BitVec 8}

/-- An ACTIVE group leaves for STANDBY where it loses, and is left where it wins (R136). -/
theorem Part.meetsPulse_split (hr : p.role g = .active) (ha : roles.get g = some .active) (hm : merits.get g = some m) :
    p.meetsPulse roles merits g = if p.losesSplit g m.toNat then p.standsDown g .splitBrain else p := by
  unfold Part.meetsPulse Part.pulseMeetsGroup
  simp only [ha, hr, hm, Option.elim_some, decide_true, Bool.true_and]
  rfl

/-- The loser of a split brain (R130, R136). -/
theorem Part.pulseOfOther_loses (hr : p.role g = .active) (ha : roles.get g = some .active) (hm : merits.get g = some m)
    (hl : (p.standingsAnnounced roles).losesSplit g m.toNat = true) :
    (p.pulseOfOther roles merits).WalksLeft g ∧ ∃ x, (p.standingsAnnounced roles).SameView x g
      ∧ (p.pulseOfOther roles merits).group g = (x.enterStandby g .splitBrain).group g := by
  obtain ⟨x, hx, hv⟩ := Part.meetsPulse_each roles merits (p.standingsAnnounced roles) g
  have hrx : x.role g = .active := by rw [hx.role, Part.role, Part.group_standingsAnnounced]; exact hr
  rw [Part.meetsPulse_split hrx ha hm, hx.losesSplit, if_pos hl] at hv
  refine ⟨(hv.walksLeft (x.walksLeft_standsDown g .splitBrain)).of_smt (Part.evaluateAll_smt _), x, hx.toSameView, ?_⟩
  have hview := (Part.sameView_serveFreed ((x.exitActive g .standby .splitBrain).evalStandby g) x g).trans hv.toSameView
  exact ((x.enters_exitActive g .splitBrain).group_evaluateAll hview).trans (x.group_enterStandby g .splitBrain).symm

/-- The winner (R136). -/
theorem Part.pulseOfOther_wins (hr : p.role g = .active) (ha : roles.get g = some .active) (hm : merits.get g = some m)
    (hl : (p.standingsAnnounced roles).losesSplit g m.toNat = false) :
    (p.pulseOfOther roles merits).group g = (p.standingsAnnounced roles).group g
      ∧ (p.pulseOfOther roles merits).smt.forget.get g = p.smt.forget.get g := by
  obtain ⟨x, hx, hv⟩ := Part.meetsPulse_each roles merits (p.standingsAnnounced roles) g
  have hrx : x.role g = .active := by rw [hx.role, Part.role, Part.group_standingsAnnounced]; exact hr
  rw [Part.meetsPulse_split hrx ha hm, hx.losesSplit, if_neg (by simp [hl])] at hv
  have hrole := hv.role.trans hrx
  rw [Part.pulseOfOther_eq, Part.evaluateAll_smt]
  refine ⟨?_, hv.forget.trans hx.forget⟩
  rw [Part.group_evaluateAll_rest (by simp [hrole]) (by simp [hrole]), hv.group, hx.group]

end

/-- Settles O22: the loser enters STANDBY on the view that the PULSE leaves, from which only a PREEMPT claim may follow. -/
theorem splitBrainLoserLeavesActive : Obligations.SplitBrainLoserLeavesActive := by
  intro s l rx c g m cfg h hp hst hr ha hm mine loses
  have hhears := h
  obtain ⟨⟨-, -, -, -, -, hlive, -⟩, -⟩ := hhears
  set a := s.afterHeader l s.otherMember (some (l.other, rx.bytes))
  have hmem : a.isMember = true := (Part.isMember_of_profile hp).trans (decide_eq_true hst)
  have hpeer : (a.peer a.otherMember).state = .live := of_decide_eq_true (Part.otherLive_afterHeader hlive l _)
  have hexec := exec_pulse h
  rw [show a.takePulse s.otherMember c = (a.pulseWritten c).pulseOfOther c.roles c.merits from Part.takePulse_other hmem c]
    at hexec
  have hsplit : ((a.pulseWritten c).standingsAnnounced c.roles).losesSplit g m.toNat = true ↔ loses := by
    rw [Part.losesSplit_iff, Part.splitMerit, Part.group_standingsAnnounced]
    rfl
  have hr' : (a.pulseWritten c).role g = .active := hr
  refine ⟨_, hexec, fun hl => ?loses, fun hl => ?wins⟩
  case loses =>
    obtain ⟨hwalks, x, hx, hgx⟩ := Part.pulseOfOther_loses hr' ha hm (hsplit.2 hl)
    have hfresh := Part.freshClaim_live (g := g) (hx.otherLive.trans (Part.otherLive_pulseWritten hpeer c))
    have hrole : (s.withPart ((a.pulseWritten c).pulseOfOther c.roles c.merits)).role g
        = (x.enterStandby g .splitBrain).role g := congrArg GroupRec.role hgx
    have hleft : (x.enterStandby g .splitBrain).role g ≠ .active ∧ ((x.enterStandby g .splitBrain).group g).fp = false := by
      rw [Part.role, Part.group_enterStandby]
      cases x.freshClaim g <;> simp [GroupRec.standbyNext, GroupRec.withVacancy, GroupRec.claimed, GroupRec.enter]
    refine ⟨hrole.trans_ne hleft.1, (congrArg GroupRec.fp hgx).trans hleft.2, hwalks.forget, hwalks.takeover, fun hno => ?_, ?_⟩
    · have hpre : x.preemptConditions g = false := by
        rw [hx.preemptConditions]
        refine Bool.eq_false_iff.2 fun hyes => ?_
        obtain ⟨-, hcfg, -⟩ := (Part.preemptConditions_announced (g := g) hpeer hp hm).1 hyes
        rw [hno] at hcfg
        cases hcfg
      rw [hpre] at hfresh
      exact hrole.trans (Part.enterStandby_stays hfresh .splitBrain).1
    · refine (congrArg GroupRec.holdOff hgx).trans ((x.holdOff_enterStandby g _).trans ?_)
      rw [hx.group, Part.group_standingsAnnounced]
      rfl
  case wins =>
    obtain ⟨hgroup, hforget⟩ := Part.pulseOfOther_wins hr' ha hm (Bool.eq_false_iff.2 fun h => hl (hsplit.1 h))
    refine ⟨hgroup.trans ((Part.group_standingsAnnounced _ _ g).trans ?_), hforget⟩
    rw [ha]
    exact congrArg (fun mark => { s.group g with peerClaiming := false, rebirthMark := mark }) (Bool.and_false _)

end Sys2Proof.Machine

namespace Sys2Proof.Machine

variable {p q r : Part} {g : Group}

/-! #### A walk served as a group gives up its buffers (R162, R166) -/

/-- A walk that does not wait takes nothing at a retry. -/
theorem Part.retryWalk_idle (h : p.walkIsWaiting g = false) : p.retryWalk g = p := by
  unfold Part.retryWalk
  split
  · rename_i w hw
    have hwait : w.waiting = false := by simpa [Part.walkIsWaiting, hw] using h
    exact if_pos (by simp [hwait])
  · rfl

theorem Part.walkIsWaiting_none (h : p.smt.takeover.get g = none) : p.walkIsWaiting g = false := by
  simp [Part.walkIsWaiting, h]

/-- With one group's walk stopped the other's alone is served. -/
theorem Part.serveWaiting_other (h : p.smt.takeover.get g = none) : p.serveWaiting = p.retryWalk g.other := by
  have hidle := Part.walkIsWaiting_none h
  unfold Part.serveWaiting
  cases g with
  | g0 =>
    rw [if_neg (by simp [hidle]), Part.retryWalk_idle hidle]
    rfl
  | g1 =>
    rw [if_neg (by simp [hidle])]
    exact Part.retryWalk_idle (Part.walkIsWaiting_none (Part.takeover_retryWalk_none _ _ h))

/-- A waiting walk takes its waiting visit or end, unless the buffer that holds its slot is not FREE yet (R162, R163). -/
theorem Part.retryWalk_waiting {w : TakeoverWalk} (hw : p.smt.takeover.get g = some w) (hwait : w.waiting = true) :
    p.retryWalk g = if p.heldBack w then p
      else if w.cursor < 65536 then (p.walkTo g w.cursor).takeoverVisit g else (p.walkTo g w.cursor).takeoverEnd g := by
  unfold Part.retryWalk
  rw [hw]
  simp only [hwait, Bool.not_true, Bool.false_or]

theorem Buffer.isFree_leave (g : Group) (b : Buffer) : (b.leave g).isFree = (b.isFree || b.fillingFor g) := by
  cases b with
  | free => rfl
  | filling g' recs => by_cases h : g' = g <;> simp [Buffer.leave, Buffer.isFree, Buffer.fillingFor, h]
  | posted g' recs final emitted void => rfl

/-- Giving up its buffers makes a group's FILLING one FREE, and no other (R166). -/
theorem Part.freeBuffers_leave (hb : q.tku.buffers = p.tku.buffers.map (Buffer.leave g)) :
    p.freeBuffers < q.freeBuffers ↔ p.fillingBuffer g ≠ none := by
  have hfree (i : Fin 8) : (q.buffer i).isFree = ((p.buffer i).isFree || (p.buffer i).fillingFor g) := by
    rw [← Buffer.isFree_leave]
    simp [Part.buffer, hb]
  have hsub : (bufferNumbers.filter fun i => (p.buffer i).isFree).Sublist
      (bufferNumbers.filter fun i => (q.buffer i).isFree) :=
    List.monotone_filter_right _ fun i hi => by simp [hfree, hi]
  unfold Part.freeBuffers
  constructor
  · intro hlt hnone
    have hnot := List.find?_eq_none.1 hnone
    rw [List.filter_congr fun i hi => show (q.buffer i).isFree = (p.buffer i).isFree by simp [hfree, hnot i hi]] at hlt
    exact Nat.lt_irrefl _ hlt
  · intro hsome
    obtain ⟨i, hi⟩ := Option.ne_none_iff_exists'.1 hsome
    have hfill : (p.buffer i).fillingFor g = true :=
      List.find?_some (p := fun i => (p.buffer i).fillingFor g) hi
    have hnot : (p.buffer i).isFree = false := by cases hbuf : p.buffer i <;> simp_all [Buffer.fillingFor, Buffer.isFree]
    refine Nat.lt_of_le_of_ne hsub.length_le fun heq => ?_
    have hin : i ∈ bufferNumbers.filter fun i => (q.buffer i).isFree :=
      List.mem_filter.2 ⟨List.mem_of_find?_eq_some hi, by simp [hfree, hfill]⟩
    rw [← hsub.eq_of_length heq] at hin
    rw [(List.mem_filter.1 hin).2] at hnot
    cases hnot

/-! #### Acts on the roles alone -/

/-- `q` comes of `p` by acts on the roles, the frames they queue and the notices they place. -/
structure Part.RolesMove (p q : Part) : Prop extends p.SameWorld q where
  smt : q.smt = p.smt
  rpu : q.rpu = p.rpu
  tku : q.tku = p.tku
  fence : q.rcu.fence = p.rcu.fence
  ingress : q.evp.ingress = p.evp.ingress
  resetHeld : q.evp.resetHeld = p.evp.resetHeld

theorem Part.RolesMove.trans (h : p.RolesMove q) (h' : q.RolesMove r) : p.RolesMove r :=
  ⟨h.toSameWorld.trans h'.toSameWorld, h'.smt.trans h.smt, h'.rpu.trans h.rpu, h'.tku.trans h.tku, h'.fence.trans h.fence,
    h'.ingress.trans h.ingress, h'.resetHeld.trans h.resetHeld⟩

theorem Part.port_roleNotice (p : Part) (g : Group) (old new : Role) (cause : RoleCause) :
    (p.roleNotice g old new cause).evp.ingress = p.evp.ingress
      ∧ (p.roleNotice g old new cause).evp.resetHeld = p.evp.resetHeld := by
  unfold Part.roleNotice
  split
  · exact ⟨rfl, rfl⟩
  · split
    · exact ⟨rfl, rfl⟩
    · exact ⟨rfl, rfl⟩

theorem Part.rolesMove_setRole (p : Part) (g : Group) (new : Role) (cause : RoleCause) : p.RolesMove (p.setRole g new cause) := by
  obtain ⟨hin, hheld⟩ := p.port_roleNotice g (p.role g) new cause
  exact ⟨p.sameWorld_setRole g new cause, by simp, by simp, by simp, by simp, by rw [Part.setRole_evp, hin],
    by rw [Part.setRole_evp, hheld]⟩

theorem Part.rolesMove_evalStandby (p : Part) (g : Group) : p.RolesMove (p.evalStandby g) := by
  have timed : p.RolesMove (p.updateVacancy g) :=
    ⟨p.sameWorld_updateVacancy g, by simp, by simp, by simp, (Part.GroupsAlone.updateVacancy p g).fence, by simp, by simp⟩
  have claims (kind : ClaimKind) : p.RolesMove ((p.updateVacancy g).makeClaim g kind) :=
    (timed.trans (Part.rolesMove_setRole _ g .claiming (causeOfClaim kind))).trans ⟨⟨rfl, rfl, rfl⟩, rfl, rfl, rfl, rfl, rfl, rfl⟩
  by_cases hr : p.role g = .standby
  · rcases Part.evalStandby_cases hr with he | ⟨kind, he⟩ <;> rw [he]
    · exact timed
    · exact claims kind
  · rw [Part.evalStandby, if_pos hr]
    exact ⟨⟨rfl, rfl, rfl⟩, rfl, rfl, rfl, rfl, rfl, rfl⟩

theorem Part.rolesMove_completeYield (p : Part) (g : Group) (timedOut : Bool) : p.RolesMove (p.completeYield g timedOut) := by
  have ended : p.RolesMove (p.yieldEnded g timedOut) := by
    have h := p.rolesMove_setRole g .standby (if timedOut then .handoverTimeout else .flushed)
    rw [p.yieldEnded_eq]
    exact ⟨⟨h.profile, h.clock, h.ppu⟩, h.smt, h.rpu, h.tku, h.fence, h.ingress, h.resetHeld⟩
  exact ended.trans (Part.rolesMove_evalStandby _ g)

/-! #### HANDOVER (R133, R134) -/

/-- The part as an exit for YIELDING leaves it, before the other group's walk is served (R134). -/
def Part.yieldMade (p : Part) (g : Group) (cause : RoleCause) (pending : PendingFrame) : Part :=
  (p.yielded g cause pending).flushTest g

section

variable (p) (cause : RoleCause) (pending : PendingFrame)

theorem Part.rolesMove_yieldMade : (p.yielded g cause pending).RolesMove (p.yieldMade g cause pending) := by
  unfold Part.yieldMade Part.flushTest
  split
  · exact Part.rolesMove_completeYield _ g false
  · exact ⟨⟨rfl, rfl, rfl⟩, rfl, rfl, rfl, rfl, rfl, rfl⟩

/-- What the exit makes of the part besides its group. -/
theorem Part.frame_yieldMade : (p.yieldMade g cause pending).smt
      = { p.smt with takeover := p.smt.takeover.set g none, forget := p.smt.forget.set g (some 0) }
    ∧ (p.yieldMade g cause pending).tku = { p.tku with buffers := p.tku.buffers.map (Buffer.leave g) }
    ∧ (p.yieldMade g cause pending).evp.ingress = p.evp.ingress ∧ (p.yieldMade g cause pending).rpu = p.rpu
    ∧ (p.yieldMade g cause pending).ppu = p.ppu ∧ (p.yieldMade g cause pending).rcu.fence = p.rcu.fence
    ∧ (p.yieldMade g cause pending).clock = p.clock
    ∧ (p.yieldMade g cause pending).evp.resetHeld = p.evp.resetHeld := by
  have moved := p.rolesMove_setRole g .yielding cause
  have made := p.rolesMove_yieldMade (g := g) cause pending
  refine ⟨made.smt.trans (p.smt_yielded g cause pending), made.tku.trans ?_, made.ingress.trans moved.ingress,
    made.rpu.trans moved.rpu, made.ppu.trans moved.ppu, made.fence.trans moved.fence, made.clock.trans moved.clock,
    made.resetHeld.trans moved.resetHeld⟩
  simp [Part.yielded, Part.exitActive, Part.stopTakeover]

theorem Part.group_yieldMade_other : (p.yieldMade g cause pending).group g.other = p.group g.other := by
  have hne : g.other ≠ g := by cases g <;> decide
  have hyielded : (p.yielded g cause pending).group g.other = p.group g.other := by rw [p.group_yielded, if_neg hne]
  unfold Part.yieldMade Part.flushTest
  split
  · rw [Part.group_completeYield_ne hne, hyielded]
  · exact hyielded

variable {p cause pending}

theorem Part.yieldMade_waits (ho : p.outstanding g ≠ 0) : p.yieldMade g cause pending = p.yielded g cause pending :=
  Part.flushTest_waits (.inr (by rwa [p.outstanding_yielded]))

theorem Part.yieldMade_ends (ho : p.outstanding g = 0) :
    p.yieldMade g cause pending = (p.yielded g cause pending).completeYield g false :=
  Part.flushTest_ends (p.role_yielded g cause pending) (by rwa [p.outstanding_yielded])

/-- A group that goes through YIELDING to STANDBY in one act. -/
theorem Part.group_yieldMade_ends (ho : p.outstanding g = 0) (hf : p.freshClaim g = none) :
    (p.yieldMade g cause pending).group g
      = ((p.group g).enter .standby).withVacancy (p.idleMember g) (p.after p.pulseInterval) := by
  have w := p.sameWorld_yielded g cause pending
  have hy := p.group_yielded_same g cause pending
  have hidle : (p.yielded g cause pending).idleMember g = p.idleMember g := by
    simp [Part.idleMember, Part.standingIdle, w.otherLive, w.standing (g := g) (by rw [hy]; rfl)]
  have henter : ((p.group g).yielded (p.after p.handoverTimeout) pending).enter .standby = (p.group g).enter .standby := by
    simp [GroupRec.yielded, GroupRec.enter]
  rw [Part.yieldMade_ends ho, Part.group_completeYield, p.freshClaim_yielded, hf, hidle, w.after, w.pulseInterval, hy, henter]
  rfl

theorem Part.yields_yieldMade (ho : p.outstanding g = 0) (hf : p.freshClaim g = none) :
    (p.yieldMade g cause .yield).mbi.yields = (p.mbi.yields.filter fun x => decide (x ≠ g)) ++ [g] := by
  have hfresh := (p.freshClaim_yielded g cause .yield).trans hf
  have hyields : (p.yielded g cause .yield).mbi.yields = p.mbi.yields.filter fun x => decide (x ≠ g) :=
    (p.frames_setRole g .yielding cause).2
  rw [Part.yieldMade_ends ho, (Part.completeYield_stays hfresh).1,
    (Part.pending_queued _ g false).2 (by rw [p.group_yielded_same]; rfl), hyields, List.filter_filter]
  simp

/-- Both changes of role are told where the FIFO has room and the group no mark (R142). -/
theorem Part.egress_yieldMade (ho : p.outstanding g = 0) (hf : p.freshClaim g = none)
    (hm : p.evp.roleMarks.get g = none) (hroom : p.evp.egress.length < 63) : (p.yieldMade g cause pending).evp.egress
      = p.evp.egress ++ [.role g .yielding cause false, .role g .standby .flushed false] := by
  have hfresh := (p.freshClaim_yielded g cause pending).trans hf
  have hfirst : (p.yielded g cause pending).evp = (p.roleNotice g (p.role g) .yielding cause).evp := p.setRole_evp g .yielding cause
  rw [Part.roleNotice_open hm (by omega)] at hfirst
  have hegress : (p.yielded g cause pending).evp.egress = p.evp.egress ++ [.role g .yielding cause false] :=
    congrArg (·.egress) hfirst
  have hmark : (p.yielded g cause pending).evp.roleMarks.get g = none := by rw [hfirst]; exact hm
  rw [Part.yieldMade_ends ho, (Part.completeYield_stays hfresh).2, Part.egress_setRole hmark (by simp [hegress]; omega), hegress]
  simp

end

/-- The walk of the other group, served as group `g` gives up its buffers (R162, R166). -/
theorem Part.serveFreed_yieldMade {cause : RoleCause} {pending : PendingFrame} :
    (p.yieldMade g cause pending).serveFreed p = if p.fillingBuffer g ≠ none then
      (p.yieldMade g cause pending).retryWalk g.other else p.yieldMade g cause pending := by
  obtain ⟨hsmt, htku, -⟩ := p.frame_yieldMade (g := g) cause pending
  have hstopped : (p.yieldMade g cause pending).smt.takeover.get g = none := by rw [hsmt]; exact PerGroup.get_set_same _ _ _
  have hbuffers : (p.yieldMade g cause pending).tku.buffers = p.tku.buffers.map (Buffer.leave g) := congrArg Tku.buffers htku
  rw [Part.serveFreed, Part.serveWaiting_other hstopped]
  exact if_congr (Part.freeBuffers_leave hbuffers) rfl rfl

/-- It stands as it stood before. -/
theorem Part.takeover_yieldMade_other {cause : RoleCause} {pending : PendingFrame} :
    (p.yieldMade g cause pending).smt.takeover.get g.other = p.smt.takeover.get g.other := by
  rw [(p.frame_yieldMade (g := g) cause pending).1]
  exact PerGroup.get_set_ne _ _ (by cases g <;> decide)

/-- A HANDOVER that names a group, after the PROFILE (R133). -/
theorem Part.takeHandover_eq {ws : List Word32} (hlen : ws.length = 1) (hg : groupOfNat (recordParameter ws).toNat = some g)
    (hp : p.profile ≠ none) : p.takeHandover ws = if p.role g ≠ .active then (p, refusal ws .notActive)
      else if p.otherLive && decide (p.standing g = some .standby) then (p.enterYielding g .handover .yield, none)
      else (p, refusal ws .noPeer) := by
  simp [Part.takeHandover, hlen, hg, hp]

/-- Settles O14: the exit (`Part.yieldMade`), with the flush complete at once where nothing is outstanding, then the other group's walk
(`Part.serveFreed_yieldMade`). -/
theorem handoverYields : Obligations.HandoverYields := by
  intro s ws rest g h hlen hg hp
  have htake := Part.takeHandover_eq (p := (s.leaves rest).toPart) hlen hg hp
  refine ⟨fun hr => exec_refused h (htake.trans (if_pos hr)), fun hr hno => exec_refused h ?noPeer, fun hr hl hst => ?accepted⟩
  case noPeer =>
    refine htake.trans ((if_neg (not_not.2 hr)).trans (if_neg fun hyes => ?_))
    obtain ⟨hlive, hstandby⟩ := Bool.and_eq_true_iff.1 hyes
    rcases hno with hl | hs
    · exact absurd (hlive.symm.trans hl) (by decide)
    · exact hs (of_decide_eq_true hstandby)
  case accepted =>
    set u := (s.leaves rest).toPart with hu
    have hs : s.evp.resetHeld = false := h.1
    have hopen : s.evp.egress.length < 56 := h.2.2.2.2
    have hlive : u.otherLive = true := hl
    have hstanding : u.standing g = some .standby := hst
    have hyes : (u.otherLive && decide (u.standing g = some .standby)) = true := by simp [hlive, hstanding]
    have hexec := exec_taken h (htake.trans ((if_neg (not_not.2 hr)).trans (if_pos hyes)))
    rw [Part.enterYielding_eq hlive] at hexec
    change exec .handoverRecord s
      = .next (s.withPart ((u.yieldMade g .handover .yield).serveFreed u)) at hexec
    have hserved := Part.serveFreed_yieldMade (p := u) (g := g) (cause := .handover) (pending := .yield)
    set c := u.yieldMade g .handover .yield with hc
    have hfresh : u.freshClaim g = none := Part.freshClaim_of_standing hlive (by simp [hstanding])
    have hwalk : c.smt.takeover.get g.other = s.smt.takeover.get g.other := Part.takeover_yieldMade_other
    obtain ⟨hsmt, htku, hin, hrpu, hppu, hfence, hclock, hheld⟩ := u.frame_yieldMade (g := g) .handover .yield
    have waits (ho : s.outstanding g ≠ 0) : c.group g = (u.group g).yielded (u.after u.handoverTimeout) .yield := by
      rw [hc, Part.yieldMade_waits (p := u) ho, u.group_yielded_same]
    have ends (ho : s.outstanding g = 0) : c.group g
        = ((u.group g).enter .standby).withVacancy (u.idleMember g) (u.after u.pulseInterval) :=
      Part.group_yieldMade_ends (p := u) ho hfresh
    have hidle : u.idleMember g = true := by simp [Part.idleMember, Part.standingIdle, hlive, hstanding, Role.idle]
    have still (hx : c.serveFreed u = c) : exec .handoverRecord s = .next (s.withPart c) :=
      hexec.trans (congrArg (fun x => Host.Outcome.next (s.withPart x)) hx)
    refine ⟨s.withPart c, fun hno => still (hserved.trans ?_), fun w hw hwait hfill => ?serves, waits, fun ho => ?flushed, ?fp,
      u.group_yieldMade_other .handover .yield, hsmt, htku, hin, hrpu, hppu, hfence, hclock⟩
    · rcases hno with hidle' | hnone
      · have hother : c.walkIsWaiting g.other = false := by rw [Part.walkIsWaiting, hwalk]; exact hidle'
        rw [Part.retryWalk_idle hother]
        exact ite_self c
      · exact if_neg (not_not.2 hnone)
    case serves =>
      have hretry := Part.retryWalk_waiting (p := c) (hwalk.trans hw) hwait
      rw [if_pos (show u.fillingBuffer g ≠ none from hfill)] at hserved
      have hheldBack : c.heldBack w = true ↔ w.wait = .release ∧ c.slotBuffered (BitVec.ofNat 16 w.cursor) = true := by
        simp [Part.heldBack, slotAt]
      refine ⟨fun hback => still (hserved.trans (hretry.trans (if_pos (hheldBack.2 hback)))), fun hfree => ?_⟩
      rw [if_neg fun hx => hfree (hheldBack.1 hx)] at hretry
      rw [hserved, hretry] at hexec
      have hrunning : (s.withPart (c.walkTo g.other w.cursor)).evp.resetHeld = false := hheld.trans hs
      refine hexec.trans ?_
      by_cases hcur : w.cursor < 65536
      · rw [if_pos hcur, if_pos hcur]
        exact (exec_of_act (i := .takeoverWalkVisit g.other) hrunning rfl).symm
      · rw [if_neg hcur, if_neg hcur]
        exact (exec_of_act (i := .takeoverWalkEnd g.other) hrunning rfl).symm
    case flushed =>
      have hgroup := ends ho
      rw [hidle] at hgroup
      exact ⟨hgroup, congrArg GroupRec.pendingFrame hgroup, congrArg GroupRec.handover hgroup,
        Part.yields_yieldMade (p := u) ho hfresh,
        fun hm => Part.egress_yieldMade (p := u) ho hfresh hm (show s.evp.egress.length < 63 by omega)⟩
    case fp =>
      by_cases ho : s.outstanding g = 0
      · exact congrArg GroupRec.fp (ends ho)
      · exact congrArg GroupRec.fp (waits ho)

end Sys2Proof.Machine

/-! ### What a witness decides -/

namespace Sys2Proof.Machine

variable {p : Part} {v : VoteRecord} {x : Station} {n : BitVec 8}

/-! #### Reading a Vote Record (R146) -/

theorem VoteRecord.grantedTo_iff :
    v.grantedTo x n = true ↔ ∃ gr, v.grant = some gr ∧ gr.grantee = x ∧ gr.number = n := by
  unfold VoteRecord.grantedTo
  cases v.grant <;> simp

theorem VoteRecord.grantee_iff : v.grantee x = true ↔ ∃ gr, v.grant = some gr ∧ gr.grantee = x := by
  unfold VoteRecord.grantee
  cases v.grant <;> simp

/-- An answer memory says nothing of the grant. -/
@[simp] theorem VoteRecord.setMemory_grant (v : VoteRecord) (x : Station) (m : Option AnswerMemory) :
    (v.setMemory x m).grant = v.grant := by
  cases x <;> rfl

/-! #### The verdict on a VACANT claim (R147, R148) -/

theorem VoteRecord.repeatVerdict_deny (h : v.memory x = some { number := n, vote := false }) :
    v.repeatVerdict x n = some .deny := by
  simp [VoteRecord.repeatVerdict, h]

theorem VoteRecord.repeatVerdict_vote (h : v.memory x = some { number := n, vote := true })
    (hg : v.grantedTo x n = true) : v.repeatVerdict x n = some .vote := by
  simp [VoteRecord.repeatVerdict, h, hg]

/-- A claim is decided afresh where its number is not the one answered last, or the grant of that VOTE has lapsed (R148). -/
theorem VoteRecord.repeatVerdict_fresh
    (h : ∀ m, v.memory x = some m → m.number ≠ n ∨ (m.vote = true ∧ v.grantedTo x n = false)) :
    v.repeatVerdict x n = none := by
  unfold VoteRecord.repeatVerdict
  split
  · rename_i m hm
    by_cases hn : m.number = n
    · obtain ⟨hvote, hgrant⟩ := (h m hm).resolve_left (not_not.2 hn)
      simp [hn, hvote, hgrant]
    · exact if_pos hn
  · rfl

/-- A claim is denied while the other member serves the group or holds its grant (R147). -/
theorem Part.claimDenied_iff {g : Group} : p.claimDenied g x = true ↔
    ((p.peer (otherMemberOf x)).state = .live ∧ ((p.peer (otherMemberOf x)).roles.get g = some .active
        ∨ (p.peer (otherMemberOf x)).roles.get g = some .yielding))
      ∨ ∃ gr, (p.vote g).grant = some gr ∧ gr.grantee = otherMemberOf x := by
  have serving (role : Option Role) :
      (role.map Role.serving).getD false = true ↔ role = some .active ∨ role = some .yielding := by
    rcases role with _ | role
    · simp
    · cases role <;> simp [Role.serving]
  simp only [Part.claimDenied, Bool.or_eq_true, Bool.and_eq_true, serving, VoteRecord.grantee_iff, Part.peerLive,
    decide_eq_true_eq]

section decision

variable {c : ClaimFrame}

theorem Part.decideClaim_repeat {verdict : Verdict} (h : (p.vote c.group).repeatVerdict x c.number = some verdict) :
    p.decideClaim x c = p.queueVerdict c.group x c.number verdict := by
  simp only [Part.decideClaim, h]

theorem Part.decideClaim_denied (h : (p.vote c.group).repeatVerdict x c.number = none)
    (hd : p.claimDenied c.group x = true) :
    p.decideClaim x c = (p.setVote c.group ((p.vote c.group).setMemory x
      (some { number := c.number, vote := false }))).queueVerdict c.group x c.number .deny := by
  simp only [Part.decideClaim, h, hd, if_true]

theorem Part.decideClaim_granted (h : (p.vote c.group).repeatVerdict x c.number = none)
    (hd : p.claimDenied c.group x = false) :
    p.decideClaim x c = (p.setVote c.group (({ p.vote c.group with
        grant := some { grantee := x, tick := p.clock, number := c.number } } : VoteRecord).setMemory x
      (some { number := c.number, vote := true }))).queueVerdict c.group x c.number .vote := by
  simp only [Part.decideClaim, h, hd, Bool.false_eq_true, if_false]

/-- A claim of another kind is not answered, nor any while the latch is set (R145, R151). -/
theorem Part.witnessClaim_ignored (h : p.rcu.latch = true ∨ c.kind ≠ .vacant) : p.witnessClaim x c = p := by
  unfold Part.witnessClaim
  split
  · rfl
  · rename_i hl
    have hk := h.resolve_left hl
    split
    · contradiction
    · rfl
    · rfl

theorem Part.witnessClaim_vacant (hl : p.rcu.latch = false) (hk : c.kind = .vacant) :
    p.witnessClaim x c = p.decideClaim x c := by
  simp [Part.witnessClaim, hl, hk]

end decision

/-! #### The header step before the claim (R93, R110) -/

/-- A witness decides a CLAIM that is no copy after its header step (R93, R145). -/
theorem exec_claim_of_witness {s : State} {l : Lane} {rx : Reception} {c : ClaimFrame} (hw : s.isWitness = true)
    (h : s.hearsNew l rx x (.claim c)) : exec (.claimFrame l rx) s
      = .next (s.withPart ((s.afterHeader l x (some (l.other, rx.bytes))).witnessClaim x c)) := by
  have hwitness : (s.afterHeader l x (some (l.other, rx.bytes))).isWitness = true := hw
  have hreceive := State.receive_of_hearsNew h
  rw [Part.handUp] at hreceive
  exact exec_of_act h.1.1 (hreceive.trans (if_pos hwitness))

/-- The header step of a claimer tells nothing of the other member. -/
theorem Part.claimDenied_afterHeader (l : Lane) (e : Option (Lane × List Byte)) (g : Group) :
    (p.afterHeader l x e).claimDenied g x = p.claimDenied g x := by
  have hpeer : (p.afterHeader l x e).peer (otherMemberOf x) = p.peer (otherMemberOf x) := by
    cases x <;> rfl
  unfold Part.claimDenied Part.peerLive
  rw [hpeer]
  rfl

/-! #### The lapse of a grant (R146, R149) -/

theorem Part.grantLapsed_iff {g : Group} :
    p.grantLapsed g = true ↔ ∃ gr, (p.vote g).grant = some gr ∧ p.holdDown ≤ (p.clock - gr.tick).toNat := by
  unfold Part.grantLapsed Part.since
  cases (p.vote g).grant <;> simp

theorem Part.lapseGrant_of_granted {g : Group} {gr : Grant} (h : (p.vote g).grant = some gr) :
    p.lapseGrant g = { p.setVote g { p.vote g with grant := none } with
      mbi := { p.mbi with answers := p.mbi.answers.filter fun a => !a.voteOf g gr } } := by
  simp [Part.lapseGrant, h]

theorem Part.lapseGrant_of_open {g : Group} (h : (p.vote g).grant = none) : p.lapseGrant g = p := by
  simp [Part.lapseGrant, h]

/-- Settles O28: the three verdicts of a VACANT claim are the three ways a claim is decided (`Part.decideClaim_repeat`,
`Part.decideClaim_denied`, `Part.decideClaim_granted`), after a header step that bears on none of them; then the lapse. -/
theorem witnessVotesAndGrantsLapse : Obligations.WitnessVotesAndGrantsLapse := by
  refine ⟨fun s l rx x c hw h => ?claim, fun s g gr hr hg => ⟨fun hd => ?lapses, fun hd => ?early⟩⟩
  case claim =>
    intro u v other answer held heldAs serves
    have taken {q : Part} (hq : u.witnessClaim x c = q) : exec (.claimFrame l rx) s = .next (s.withPart q) :=
      hq ▸ exec_claim_of_witness hw h
    have decided {q : Part} (hl : s.rcu.latch = false) (hk : c.kind = .vacant) (hq : u.decideClaim x c = q) :
        exec (.claimFrame l rx) s = .next (s.withPart q) :=
      taken ((Part.witnessClaim_vacant (p := u) hl hk).trans hq)
    have hdenied : u.claimDenied c.group x = true ↔ serves ∨ held other := by
      rw [Part.claimDenied_afterHeader]
      exact Part.claimDenied_iff
    refine ⟨fun hno => taken (Part.witnessClaim_ignored hno), fun hl hk => ⟨fun hm => ?deny, fun hm hh => ?vote,
      fun hm => ?fresh⟩⟩
    case deny => exact decided hl hk (Part.decideClaim_repeat (VoteRecord.repeatVerdict_deny hm))
    case vote =>
      exact decided hl hk (Part.decideClaim_repeat (VoteRecord.repeatVerdict_vote hm (VoteRecord.grantedTo_iff.2 hh)))
    case fresh =>
      have hnone : v.repeatVerdict x c.number = none := VoteRecord.repeatVerdict_fresh fun m hmem =>
        (hm m hmem).imp_right fun ⟨hvote, hnot⟩ =>
          ⟨hvote, Bool.eq_false_iff.2 fun hyes => hnot (VoteRecord.grantedTo_iff.1 hyes)⟩
      refine ⟨fun hd => decided hl hk (Part.decideClaim_denied hnone (hdenied.2 hd)), fun hs hh => ?_⟩
      exact decided hl hk (Part.decideClaim_granted hnone (Bool.eq_false_iff.2 fun hyes => (hdenied.1 hyes).elim hs hh))
  case lapses =>
    have hlapsed : s.grantLapsed g = true := Part.grantLapsed_iff.2 ⟨gr, hg, hd⟩
    exact exec_of_act hr ((if_pos hlapsed).trans (Part.lapseGrant_of_granted hg))
  case early =>
    refine exec_of_act hr (if_neg fun hlapsed => ?_)
    obtain ⟨gr', hg', hd'⟩ := Part.grantLapsed_iff.1 hlapsed
    obtain rfl : gr = gr' := Option.some.inj (hg.symm.trans hg')
    omega

end Sys2Proof.Machine

/-! ### What becomes of a grant -/

namespace Sys2Proof.Machine

variable (p : Part)

/-! #### What each operation leaves of the Witness Unit -/

@[simp] theorem Part.writePulse_wtu (y : Station) (c : PulseContent) : (p.writePulse y c).wtu = p.wtu := rfl

theorem Part.onlyIf_wtu (c : Bool) {f : Part → Part} (hf : (f p).wtu = p.wtu) : (p.onlyIf c f).wtu = p.wtu := by
  unfold Part.onlyIf
  split
  · exact hf
  · rfl

@[simp] theorem Part.pulseOfOther_wtu (roles : PerGroup (Option Role)) (merits : PerGroup (Option (BitVec 8))) :
    (p.pulseOfOther roles merits).wtu = p.wtu := by
  unfold Part.pulseOfOther
  dsimp only
  rw [Part.evaluateAll_wtu]
  (repeat' split) <;> simp

@[simp] theorem Part.takePulse_wtu (y : Station) (c : PulseContent) : (p.takePulse y c).wtu = p.wtu := by
  unfold Part.takePulse
  dsimp only
  (repeat' split) <;> simp

@[simp] theorem Part.takePairs_wtu (pairs : List (Slot × Version)) : (p.takePairs pairs).wtu = p.wtu :=
  foldl_keeps _ (·.wtu) (fun q x => by simp) pairs p

theorem Part.takeWire_wtu {w : WireRecord} {q : Part} (h : p.takeWire w = some q) : q.wtu = p.wtu := by
  unfold Part.takeWire Part.meetCollision at h
  (repeat' split at h) <;> cases h <;> simp

@[simp] theorem Part.takeDelta_wtu (ws : List WireRecord) : (p.takeDelta ws).wtu = p.wtu := by
  induction ws generalizing p with
  | nil => rfl
  | cons w ws ih =>
    unfold Part.takeDelta
    split
    · rename_i hq
      rw [ih, Part.flushTests_wtu, p.takeWire_wtu hq]
    · rfl

@[simp] theorem Part.takeDrop_wtu (pairs : List (Slot × Version)) : (p.takeDrop pairs).wtu = p.wtu := by
  induction pairs generalizing p with
  | nil => rfl
  | cons x pairs ih =>
    unfold Part.takeDrop
    split
    · simp [ih]
    · rfl

/-- A member's blocks take no frame's content to the Witness Unit (R93). -/
@[simp] theorem Part.memberTakes_wtu (x : Station) (c : Content) : (p.memberTakes x c).wtu = p.wtu := by
  cases c <;> simp [Part.memberTakes]

@[simp] theorem Part.lose_wtu (y : Station) : (p.lose y).wtu = p.wtu := by
  unfold Part.lose
  dsimp only
  (repeat' split) <;> simp

@[simp] theorem Part.judgeHealth_wtu : p.judgeHealth.wtu = p.wtu := by
  unfold Part.judgeHealth
  split <;> simp

@[simp] theorem Part.epochNow_wtu : p.epochNow.wtu = p.wtu := by
  unfold Part.epochNow
  split
  · refine p.onlyIf_wtu _ ?_
    unfold Part.epoch
    dsimp only
    split <;> simp
  · rfl

/-! #### The bus -/

@[simp] theorem Part.receiveBad_wtu (l : Lane) (rx : Reception) : (p.receiveBad l rx).wtu = p.wtu := by
  unfold Part.receiveBad Part.countBad
  dsimp only
  (repeat' split) <;> simp

theorem Part.buildReceipt_wtu {x : List Byte × Part} (h : p.buildReceipt = some x) : x.2.wtu = p.wtu := by
  unfold Part.buildReceipt at h
  split at h <;> cases h
  rfl

theorem Part.buildSession_wtu {x : TxFrame × List Byte × Part} (h : p.buildSession = some x) : x.2.2.wtu = p.wtu := by
  have framed (slots : List Slot) : (slots.foldl Part.frameSlot p).wtu = p.wtu :=
    foldl_keeps _ (·.wtu) (fun q x => by simp) slots p
  unfold Part.buildSession at h
  (repeat' split at h) <;> cases h <;> exact framed _

theorem Part.takeFrame_wtu {q : Part} (h : p.takeFrame = some q) : q.wtu = p.wtu := by
  have align (l : Lane) (h : p.takeAlignFrame l = some q) : q.wtu = p.wtu := by
    unfold Part.takeAlignFrame at h
    dsimp only at h
    split at h <;> cases h
    rfl
  simp only [Part.takeFrame, Option.orElse_eq_orElse, Option.orElse_eq_or, Option.or_eq_some_iff] at h
  rcases h with h | ⟨-, h | ⟨-, h | ⟨-, h | ⟨-, h | ⟨-, h | ⟨-, h | ⟨-, h⟩⟩⟩⟩⟩⟩⟩
  · unfold Part.takeAnswerFrame at h
    (repeat' split at h) <;> cases h
    rfl
  · unfold Part.takeClaimFrame at h
    (repeat' split at h) <;> cases h
    rfl
  · unfold Part.takeYieldFrame at h
    (repeat' split at h) <;> cases h
    rfl
  · unfold Part.takeReceiptFrame at h
    split at h <;> cases h
    rename_i hb
    exact p.buildReceipt_wtu hb
  · unfold Part.takePulseFrame at h
    split at h <;> cases h
    rfl
  · unfold Part.takeSessionFrame at h
    split at h <;> cases h
    rename_i hb
    exact p.buildSession_wtu hb
  · exact align _ h
  · exact align _ h

@[simp] theorem Part.transmitterTake_wtu : p.transmitterTake.wtu = p.wtu := by
  unfold Part.transmitterTake
  split
  · cases h : p.takeFrame with
    | none => rfl
    | some q => exact p.takeFrame_wtu h
  · rfl

@[simp] theorem Part.startFrame_wtu : p.startFrame.wtu = p.wtu := by
  unfold Part.startFrame
  (repeat' split) <;> simp

@[simp] theorem Part.collision_wtu : p.collision.wtu = p.wtu := by
  unfold Part.collision Part.collide
  dsimp only
  (repeat' split) <;> simp

@[simp] theorem Part.backoffOver_wtu : p.backoffOver.wtu = p.wtu := by
  unfold Part.backoffOver
  (repeat' split) <;> simp

@[simp] theorem Part.frameDone_wtu : p.frameDone.wtu = p.wtu := by
  unfold Part.frameDone
  (repeat' split) <;> simp

@[simp] theorem Part.windowNow_wtu (l : Lane) : (p.windowNow l).wtu = p.wtu := by
  unfold Part.windowNow
  split
  · refine p.onlyIf_wtu _ ?_
    unfold Part.endWindow
    dsimp only
    split <;> simp
  · rfl

@[simp] theorem Part.quietExpiry_wtu (l : Lane) : (p.quietExpiry l).wtu = p.wtu := by
  unfold Part.quietExpiry
  split <;> simp

@[simp] theorem Part.retrain_wtu (l : Lane) (report : LineReport) : (p.retrain l report).wtu = p.wtu := by
  unfold Part.retrain
  dsimp only
  split <;> simp

@[simp] theorem Part.lineFault_wtu (l : Lane) (report : LineReport) : (p.lineFault l report).wtu = p.wtu := by
  unfold Part.lineFault
  dsimp only
  split <;> simp

@[simp] theorem Part.lineClear_wtu (l : Lane) : (p.lineClear l).wtu = p.wtu := by
  unfold Part.lineClear
  dsimp only
  split <;> simp

@[simp] theorem Part.alignNow_wtu (l : Lane) : (p.alignNow l).wtu = p.wtu := by
  unfold Part.alignNow
  split
  · exact p.onlyIf_wtu _ rfl
  · rfl

/-! #### Records of the ingress stream -/

@[simp] theorem Part.enableLane_wtu (c : Profile) (l : Lane) : (p.enableLane c l).wtu = p.wtu := by
  unfold Part.enableLane
  split <;> simp

@[simp] theorem Part.startMember_wtu (c : Profile) : (p.startMember c).wtu = p.wtu := by
  simp [Part.startMember]

@[simp] theorem Part.configure_wtu (c : Profile) : (p.configure c).wtu = p.wtu := by
  unfold Part.configure
  dsimp only
  split <;> simp

@[simp] theorem Part.releaseRecord_wtu (g : Group) (r : BufferRec) : (p.releaseRecord g r).wtu = p.wtu := by
  unfold Part.releaseRecord Part.markInstalled
  (repeat' split) <;> simp

@[simp] theorem Part.release_wtu (i : Fin 8) : (p.release i).wtu = p.wtu := by
  have records (g : Group) (recs : List BufferRec) :
      (recs.foldl (fun q r => q.releaseRecord g r) p).wtu = p.wtu :=
    foldl_keeps _ (·.wtu) (fun q r => by simp) recs p
  unfold Part.release
  dsimp only
  split
  · split <;> simp [records]
  · rfl

@[simp] theorem Part.takeProfile_wtu (ws : List Word32) : (p.takeProfile ws).1.wtu = p.wtu := by
  unfold Part.takeProfile
  (repeat' split) <;> simp

@[simp] theorem Part.takeOpen_wtu (ws : List Word32) : (p.takeOpen ws).1.wtu = p.wtu := by
  unfold Part.takeOpen
  (repeat' split) <;> simp

@[simp] theorem Part.takeUpdate_wtu (ws : List Word32) : (p.takeUpdate ws).1.wtu = p.wtu := by
  unfold Part.takeUpdate
  (repeat' split) <;> simp

@[simp] theorem Part.takeClose_wtu (ws : List Word32) : (p.takeClose ws).1.wtu = p.wtu := by
  unfold Part.takeClose
  (repeat' split) <;> simp

@[simp] theorem Part.takeAlive_wtu (ws : List Word32) : (p.takeAlive ws).1.wtu = p.wtu := by
  unfold Part.takeAlive
  dsimp only
  (repeat' split) <;> simp

@[simp] theorem Part.takeRelease_wtu (ws : List Word32) : (p.takeRelease ws).1.wtu = p.wtu := by
  unfold Part.takeRelease
  (repeat' split) <;> simp

@[simp] theorem Part.takeHandover_wtu (ws : List Word32) : (p.takeHandover ws).1.wtu = p.wtu := by
  unfold Part.takeHandover
  (repeat' split) <;> simp

@[simp] theorem Part.takeStatus_wtu (ws : List Word32) : (p.takeStatus ws).1.wtu = p.wtu := by
  unfold Part.takeStatus
  split <;> rfl

@[simp] theorem Part.handle_wtu (ws : List Word32) : (p.handle ws).1.wtu = p.wtu := by
  unfold Part.handle
  split <;> simp

@[simp] theorem Part.answerWith_wtu (x : Part × Option EgressRecord) : (Part.answerWith x).wtu = x.1.wtu := by
  unfold Part.answerWith
  split <;> rfl

theorem Part.takeRecord_wtu {f : Part → List Word32 → Part × Option EgressRecord}
    (hf : ∀ (q : Part) ws, (f q ws).1.wtu = q.wtu) (kind : Option IngressKind) :
    (p.takeRecord kind f).wtu = p.wtu := by
  unfold Part.takeRecord
  (repeat' split) <;> simp [hf]

@[simp] theorem Part.pushWords_wtu (ws : List Word32) : (p.pushWords ws).wtu = p.wtu :=
  foldl_keeps _ (·.wtu) (fun q w => by unfold Part.pushWord; split <;> rfl) ws p

/-! #### The egress FIFO -/

theorem Part.takeRevoked_wtu {x : EgressRecord × Part} (h : p.takeRevoked = some x) : x.2.wtu = p.wtu := by
  unfold Part.takeRevoked at h
  split at h <;> cases h
  rfl

theorem Part.takeBatch_wtu {x : EgressRecord × Part} (h : p.takeBatch = some x) : x.2.wtu = p.wtu := by
  unfold Part.takeBatch at h
  (repeat' split at h) <;> cases h
  rfl

@[simp] theorem Part.fillPlace_wtu (n : Nat) : (p.fillPlace n).wtu = p.wtu := by
  unfold Part.fillPlace
  split
  · split
    · rename_i h
      simp only [Part.takeRevokedOrBatch, Option.orElse_eq_orElse, Option.orElse_eq_or, Option.or_eq_some_iff] at h
      exact h.elim p.takeRevoked_wtu fun h => p.takeBatch_wtu h.2
    · rfl
  · rfl

@[simp] theorem Part.giveFreed_wtu (before : Nat) : (p.giveFreed before).wtu = p.wtu := by
  unfold Part.giveFreed Part.giveGeneral
  dsimp only
  (repeat' split) <;> simp

theorem Part.emitMark_wtu {q : Part} (h : p.emitMark = some q) : q.wtu = p.wtu := by
  have role (g : Group) (h : p.emitRoleMark g = some q) : q.wtu = p.wtu := by
    obtain ⟨m, -, rfl⟩ := Option.map_eq_some_iff.1 h
    rfl
  have peer (y : Station) (h : p.emitPeerMark y = some q) : q.wtu = p.wtu := by
    unfold Part.emitPeerMark at h
    split at h <;> cases h
    rfl
  have lane (l : Lane) (h : p.emitLaneMark l = some q) : q.wtu = p.wtu := by
    unfold Part.emitLaneMark at h
    split at h <;> cases h
    rfl
  simp only [Part.emitMark, Option.orElse_eq_orElse, Option.orElse_eq_or, Option.or_eq_some_iff] at h
  rcases h with h | ⟨-, h | ⟨-, h | ⟨-, h | ⟨-, h | ⟨-, h | ⟨-, h⟩⟩⟩⟩⟩⟩
  · exact role _ h
  · exact role _ h
  · exact peer _ h
  · exact peer _ h
  · exact peer _ h
  · exact lane _ h
  · exact lane _ h

@[simp] theorem Part.egressTaken_wtu : p.egressTaken.wtu = p.wtu := by
  unfold Part.egressTaken
  split
  · rfl
  · rename_i rest _
    dsimp only
    cases h : Part.emitMark { p with evp := { p.evp with egress := rest } } with
    | some q => simpa using Part.emitMark_wtu _ h
    | none => simp

@[simp] theorem Part.placeRevoked_wtu : p.placeRevoked.wtu = p.wtu := by
  unfold Part.placeRevoked
  split
  · split
    · rename_i h
      exact p.takeRevoked_wtu h
    · rfl
  · rfl

@[simp] theorem Part.placeBatch_wtu : p.placeBatch.wtu = p.wtu := by
  unfold Part.placeBatch
  split
  · split
    · rename_i h
      exact p.takeBatch_wtu h
    · rfl
  · rfl

/-! #### Timers and walks -/

@[simp] theorem Part.receiptTimer_wtu : p.receiptTimer.wtu = p.wtu := by
  unfold Part.receiptTimer
  split <;> simp

@[simp] theorem Part.listenEnd_wtu (g : Group) : (p.listenEnd g).wtu = p.wtu := by
  unfold Part.listenEnd
  split <;> simp

@[simp] theorem Part.deadTimeEnd_wtu (g : Group) : (p.deadTimeEnd g).wtu = p.wtu := by
  unfold Part.deadTimeEnd
  dsimp only
  split <;> simp

@[simp] theorem Part.clearVisit_wtu : p.clearVisit.wtu = p.wtu := by
  unfold Part.clearVisit
  split
  · exact p.onlyIf_wtu _ rfl
  · rfl

@[simp] theorem Part.clearEnd_wtu : p.clearEnd.wtu = p.wtu := by
  unfold Part.clearEnd
  split
  · exact p.onlyIf_wtu _ rfl
  · rfl

@[simp] theorem Part.refreshEnd_wtu : p.refreshEnd.wtu = p.wtu := by
  unfold Part.refreshEnd
  split
  · exact p.onlyIf_wtu _ rfl
  · rfl

@[simp] theorem Part.forgetVisit_wtu (g : Group) : (p.forgetVisit g).wtu = p.wtu := by
  unfold Part.forgetVisit
  dsimp only
  (repeat' split) <;> simp

@[simp] theorem Part.forgetEnd_wtu (g : Group) : (p.forgetEnd g).wtu = p.wtu := by
  unfold Part.forgetEnd
  split
  · refine p.onlyIf_wtu _ ?_
    unfold Part.enterHeld
    (repeat' split) <;> simp
  · rfl

end Sys2Proof.Machine

namespace Sys2Proof.Machine

variable {p q r : Part} {g : Group}

/-! #### What one act may do to a grant (R146, R147) -/

/-- Of two members, one that is not the other's other member is the same (R146). -/
theorem eq_of_ne_otherMemberOf {a b : Station} (ha : a ≠ .s2) (hb : b ≠ .s2) (h : b ≠ otherMemberOf a) : b = a := by
  cases a <;> cases b <;> simp_all [otherMemberOf]

/-- The grant of group `g`, from `p` to `q`: it stands, or one is made to a member while the other member holds none. -/
inductive Part.GrantMove (p q : Part) (g : Group) : Prop
  | stands (h : (q.vote g).grant = (p.vote g).grant)
  | made (gr : Grant) (hmember : gr.grantee ≠ .s2) (hfree : (p.vote g).grantee (otherMemberOf gr.grantee) = false)
      (h : (q.vote g).grant = some gr)

namespace Part.GrantMove

/-- Acts that leave the Witness Unit alone. -/
theorem of_wtu (h : q.wtu = p.wtu) : p.GrantMove q g := .stands (by rw [Part.vote, Part.vote, h])

/-- Acts that come before, and leave every grant. -/
theorem after_stands (h : q.GrantMove r g) (hq : (q.vote g).grant = (p.vote g).grant) : p.GrantMove r g := by
  cases h with
  | stands h => exact .stands (h.trans hq)
  | made gr hmember hfree h => exact .made gr hmember (by rwa [VoteRecord.grantee, hq] at hfree) h

/-- A grant to a member goes to a member still, and to the same one. -/
theorem keeps_grantee (h : p.GrantMove q g) (hp : ∀ x, (p.vote g).grant = some x → x.grantee ≠ .s2) :
    (∀ y, (q.vote g).grant = some y → y.grantee ≠ .s2)
      ∧ ∀ x, (p.vote g).grant = some x → ∃ y, (q.vote g).grant = some y ∧ y.grantee = x.grantee := by
  cases h with
  | stands h => rw [h]; exact ⟨hp, fun x hx => ⟨x, hx, rfl⟩⟩
  | made gr hmember hfree h =>
    refine ⟨fun y hy => Option.some.inj (h.symm.trans hy) ▸ hmember, fun x hx => ⟨gr, h, ?_⟩⟩
    have hother : x.grantee ≠ otherMemberOf gr.grantee := fun he =>
      Bool.eq_false_iff.1 hfree (VoteRecord.grantee_iff.2 ⟨x, hx, he⟩)
    exact (eq_of_ne_otherMemberOf hmember (hp x hx) hother).symm

end Part.GrantMove

/-! #### A witness and its CLAIM frames -/

/-- A VOTE makes a grant to the claimer, where the other member holds none (R147). -/
theorem Part.grantMove_decideClaim {x : Station} (hx : x ≠ .s2) (c : ClaimFrame) : p.GrantMove (p.decideClaim x c) g := by
  cases hr : (p.vote c.group).repeatVerdict x c.number with
  | some verdict =>
    rw [Part.decideClaim_repeat hr]
    exact .of_wtu rfl
  | none =>
    have written (v : VoteRecord) (verdict : Verdict) :
        ((p.setVote c.group v).queueVerdict c.group x c.number verdict).vote g = if g = c.group then v else p.vote g :=
      Part.vote_setVote p c.group g v
    cases hd : p.claimDenied c.group x with
    | true =>
      rw [Part.decideClaim_denied hr hd]
      refine .stands ?_
      rw [written]
      split
      · rename_i hg
        rw [hg, VoteRecord.setMemory_grant]
      · rfl
    | false =>
      rw [Part.decideClaim_granted hr hd]
      by_cases hg : g = c.group
      · simp only [Part.claimDenied, Bool.or_eq_false_iff] at hd
        exact .made { grantee := x, tick := p.clock, number := c.number } hx (hg ▸ hd.2)
          (by rw [written, if_pos hg, VoteRecord.setMemory_grant])
      · exact .stands (by rw [written, if_neg hg])

theorem Part.grantMove_witnessClaim {x : Station} (hx : x ≠ .s2) (c : ClaimFrame) :
    p.GrantMove (p.witnessClaim x c) g := by
  by_cases h : p.rcu.latch = true ∨ c.kind ≠ .vacant
  · rw [Part.witnessClaim_ignored h]
    exact .of_wtu rfl
  · obtain ⟨hl, hk⟩ := not_or.1 h
    rw [Part.witnessClaim_vacant (by simpa using hl) (not_not.1 hk)]
    exact Part.grantMove_decideClaim hx c

/-- Only a witness decides claims (R93, R145). -/
theorem Part.grantMove_handUp {x : Station} (hx : p.isWitness = true → x ≠ .s2) (c : Content) :
    p.GrantMove (p.handUp x c) g := by
  unfold Part.handUp
  split
  · rename_i hw
    cases c with
    | claim f => exact Part.grantMove_witnessClaim (hx hw) f
    | pulse pc => exact .of_wtu (p.takePulse_wtu x pc)
    | align | delta | drop | receipt | answer | yield => exact .of_wtu rfl
  · exact .of_wtu (p.memberTakes_wtu x c)

/-- A rebirth makes answer memories absent, and leaves the grants (R150). -/
theorem Part.grant_blocksHear (p : Part) (y : Station) (wasLive reborn first : Bool) :
    ((p.blocksHear y wasLive reborn first).vote g).grant = (p.vote g).grant := by
  cases hm : p.isMember
  · rw [Part.blocksHear_witness y hm]
    split
    · rw [Part.vote_forgetAnswers, VoteRecord.setMemory_grant]
    · rfl
  · rw [Part.vote, (Part.rolesHear_blocksHear hm y wasLive reborn first).wtu]
    rfl

/-- The header step leaves the grants, and the configuration (R110). -/
theorem Part.heard_leaves (p : Part) (y : Station) (l : Lane) (inc : BitVec 16) :
    ((p.heard y l inc).vote g).grant = (p.vote g).grant ∧ (p.heard y l inc).profile = p.profile := by
  unfold Part.heard
  dsimp only
  split
  · exact ⟨rfl, rfl⟩
  · rw [Part.recordChanged_eq, Part.grant_blocksHear]
    obtain ⟨hworld, -, -, -, -, hwtu⟩ := (p.setPeer y ((p.peer y).heard l inc p.clock)).recordNoticed_leaves y
      (decide ((p.peer y).state = .live)) ((p.peer y).rebornBy inc)
    refine ⟨?_, (Part.blocksHear_leaves _ _ _ _ _).1.profile.trans hworld.profile⟩
    rw [Part.vote, hwtu]
    rfl

/-- A frame of another station: a witness, which is station 2, hears members alone (R143). -/
theorem Part.grantMove_takeFromOther (l : Lane) (bytes : List Byte) {f : Frame} (hf : f.sender ≠ p.self) :
    p.GrantMove (p.takeFromOther l bytes f) g := by
  obtain ⟨hgrant, hprofile⟩ := (p.setExpect f.sender none).heard_leaves (g := g) f.sender l f.incarnation
  have handed (q : Part) (hv : q.wtu = ((p.setExpect f.sender none).heard f.sender l f.incarnation).wtu)
      (hp : q.profile = p.profile) : p.GrantMove (q.handUp f.sender f.content) g := by
    refine (Part.grantMove_handUp (fun hw => ?_) f.content).after_stands ?_
    · have hself : q.self = p.self := by rw [Part.self, hp, Part.self]
      simp only [Part.isWitness, Bool.and_eq_true, decide_eq_true_eq, hself] at hw
      exact hw.2 ▸ hf
    · rw [Part.vote, hv]
      exact hgrant
  unfold Part.takeFromOther
  dsimp only
  split
  · exact .stands hgrant
  · split
    · exact handed _ rfl hprofile
    · exact handed _ rfl hprofile

theorem Part.grantMove_receive (kind : FrameKind) (l : Lane) (rx : Reception) : p.GrantMove (p.receive kind l rx) g := by
  have lane : ((p.laneHears l).vote g).grant = (p.vote g).grant := by
    rw [Part.vote, Part.laneHears_wtu]
    rfl
  have hself : (p.laneHears l).self = p.self := by rw [Part.self, Part.laneHears_profile, Part.self]
  unfold Part.receive
  split
  · split
    · split
      · unfold Part.takeValid
        dsimp only
        split
        · exact .of_wtu (by simp)
        · rename_i hne
          exact (Part.grantMove_takeFromOther l rx.bytes (hself ▸ hne)).after_stands lane
      · exact .of_wtu rfl
    · exact .of_wtu rfl
    · exact .of_wtu rfl
  · exact .of_wtu rfl

/-! #### The lapse of a grant, and every other command -/

theorem Part.vote_lapseGrant (p : Part) (g h : Group) :
    (p.lapseGrant h).vote g = if g = h then { p.vote g with grant := none } else p.vote g := by
  cases hg : (p.vote h).grant with
  | some gr =>
    rw [Part.lapseGrant_of_granted hg]
    refine (Part.vote_setVote p h g _).trans ?_
    split
    · rename_i he
      rw [he]
    · rfl
  | none =>
    rw [Part.lapseGrant_of_open hg]
    split
    · rename_i he
      rw [← hg, he]
    · rfl

/-- A grant ends at its GRANT_LAPSE alone, after a hold-down (R146). -/
theorem Part.grantMove_grantLapse {h : Group} (hno : h = g → p.grantLapsed g = false) :
    p.GrantMove (p.act (.grantLapse h)) g := by
  change p.GrantMove (p.onlyIf (p.grantLapsed h) fun q => q.lapseGrant h) g
  unfold Part.onlyIf
  split
  · rename_i hlapsed
    have hne : g ≠ h := fun he => Bool.eq_false_iff.1 (hno he.symm) (he ▸ hlapsed)
    exact .stands (by rw [Part.vote_lapseGrant, if_neg hne])
  · exact .of_wtu rfl

/-- Every command but RESET moves a grant so, or lets it lapse: only the frames that a witness takes make one. -/
theorem Part.grantMove_act (p : Part) {i : Instr} (hno : i = .grantLapse g → p.grantLapsed g = false) :
    p.GrantMove (p.act i) g := by
  cases i with
  | alignFrame l rx | pulseFrame l rx | deltaFrame l rx | dropFrame l rx | receiptFrame l rx | claimFrame l rx
  | answerFrame l rx | yieldFrame l rx => exact Part.grantMove_receive _ l rx
  | grantLapse h => exact Part.grantMove_grantLapse fun he => hno (congrArg _ he)
  | profileRecord | openRecord | updateRecord | closeRecord | aliveRecord | releaseRecord | handoverRecord | statusRecord
  | malformedRecord => exact .of_wtu (p.takeRecord_wtu (by simp) _)
  | pauseTimerExpiry | receiptDelay | livenessTimerExpiry | engineSilenceTimerExpiry | listenTimerExpiry | vacancyTimerExpiry
  | deadTimeExpiry | holdOffExpiry | handoverTimerExpiry | quietExpiry | retrainTimerExpiry | lineFault =>
    refine .of_wtu (p.onlyIf_wtu _ ?_)
    simp [Part.receiptDelay, Part.engineSilence, Part.vacancyEnd, Part.holdOffEnd, Part.handoverEnd]
  | _ => exact .of_wtu (by simp [Part.act])

/-- What a command answers of a grant: it moves as `Part.GrantMove` says, or it is gone by its lapse or a RESET. -/
theorem exec_grant_cases {c : Instr} {s t : State} (h : exec c s = .next t) (g : Group) :
    s.GrantMove t.toPart g
      ∨ ((t.vote g).grant = none ∧ (c = .reset ∨ (c = .grantLapse g ∧ s.grantLapsed g = true))) := by
  rcases exec_cases h with rfl | rfl | rfl | ⟨-, rfl⟩
  · cases h
    exact .inr ⟨by cases g <;> rfl, .inl rfl⟩
  · change Host.Outcome.next _ = _ at h
    split at h <;> cases h <;> exact .inl (.of_wtu rfl)
  · exact .inl (.of_wtu rfl)
  · by_cases hl : c = .grantLapse g ∧ s.grantLapsed g = true
    · obtain ⟨rfl, hlapsed⟩ := hl
      refine .inr ⟨?_, .inr ⟨rfl, hlapsed⟩⟩
      have hact : s.toPart.act (.grantLapse g) = s.lapseGrant g := if_pos hlapsed
      rw [hact, Part.vote_lapseGrant, if_pos rfl]
    · exact .inl (s.toPart.grantMove_act fun hc => Bool.eq_false_iff.2 fun hlapsed => hl ⟨hc, hlapsed⟩)

/-- Settles O59: a grant that moves keeps its grantee (`Part.GrantMove.keeps_grantee`), since a VOTE needs that the other
member holds none; it ends by its lapse or by a reset (`exec_grant_cases`). -/
theorem aGrantNeverChangesHands : Obligations.AGrantNeverChangesHands := by
  intro c s t g h hmembers
  rcases exec_grant_cases h g with hmove | ⟨hnone, hends⟩
  · obtain ⟨hmembers', hsame⟩ := hmove.keeps_grantee hmembers
    refine ⟨hmembers', fun x hx => ?_⟩
    obtain ⟨y, hy, hyx⟩ := hsame x hx
    rw [hy]
    exact ⟨fun z hz => Option.some.inj hz ▸ hyx, nofun⟩
  · rw [hnone]
    refine ⟨nofun, fun x hx => ⟨nofun, fun _ => hends.imp_right fun ⟨hc, hlapsed⟩ => ⟨hc, ?_⟩⟩⟩
    obtain ⟨gr, hgr, hd⟩ := Part.grantLapsed_iff.1 hlapsed
    exact Option.some.inj (hgr.symm.trans hx) ▸ hd

end Sys2Proof.Machine
